-- ==== Sys2Proof/Word.lean ====
section
/-! DEFINITION. The widths the manual gives to things it treats as bits: payload words, bytes of the configuration
block, converter codes, station numbers in a key, class numbers. -/

namespace Sys2Proof

/-- A byte of the configuration memory (R165). -/
abbrev Byte := BitVec 8

/-- The sixteen data bits of a payload word or of the check word (R141). -/
abbrev Word := BitVec 16

/-- A converter code, signed, −524288..+524287 (R89). -/
abbrev Code := BitVec 20

/-- The station field of a key, 0..63 (R141). -/
abbrev Station := BitVec 6

/-- The class field of a key, 0..7 (R141). -/
abbrev FrameClass := BitVec 3

/-- The configuration block as the node reads it, bytes 0 to 136 (R165). -/
abbrev ConfigBytes := Vector Byte 137

end Sys2Proof
end

