-- ==== Sys2Proof/Syntax.lean ====
section
/-! DEFINITION. The commands of the node: one constructor per row of spec/opcode_table.json. The table gives no operand
bits; an operand is what the event brings from outside the node (notes/assumptions/1.md). -/

namespace Sys2Proof

/-- What the miss-limit strap pin shows; a pin left open gives 3 (R164). -/
inductive MissPin where
  | one
  | three
  | openPin
  deriving DecidableEq, Repr

/-- The link-rate strap: 31.25 kbit/s or 125 kbit/s (R138, R164). -/
inductive LinkRate where
  | low
  | high
  deriving DecidableEq, Repr

/-- The levels of the three straps at their pins (R164). -/
structure StrapPins where
  station : Station
  miss    : MissPin
  rate    : LinkRate
  deriving DecidableEq, Repr

/-- The feedback inputs A and B of a channel (R44). -/
inductive Input where
  | a
  | b
  deriving DecidableEq, Repr

/-- The two pulse lines from the panel (R155). -/
inductive PulseLine where
  | panelReset
  | ack
  deriving DecidableEq, Repr

/-- A channel: the manual's channel n, 1..12, is `n - 1`. -/
abbrev ChannelNo := Fin 12

/-- A pressure channel: the manual's Pn, 1..4, is `n - 1`. -/
abbrev PressureNo := Fin 4

/-- The commands, in the table's order. -/
inductive Instr where
  /-- POWER_UP (R174), with the levels of the strap pins. -/
  | powerUp (straps : StrapPins)
  /-- RESET_HELD (R156). -/
  | resetHeld
  /-- RESET_HOLD_5S (R156). -/
  | resetHold5s
  /-- WARM_RESET (R173). -/
  | warmReset
  /-- COLD_RESET (R174), with the levels of the strap pins. -/
  | coldReset (straps : StrapPins)
  /-- CONFIG_READ_DONE (R165), with the bytes read. -/
  | configReadDone (block : ConfigBytes)
  /-- LISTEN_TIMER_EXPIRY (R169). -/
  | listenTimerExpiry
  /-- MUTE_QUIET_TIMER_EXPIRY (R171). -/
  | muteQuietTimerExpiry
  /-- LINE_IDLE (R140), with the levels the line carries next, bit by bit, `true` recessive, from which the station judges
  it (notes/assumptions/35.md); the row's own event, ten recessive bits, where none are given. -/
  | lineIdle (levels : List Bool := List.replicate 10 true)
  /-- ATTEMPT_START (R149). -/
  | attemptStart
  /-- ARBITRATION_LOST (R143): the bit of own frame on the wire, the start bit 0, that was sent recessive and read back
  dominant; the first key bit where none is given. -/
  | arbitrationLost (bit : Nat := 1)
  /-- DUPLICATE_KEY_STOP (R144): that bit, after the key. -/
  | duplicateKeyStop (bit : Nat := 10)
  /-- FAILED_ATTEMPT (R146). -/
  | failedAttempt
  /-- RETRY_WAIT_END (R151): by another station's start bit, or by 30 recessive bit times. -/
  | retryWaitEnd (byStartBit : Bool)
  /-- CLEAR_ACCEPTED (R14): station of the key, the one payload word. -/
  | clearAccepted (station : Station) (word : Word)
  /-- OVERRIDE_ACCEPTED (R32). -/
  | overrideAccepted (station : Station) (word : Word)
  /-- FIRE_DECLARE_ACCEPTED (R7): any number of payload words, since the Incident Register checks it (R142). -/
  | fireDeclareAccepted (station : Station) (words : List Word)
  /-- START_CLAIM_ACCEPTED (R76): class URGENT-CLAIM or CLAIM. -/
  | startClaimAccepted (urgent : Bool) (station : Station) (word : Word)
  /-- STATUS_ACCEPTED (R127). -/
  | statusAccepted (station : Station) (w1 w2 w3 w4 : Word)
  /-- OTHER_FRAME_ACCEPTED (R142): class 6 or 7, or a class with a word count that is not its kind's. -/
  | otherFrameAccepted (cls : FrameClass) (station : Station) (words : List Word)
  /-- ISOLATED_DECLARATION_TIMER_EXPIRY (R13). -/
  | isolatedDeclarationTimerExpiry
  /-- ALARM_CHANGE (R154): the new deglitched level. -/
  | alarmChange (active : Bool)
  /-- PANEL_RESET_PULSE (R155). -/
  | panelResetPulse
  /-- ACK_PULSE (R160); `together` where the events up to the next millisecond fall together with it, of which R160 gives
  the outcome (notes/assumptions/38.md). -/
  | ackPulse (together : Bool := false)
  /-- STATUS_PERIOD_TIMER_EXPIRY (R120). -/
  | statusPeriodTimerExpiry
  /-- SPACING_TIMER_EXPIRY (R128): the station whose entry it is. -/
  | spacingTimerExpiry (peer : Station)
  /-- SILENCE_TIMER_EXPIRY (R129): the station whose entry it is. -/
  | silenceTimerExpiry (peer : Station)
  /-- HOLD_OFF_EXPIRY (R71). -/
  | holdOffExpiry
  /-- PROVING_TIMER_EXPIRY (R79). -/
  | provingTimerExpiry (ch : ChannelNo)
  /-- RUN_DOWN_TIMER_EXPIRY (R83). -/
  | runDownTimerExpiry (ch : ChannelNo)
  /-- PROVING_SWITCH_CHANGE (R63): the new deglitched level of input A. -/
  | provingSwitchChange (ch : ChannelNo) (made : Bool)
  /-- LIMIT_CHANGE (R51): the new deglitched level of a limit. -/
  | limitChange (ch : ChannelNo) (input : Input) (made : Bool)
  /-- TRAVEL_TIMER_EXPIRY (R56). -/
  | travelTimerExpiry (ch : ChannelNo)
  /-- GRACE_TIMER_EXPIRY (R114). -/
  | graceTimerExpiry
  /-- CONVERSION_A_DONE (R89): the code of conversion A. -/
  | conversionADone (code : Code)
  /-- PAIR_COMPLETE (R94): the code of conversion B. -/
  | pairComplete (code : Code)
  /-- SUPPLY_SAMPLE (R103): the code of the supply conversion. -/
  | supplySample (code : Code)
  /-- PULSE_LINE_RETURN_INACTIVE (R155). -/
  | pulseLineReturnInactive (line : PulseLine)
  deriving DecidableEq, Repr

end Sys2Proof
end

