-- ==== Sys2Proof/Decode.lean ====
section
/-! DEFINITION. The node has no command encoding: spec/opcode_table.json gives no row any bits, and the ZC-18 has no
processor port and no register window (00_scope.md). So no word spells a command (notes/assumptions/31.md). -/

namespace Sys2Proof

/-- The command a word spells by the table's bits: none, since the table gives no row any bits. -/
def decodeTableWord (_nbits _w : Nat) : Option Instr := none

end Sys2Proof
end

