-- ==== Sys2Proof/Config.lean ====
section
/-! DEFINITION. What the manual leaves free and an implementation decides. -/

namespace Sys2Proof

/-- FREE VALUE (notes/assumptions/11.md). Raises from different blocks that come together may reach the Trouble Unit
in either order (R157, R159): the choice read at the n-th such moment. It has no body, so no proof can see it. -/
opaque Config.freeOrder : Nat → Nat

/-- FREE VALUE (notes/assumptions/36.md). The manual does not say whether the bit that makes an insertion violation is
counted among the bits of the frame by which the receiver places its end (R139, R141). -/
opaque Config.violationTaken : Bool

/-- FREE VALUE (notes/assumptions/36.md). The run of equal bits the receiver counts on from after an insertion violation
(R139, R141). -/
opaque Config.violationRun : Nat

end Sys2Proof
end

