-- ==== Sys2Proof/Machine/State.lean ====
section
/-! DEFINITION. Everything the manual gives the node to hold, block by block (00_scope.md, Functional overview), and the
node right after reset. A timer is `none` while stopped and `some r` while it runs with r left; the unit is the
millisecond, but for a travel timer, which counts half-milliseconds (notes/assumptions/5.md). -/

namespace Sys2Proof.Machine

/-- No event stops the node: bad configuration, station conflicts and equipment faults are modes and conditions (R157,
R171, R172). So this type has no constructor, and no meaning ends in a fault. -/
inductive Fault where
  deriving DecidableEq, Repr

/-- Why a command is refused. -/
inductive Refusal where
  /-- The command has no meaning in the model. Raised by no arm: every row has its meaning. Safe. -/
  | notModelled (mnemonic : String)
  deriving DecidableEq, Repr

/-! ### Mode Controller (R163 to R168) -/

/-- The node mode (R163). -/
inductive Mode where
  | start
  | config
  | listen
  | active
  | mute
  | lockout
  deriving DecidableEq, Repr

/-- The mode a MUTE goes back to (R163, R171). -/
inductive Origin where
  | listen
  | active
  deriving DecidableEq, Repr

/-- The straps as sampled at START (R164). -/
structure Straps where
  station   : Nat
  missLimit : Nat
  rate      : LinkRate
  deriving DecidableEq, Repr

/-- The configured kind of a channel (R165). -/
inductive ChannelKind where
  | unused
  | damper
  | curtain
  | extractFan
  | supplyFan
  deriving DecidableEq, Repr

/-- A role-table entry (R35, R36): `off` is CLOSED or STOP, `on` is OPEN or RUN. -/
inductive Entry where
  | off
  | on
  | hold
  | assist
  deriving DecidableEq, Repr

/-- The six columns of the role table for one channel (R34). -/
structure RoleRow where
  normal   : Entry
  fire     : Entry
  extend   : Entry
  adjacent : Entry
  remote   : Entry
  shutdown : Entry
  deriving DecidableEq, Repr

/-- One channel of the decoded configuration (R62, R165, R167); times in seconds; `proving` none is the switch. -/
structure ChannelConfig where
  kind          : ChannelKind
  troubleEnable : Bool
  proving       : Option PressureNo
  interlocks    : List ChannelNo
  time1         : Nat
  time2         : Nat
  row           : RoleRow
  deriving DecidableEq, Repr

/-- The configured role of a pressure channel (R92). -/
inductive PressureRole where
  | unused
  | proving
  | boundary
  deriving DecidableEq, Repr

/-- One pressure channel of the decoded configuration (R92, R168); `negative` is direction −1. -/
structure PressureConfig where
  role       : PressureRole
  negative   : Bool
  gain       : Nat
  trim       : Int
  threshold  : Nat
  hysteresis : Nat
  deriving DecidableEq, Repr

/-- The decoded configuration (R165 to R168); hold-off in half-seconds, grace in seconds. -/
structure NodeConfig where
  neighbours : List Nat
  channels   : Vector ChannelConfig 12
  pressure   : Vector PressureConfig 4
  supplyGain : Nat
  holdOff    : Nat
  grace      : Nat
  deriving DecidableEq, Repr

/-- What the Mode Controller holds (R163). -/
structure ModeCtl where
  mode        : Mode
  listenTimer : Option Nat
  quietTimer  : Option Nat
  origin      : Option Origin
  straps      : Option Straps
  config      : Option NodeConfig
  deriving DecidableEq, Repr

/-! ### Link Controller (R138 to R153) -/

/-- A frame as the link carries it (R141). -/
structure Frame where
  cls     : FrameClass
  station : Station
  words   : List Word
  deriving DecidableEq, Repr

/-- The four kinds of frame a node queues (R148). -/
inductive FrameKind where
  | clear
  | fireDeclare
  | claim
  | status
  deriving DecidableEq, Repr

/-- The transmit queue: which kinds are queued, so never two of one kind (R148). -/
structure TxQueue where
  clear       : Bool
  fireDeclare : Bool
  claim       : Bool
  status      : Bool
  deriving DecidableEq, Repr

/-- The attempt on the wire: whose frame, and the frame as captured (R149). -/
structure Attempt where
  kind  : FrameKind
  frame : Frame
  deriving DecidableEq, Repr

/-- A receiver within a frame (R139 to R141): the level and the run of equal bits by which it finds inserted bits, the recessive bits in
a row, whether it has found an insertion violation, and the bits of the frame it has taken, inserted bits discarded. -/
structure Intake where
  last      : Bool
  run       : Nat
  recessive : Nat
  violated  : Bool
  taken     : List Bool
  deriving DecidableEq, Repr

/-- The line as this station judges it (R140). -/
inductive Line where
  /-- No idle judged since the release of the last reset: the station takes no part. -/
  | awaitingIdle
  | idle
  /-- An attempt of this node is on the wire. -/
  | sending
  /-- Another station's frame is on the wire and this node receives it: what it has of the frame so far. -/
  | receiving (intake : Intake)
  /-- The frame has reached its place of the window, and slot 1 is the next bit (R141, R145). -/
  | ackSlot
  /-- Slot 2 is the next bit. -/
  | errorSlot
  /-- A response window has closed and the idle after it is not yet judged. -/
  | closed
  deriving DecidableEq, Repr

/-- What the Link Controller holds; `run` is the recessive bits in a row by which it judges the line, counted from the
close of a window where one has closed, up to the thirty that end a retry wait (R140, R151). -/
structure Link where
  line      : Line
  run       : Nat
  queue     : TxQueue
  attempt   : Option Attempt
  retryWait : Bool
  failCount : Nat
  txFail    : Bool
  deriving DecidableEq, Repr

/-! ### Incident Register (R1 to R26) -/

/-- The standing of a record (R2). -/
inductive Standing where
  | primary
  | extension
  | secondary
  deriving DecidableEq, Repr

/-- The source of a record (R2). -/
inductive Source where
  | heard
  | learned
  | isolated
  deriving DecidableEq, Repr

/-- A declaration record; a LEARNED record has an empty list in place of none (R2). -/
structure Record where
  zone       : Nat
  standing   : Standing
  source     : Source
  neighbours : List Nat
  deriving DecidableEq, Repr

/-- What the Incident Register holds; `owed` is the own-declaration state OWED (R9). -/
structure IncidentRegister where
  records    : List Record
  owed       : Bool
  isoTimer   : Option Nat
  fullLatch  : Bool
  splitLatch : Bool
  deriving DecidableEq, Repr

/-! ### Role Resolver (R27 to R43) -/

/-- The own-zone role (R27). -/
inductive ZoneRole where
  | normal
  | fire
  | extend
  | adjacent
  | remote
  | shutdown
  | forcedExtract
  deriving DecidableEq, Repr

/-- The override mode (R31). -/
inductive Override where
  | auto
  | forceExtract
  | forceStop
  deriving DecidableEq, Repr

/-- What the Role Resolver holds, but for the targets, which stand with their channels. -/
structure Resolver where
  override : Override
  role     : ZoneRole
  assist   : Bool
  fireMode : Bool
  deriving DecidableEq, Repr

/-! ### Channel Sequencers (R44 to R88) -/

/-- A channel's target: `off` is CLOSED or STOP, `on` is OPEN or RUN (R40). -/
inductive Target where
  | off
  | on
  deriving DecidableEq, Repr

/-- The state of a running damper or curtain sequencer (R46). -/
inductive TravelState where
  | atOpen
  | atClosed
  | opening
  | closing
  | jammed
  | limitConflict
  deriving DecidableEq, Repr

/-- The failure that led to FAILED-OFF (R65). -/
inductive FailCause where
  | prove
  | run
  deriving DecidableEq, Repr

/-- The state of a running fan sequencer (R65). -/
inductive FanState where
  | stopped
  | awaitingInterlock
  | blocked
  | awaitingSlot
  | starting
  | running
  | proveFail
  | runLost
  | failedOff (cause : FailCause)
  | stopping
  deriving DecidableEq, Repr

/-- A sequencer: stopped, or running with its state and timers (R46, R65). -/
inductive Sequencer where
  | stopped
  | damper (state : TravelState) (travel : Option Nat)
  | fan (state : FanState) (proving runDown : Option Nat)
  deriving DecidableEq, Repr

/-- A deglitched input: the level the blocks act on, the raw level, and how long the raw level has held against it
(R45, R63, R154). -/
structure Deglitched where
  level : Bool
  raw   : Bool
  run   : Nat
  deriving DecidableEq, Repr

/-- One of the twelve channels. -/
structure Channel where
  target : Target
  seq    : Sequencer
  output : Bool
  inA    : Deglitched
  inB    : Deglitched
  deriving DecidableEq, Repr

/-- The claim record (R72, R73). -/
inductive ClaimRecord where
  | absent
  | queued
  | sending (channel : ChannelNo) (urgent : Bool) (carried : Nat)
  deriving DecidableEq, Repr

/-- The node-wide fan start logic (R71, R72). -/
structure StartLogic where
  holdOff : Option Nat
  claim   : ClaimRecord
  deriving DecidableEq, Repr

/-! ### Measurement Unit (R89 to R108) -/

/-- What the converter is converting (R89, R90). -/
inductive Scan where
  | stopped
  | convA (p : PressureNo)
  | convB (p : PressureNo) (codeA : Code)
  | supply
  deriving DecidableEq, Repr

/-- The state of a pressure channel (R93); `proven` is the comparator. -/
structure PressureState where
  satCount      : Nat
  recovery      : Nat
  fault         : Bool
  proven        : Bool
  provenCount   : Nat
  unprovenCount : Nat
  deriving DecidableEq, Repr

/-- The supply state (R103). -/
inductive Supply where
  | normal
  | low
  | fail
  deriving DecidableEq, Repr

/-- What the Measurement Unit holds. -/
structure Measurement where
  scan     : Scan
  channels : Vector PressureState 4
  supply   : Supply
  deriving DecidableEq, Repr

/-! ### Containment Monitor (R109 to R118) -/

/-- The containment state (R109). -/
inductive ContainState where
  | notApplicable
  | unsupervised
  | pending
  | achieved
  | notAchieved
  deriving DecidableEq, Repr

/-- What the Containment Monitor holds. -/
structure Containment where
  state : ContainState
  grace : Option Nat
  deriving DecidableEq, Repr

/-! ### Peer Table and status composer (R119 to R137) -/

/-- The presence of a peer (R126). -/
inductive Presence where
  | unknown
  | seen
  | present
  | lost
  deriving DecidableEq, Repr

/-- The modes a STATUS reports (R122). -/
inductive ReportedMode where
  | listen
  | active
  | lockout
  deriving DecidableEq, Repr

/-- The last status record of a peer (R126). -/
structure StatusRecord where
  mode    : ReportedMode
  contain : ContainState
  deriving DecidableEq, Repr

/-- One entry of the Peer Table (R126). -/
structure Peer where
  presence : Presence
  count    : Nat
  spacing  : Option Nat
  silence  : Option Nat
  record   : Option StatusRecord
  deriving DecidableEq, Repr

/-- The Peer Table: station z at place z − 1; `listened` is the listening-complete flag (R126, R131). -/
structure PeerTable where
  entries  : Vector Peer 63
  listened : Bool
  deriving DecidableEq, Repr

/-- What the content captured for an attempt carried of the first-fault record (R125). -/
structure Captured where
  fresh   : Bool
  filling : Option Nat
  deriving DecidableEq, Repr

/-- What the status composer holds (R119, R125). -/
structure Composer where
  period       : Option Nat
  earlyPending : Bool
  captured     : Option Captured
  deriving DecidableEq, Repr

/-! ### Trouble Unit and Panel Lines (R154 to R162) -/

/-- The fifteen condition codes (R157). -/
inductive CondCode where
  | configBad
  | stationConflict
  | txFail
  | fieldSupplyFail
  | fieldSupplyLow
  | damperJammed
  | limitConflict
  | fanBlocked
  | fanProveFail
  | fanRunLost
  | sensorFault
  | containmentNotAchieved
  | neighbourSilent
  | incidentSplit
  | registerFull
  deriving DecidableEq, Repr

/-- A condition instance: a code with its qualifier, 0 where the code has none (R157). -/
structure Cond where
  code      : CondCode
  qualifier : Nat
  deriving DecidableEq, Repr

/-- A full first-fault record; `filling` names which filling it is (R125, R159). `acked` is the model's own: an ACK pulse
made the filling at this moment, with which later events still fall together (R160, notes/assumptions/38.md). -/
structure FirstFault where
  cond    : Cond
  fresh   : Bool
  filling : Nat
  acked   : Bool := false
  deriving DecidableEq, Repr

/-- What the Trouble Unit holds: the active set in rising order of code and qualifier, the record, the number of
fillings so far, and the TROUBLE output, `true` while energized (R157 to R161). -/
structure Trouble where
  active   : List Cond
  record   : Option FirstFault
  fillings : Nat
  output   : Bool
  deriving DecidableEq, Repr

/-- A pulse line: raw level, how long it has been active, and whether its pulse has been taken (R155). -/
structure Pulse where
  raw   : Bool
  run   : Nat
  taken : Bool
  deriving DecidableEq, Repr

/-- The RESET line: raw level, how long that level has held against `held`, whether it is taken as held, the hold
time, and whether the hold has reached 5 s (R156). -/
structure ResetLine where
  raw      : Bool
  run      : Nat
  held     : Bool
  hold     : Nat
  fiveSecs : Bool
  deriving DecidableEq, Repr

/-- What the Panel Lines hold, with the strap pins. -/
structure Panel where
  alarm      : Deglitched
  panelReset : Pulse
  ack        : Pulse
  reset      : ResetLine
  straps     : StrapPins
  deriving DecidableEq, Repr

/-! ### The node -/

/-- The node. `freeTick` and `pending` are the model's own: the counter that Config.freeOrder is read with
(notes/assumptions/11.md), and the commands that wait, first in, first out. -/
structure State where
  ctl      : ModeCtl
  link     : Link
  reg      : IncidentRegister
  role     : Resolver
  chans    : Vector Channel 12
  starts   : StartLogic
  meas     : Measurement
  contain  : Containment
  peers    : PeerTable
  status   : Composer
  trouble  : Trouble
  panel    : Panel
  freeTick : Nat
  pending  : List Instr
  deriving DecidableEq, Repr

/-! ### The values after reset -/

/-- A deglitched input that reads inactive or not made (R45, R63, R154). -/
def Deglitched.reset : Deglitched := { level := false, raw := false, run := 0 }

/-- A channel after cold reset (R42, R61, R88). -/
def Channel.reset : Channel :=
  { target := .off, seq := .stopped, output := false, inA := .reset, inB := .reset }

/-- A pressure channel after cold reset (R106). -/
def PressureState.reset : PressureState :=
  { satCount := 0, recovery := 0, fault := false, proven := false, provenCount := 0, unprovenCount := 0 }

/-- A peer entry after cold reset (R134). -/
def Peer.reset : Peer := { presence := .unknown, count := 0, spacing := none, silence := none, record := none }

/-- An empty transmit queue (R153). -/
def TxQueue.empty : TxQueue := { clear := false, fireDeclare := false, claim := false, status := false }

/-- A pulse line that is inactive and not taken (R155). -/
def Pulse.reset : Pulse := { raw := false, run := 0, taken := false }

/-- The node right after power is given, before POWER_UP samples the straps: every block at its cold-reset values (R174
and its table). The raw levels of the pins are the model's choice (notes/assumptions/6.md). -/
def State.reset : State :=
  { ctl := { mode := .start, listenTimer := none, quietTimer := none, origin := none, straps := none, config := none }
    link :=
      { line := .awaitingIdle, run := 0, queue := .empty, attempt := none, retryWait := false, failCount := 0
        txFail := false }
    reg := { records := [], owed := false, isoTimer := none, fullLatch := false, splitLatch := false }
    role := { override := .auto, role := .normal, assist := false, fireMode := false }
    chans := Vector.replicate 12 .reset
    starts := { holdOff := none, claim := .absent }
    meas := { scan := .stopped, channels := Vector.replicate 4 .reset, supply := .normal }
    contain := { state := .notApplicable, grace := none }
    peers := { entries := Vector.replicate 63 .reset, listened := false }
    status := { period := none, earlyPending := false, captured := none }
    trouble := { active := [], record := none, fillings := 0, output := false }
    panel :=
      { alarm := .reset, panelReset := .reset, ack := .reset
        reset := { raw := false, run := 0, held := false, hold := 0, fiveSecs := false }
        straps := { station := 0, miss := .openPin, rate := .low } }
    freeTick := 0
    pending := [] }

end Sys2Proof.Machine
end

