-- ==== Sys2Proof/Machine/Ops.lean ====
section
/-! DEFINITION. The named operations over State that every block uses: one update per block, access to channels, pressure
channels, peers and the configuration, timers, the mode gates, and the placing of frames in the transmit queue. -/

namespace Sys2Proof.Machine

/-! ### One update per block -/

def State.withCtl (s : State) (x : ModeCtl) : State := { s with ctl := x }
def State.withLink (s : State) (x : Link) : State := { s with link := x }
def State.withReg (s : State) (x : IncidentRegister) : State := { s with reg := x }
def State.withRole (s : State) (x : Resolver) : State := { s with role := x }
def State.withChans (s : State) (x : Vector Channel 12) : State := { s with chans := x }
def State.withStarts (s : State) (x : StartLogic) : State := { s with starts := x }
def State.withMeas (s : State) (x : Measurement) : State := { s with meas := x }
def State.withContain (s : State) (x : Containment) : State := { s with contain := x }
def State.withPeers (s : State) (x : PeerTable) : State := { s with peers := x }
def State.withStatus (s : State) (x : Composer) : State := { s with status := x }
def State.withTrouble (s : State) (x : Trouble) : State := { s with trouble := x }
def State.withPanel (s : State) (x : Panel) : State := { s with panel := x }
def State.withFreeTick (s : State) (x : Nat) : State := { s with freeTick := x }
def State.withPending (s : State) (x : List Instr) : State := { s with pending := x }

/-! ### Times, in milliseconds unless a name says otherwise -/

/-- The LISTEN timer's start value (R169). -/
def listenTime : Nat := 5000
/-- The MUTE quiet timer's start value (R171). -/
def quietTime : Nat := 20000
/-- The isolated-declaration timer's start value (R9). -/
def isolatedTime : Nat := 3000
/-- The STATUS period (R120). -/
def periodTime : Nat := 2000
/-- The stagger per station number (R120). -/
def staggerUnit : Nat := 31
/-- The spacing timer's start value (R128). -/
def spacingTime : Nat := 2500
/-- The silence time for a miss limit (R129). -/
def silenceTime (missLimit : Nat) : Nat := (missLimit + 1) * 2000 + 500
/-- A half-second, the unit of a hold-off (R71). -/
def halfSecond : Nat := 500
/-- The deglitch interval of limits and proving switches (R45, R63). -/
def inputDeglitch : Nat := 200
/-- The deglitch interval of ALARM (R154). -/
def alarmDeglitch : Nat := 1000
/-- The active interval that gives a pulse (R155). -/
def pulseTime : Nat := 100
/-- The interval after which RESET is taken as held, and as released (R156). -/
def resetDeglitch : Nat := 20
/-- The hold after which the release gives a cold reset (R156). -/
def coldHold : Nat := 5000

/-- A timer runs. -/
def runs (t : Option Nat) : Bool := t.isSome

/-- A number clamped to lo..hi (00_scope.md, Arithmetic). -/
def clampNat (lo hi n : Nat) : Nat := max lo (min hi n)

/-- A signed number clamped to lo..hi. -/
def clampInt (lo hi n : Int) : Int := max lo (min hi n)

/-- A vector with every element put through f. -/
def mapVec {α β : Type} {n : Nat} (f : α → β) (v : Vector α n) : Vector β n := ⟨⟨v.toList.map f⟩, by simp⟩

/-! ### Channels, pressure channels, peers -/

/-- The channels in ascending number. -/
def allChannels : List ChannelNo := [0, 1, 2, 3, 4, 5, 6, 7, 8, 9, 10, 11]

/-- The pressure channels in scan order. -/
def allPressure : List PressureNo := [0, 1, 2, 3]

/-- Every zone number, ascending. -/
def allZones : List Nat := (List.range 64).drop 1

def State.ch (s : State) (c : ChannelNo) : Channel := s.chans[c.val]

def State.setCh (s : State) (c : ChannelNo) (x : Channel) : State := s.withChans (s.chans.set c.val x)

def State.pressure (s : State) (p : PressureNo) : PressureState := s.meas.channels[p.val]

def State.setPressure (s : State) (p : PressureNo) (x : PressureState) : State :=
  s.withMeas { s.meas with channels := s.meas.channels.set p.val x }

/-- The entry of station z; station 0 has none (R126). -/
def State.peer (s : State) (z : Nat) : Peer :=
  if h : 1 ≤ z ∧ z ≤ 63 then s.peers.entries[z - 1] else .reset

def State.setPeer (s : State) (z : Nat) (x : Peer) : State :=
  if h : 1 ≤ z ∧ z ≤ 63 then s.withPeers { s.peers with entries := s.peers.entries.set (z - 1) x } else s

/-! ### Configuration and straps -/

/-- What a block would read of a configuration that is not loaded: nothing reads it (notes/assumptions/33.md). -/
def blankConfig : NodeConfig :=
  { neighbours := []
    channels := Vector.replicate 12
      { kind := .unused, troubleEnable := false, proving := none, interlocks := [], time1 := 5, time2 := 0
        row := { normal := .off, fire := .off, extend := .off, adjacent := .off, remote := .off, shutdown := .off } }
    pressure := Vector.replicate 4
      { role := .unused, negative := false, gain := 1, trim := 0, threshold := 1, hysteresis := 0 }
    supplyGain := 1
    holdOff := 1
    grace := 10 }

/-- The loaded configuration (R168). -/
def State.cfg (s : State) : NodeConfig := s.ctl.config.getD blankConfig

def State.chCfg (s : State) (c : ChannelNo) : ChannelConfig := s.cfg.channels[c.val]

def State.prCfg (s : State) (p : PressureNo) : PressureConfig := s.cfg.pressure[p.val]

/-- Own station and zone number, as sampled (R164); 0 while no strap is sampled. -/
def State.station (s : State) : Nat := (s.ctl.straps.map (·.station)).getD 0

/-- The silence time of the sampled miss limit (R129, R137). -/
def State.silence (s : State) : Nat := silenceTime ((s.ctl.straps.map (·.missLimit)).getD 3)

def ChannelKind.isDamper : ChannelKind → Bool
  | .damper => true
  | .curtain => true
  | _ => false

def ChannelKind.isFan : ChannelKind → Bool
  | .extractFan => true
  | .supplyFan => true
  | _ => false

/-! ### Mode gates -/

/-- The modes in which blocks apply accepted frames and the role is recomputed (R5, R27, R163). -/
def Mode.applies : Mode → Bool
  | .listen => true
  | .active => true
  | .mute => true
  | _ => false

/-- The sending modes of the status composer (R119); also the modes in which the transmitter contends (R151). -/
def Mode.sends : Mode → Bool
  | .listen => true
  | .active => true
  | .lockout => true
  | _ => false

/-- The channel sequencers run: ACTIVE, and MUTE entered from ACTIVE (R48, R64, R112). -/
def State.sequencing (s : State) : Bool :=
  match s.ctl.mode with
  | .active => true
  | .mute => s.ctl.origin == some .active
  | _ => false

/-- From the moment RESET is taken as held until its release, the node is in reset (R156). -/
def State.inReset (s : State) : Bool := s.panel.reset.held

/-- An event that a node in reset does not act on (R60, R87, R107, R117, R133, R153, R162, R173). -/
def State.outside (s : State) (f : State → State) : State := if s.inReset then s else f s

/-- An accepted frame reaches a station that is not in reset and has judged the line idle since (R140, R146). -/
def State.hears (s : State) : Bool := !s.inReset && decide (s.link.line ≠ .awaitingIdle)

/-! ### The transmit queue (R148 to R150) -/

def TxQueue.holds (q : TxQueue) : FrameKind → Bool
  | .clear => q.clear
  | .fireDeclare => q.fireDeclare
  | .claim => q.claim
  | .status => q.status

def TxQueue.put (q : TxQueue) (k : FrameKind) (b : Bool) : TxQueue :=
  match k with
  | .clear => { q with clear := b }
  | .fireDeclare => { q with fireDeclare := b }
  | .claim => { q with claim := b }
  | .status => { q with status := b }

/-- The queued kind of lowest class: CLEAR 0, FIRE-DECLARE 2, claim 3 or 4, STATUS 5 (R149). -/
def TxQueue.lowest (q : TxQueue) : Option FrameKind :=
  if q.clear then some .clear
  else if q.fireDeclare then some .fireDeclare
  else if q.claim then some .claim
  else if q.status then some .status
  else none

/-- A frame of this kind enters or leaves the queue. -/
def State.setQueued (s : State) (k : FrameKind) (b : Bool) : State :=
  s.withLink { s.link with queue := s.link.queue.put k b }

/-- An attempt of a frame of this kind is on the wire. -/
def State.onWire (s : State) (k : FrameKind) : Bool := s.link.attempt.any (fun a => decide (a.kind = k))

/-- A rule of R119 to R121 that queues a STATUS: if none is queued; and while one is on the wire, the early-pending mark
is set (R119, notes/assumptions/25.md). -/
def queueStatus (s : State) : State :=
  if s.onWire .status then s.withStatus { s.status with earlyPending := true }
  else s.setQueued .status true

/-- A notice of R121: acted on in the sending modes alone. -/
def statusNotice (s : State) : State := if s.ctl.mode.sends then queueStatus s else s

/-- The stagger of R120; a timer started at 0 ms expires at once, which queues a STATUS. -/
def startStagger (s : State) : State :=
  if s.station = 0 then queueStatus (s.withStatus { s.status with period := none })
  else s.withStatus { s.status with period := some (s.station * staggerUnit) }

/-- The queue is emptied and each owner told: the claim record becomes absent, the early-pending mark is cleared
(R148, R75, R119). An attempt on the wire is abandoned (R149). -/
def emptyQueue (s : State) : State :=
  let s := s.withLink { s.link with queue := .empty, attempt := none }
  let s := s.withStarts { s.starts with claim := .absent }
  s.withStatus { s.status with earlyPending := false, captured := none }

end Sys2Proof.Machine
end

