-- ==== Sys2Proof/Machine/Flags.lean ====
section
/-! DEFINITION. The Trouble Unit: the active condition set, the first-fault record with its fresh-fault flag, and the
TROUBLE output (R157 to R162). -/

namespace Sys2Proof.Machine

/-- The code's number (R157). -/
def CondCode.number : CondCode → Nat
  | .configBad => 1
  | .stationConflict => 2
  | .txFail => 3
  | .fieldSupplyFail => 4
  | .fieldSupplyLow => 5
  | .damperJammed => 6
  | .limitConflict => 7
  | .fanBlocked => 8
  | .fanProveFail => 9
  | .fanRunLost => 10
  | .sensorFault => 11
  | .containmentNotAchieved => 12
  | .neighbourSilent => 13
  | .incidentSplit => 14
  | .registerFull => 15

/-- An instance of a code without a qualifier (R157). -/
def plainCond (code : CondCode) : Cond := { code := code, qualifier := 0 }

/-- An instance of a channel code: the qualifier is the channel number, 1..12 (R157). -/
def chanCond (code : CondCode) (c : ChannelNo) : Cond := { code := code, qualifier := c.val + 1 }

/-- The place of an instance: lower code first, then lower qualifier (R160). -/
def Cond.key (c : Cond) : Nat := c.code.number * 64 + c.qualifier

/-- The active set with an instance in its place. -/
def insertCond (c : Cond) : List Cond → List Cond
  | [] => [c]
  | d :: ds => if c.key < d.key then c :: d :: ds else d :: insertCond c ds

/-- Codes 6 to 10 have a trouble-enable flag, that of the channel in the qualifier; while it is clear the instance does
not enter the set (R158). -/
def masked (c : Cond) (s : State) : Bool :=
  match c.code with
  | .damperJammed => flagClear
  | .limitConflict => flagClear
  | .fanBlocked => flagClear
  | .fanProveFail => flagClear
  | .fanRunLost => flagClear
  | _ => false
where
  flagClear : Bool :=
    match s.cfg.channels[c.qualifier - 1]? with
    | some k => !k.troubleEnable
    | none => false

/-- TROUBLE as R161 gives it: de-energized in START and CONFIG and while the record is full; and from the moment the RESET
hold reaches 5 s until the cold reset (R156). -/
def troubleLevel (s : State) : Bool :=
  decide (s.ctl.mode ≠ .start ∧ s.ctl.mode ≠ .config) && s.trouble.record.isNone && !s.panel.reset.fiveSecs

/-- TROUBLE changes at the moment the record or the mode does (R161). -/
def refreshTrouble (s : State) : State := s.withTrouble { s.trouble with output := troubleLevel s }

/-- A new filling of the record: fresh-fault flag set (R159). -/
def Trouble.filled (c : Cond) (acked : Bool) (x : Trouble) : Trouble :=
  { x with
    record := some { cond := c, fresh := true, filling := x.fillings + 1, acked := acked }, fillings := x.fillings + 1 }

/-- The record emptied, then refilled at once from the lowest instance of the active set, if there is one (R160). -/
def Trouble.refilled (acked : Bool) (x : Trouble) : Trouble :=
  match x.active with
  | [] => { x with record := none }
  | c :: _ => x.filled c acked

/-- The record is filled with an instance, with a notice to the status composer (R159). -/
def fillRecord (c : Cond) (s : State) : State :=
  statusNotice (refreshTrouble (s.withTrouble (s.trouble.filled c false)))

/-- A block raises an instance (R157 to R159). -/
def raise (c : Cond) (s : State) : State :=
  if masked c s || decide (c ∈ s.trouble.active) then s
  else
    let t := s.withTrouble { s.trouble with active := insertCond c s.trouble.active }
    if s.trouble.record.isNone then fillRecord c t else t

/-- The instance ends together with the ACK pulse that has filled the record with it (R160). -/
def Trouble.endsWithAck (c : Cond) (x : Trouble) : Bool :=
  decide (c ∈ x.active) && x.record.any (fun r => r.acked && decide (r.cond = c))

/-- A block ends an instance. The record keeps it (R157, R159), but where the end falls together with the ACK pulse that
filled the record with it: the record is then filled from the instances that remain, or empty, as in the other order, and
the pulse's notices stand for the filling (R160, notes/assumptions/38.md). -/
def endCond (c : Cond) (s : State) : State :=
  let x := { s.trouble with active := s.trouble.active.filter (fun d => decide (d ≠ c)) }
  if s.trouble.endsWithAck c then refreshTrouble (s.withTrouble (x.refilled true)) else s.withTrouble x

def raiseOpt (c : Option Cond) (s : State) : State :=
  match c with
  | some c => raise c s
  | none => s

def endOpt (c : Option Cond) (s : State) : State :=
  match c with
  | some c => endCond c s
  | none => s

/-- The instance a state has active, when a block moves from one state to another: it ends at the exit to a state in which
it is not active, and begins at the entry to one in which it is (R58, R85, R115). -/
def swapCond (old new : Option Cond) (s : State) : State :=
  if old = new then s else raiseOpt new (endOpt old s)

/-- An instance is active exactly while a latch is set (R4). -/
def followLatch (c : Cond) (latch : Bool) (s : State) : State := if latch then raise c s else endCond c s

/-- An acknowledge; the two notices of a refill queue at most one STATUS (R160). -/
def acknowledge (together : Bool) (s : State) : State :=
  match s.trouble.record with
  | none => s
  | some _ => statusNotice (refreshTrouble (s.withTrouble (s.trouble.refilled together)))

/-! ### Raises that come together (R157, R159; notes/assumptions/11.md and 12.md) -/

/-- The blocks that raise conditions (R157). -/
inductive RaisingBlock where
  | modeController
  | linkController
  | measurementUnit
  | channelSequencers
  | containmentMonitor
  | peerTable
  | incidentRegister
  deriving DecidableEq, Repr

/-- The block that raises a code (R157). -/
def CondCode.block : CondCode → RaisingBlock
  | .configBad => .modeController
  | .stationConflict => .modeController
  | .txFail => .linkController
  | .fieldSupplyFail => .measurementUnit
  | .fieldSupplyLow => .measurementUnit
  | .damperJammed => .channelSequencers
  | .limitConflict => .channelSequencers
  | .fanBlocked => .channelSequencers
  | .fanProveFail => .channelSequencers
  | .fanRunLost => .channelSequencers
  | .sensorFault => .measurementUnit
  | .containmentNotAchieved => .containmentMonitor
  | .neighbourSilent => .peerTable
  | .incidentSplit => .incidentRegister
  | .registerFull => .incidentRegister

/-- The first instance of each block in a list of instances. -/
def firstOfBlocks : List RaisingBlock → List Cond → List Cond
  | _, [] => []
  | seen, c :: cs =>
    if c.code.block ∈ seen then firstOfBlocks seen cs else c :: firstOfBlocks (c.code.block :: seen) cs

/-- The instances that may have been taken first when an event moved the set from `before` to `after`: the first of each
block. -/
def rivals (before after : List Cond) : List Cond := firstOfBlocks [] (after.filter (fun c => decide (c ∉ before)))

/-- An event in which several blocks raise, and whose raises may reach an empty record in either order: which of the
blocks' first instances fills it is free (R159). -/
def settleRaises (before after : State) : State :=
  match before.trouble.record, after.trouble.record with
  | none, some r =>
    let cs := rivals before.trouble.active after.trouble.active
    if cs.length ≤ 1 then after
    else
      let c := cs.getD (Config.freeOrder after.freeTick % cs.length) r.cond
      (after.withTrouble { after.trouble with record := some { r with cond := c } }).withFreeTick (after.freeTick + 1)
  | _, _ => after

end Sys2Proof.Machine
end

