-- ==== Sys2Proof/Machine/Channels.lean ====
section
/-! DEFINITION. What damper, curtain and fan sequencers share: the output of a sequencer, its conditions, the one update
of a sequencer, the replacement of a target, and the interlock test (R44 to R47, R58, R59, R65, R85). -/

namespace Sys2Proof.Machine

/-- The fan states with the run output energized (R65). -/
def FanState.outputOn : FanState → Bool
  | .starting => true
  | .running => true
  | .proveFail => true
  | .runLost => true
  | _ => false

/-- A channel's output: de-energized while its sequencer is stopped; the target's command while a damper or curtain
sequencer runs (R47); the state's output while a fan sequencer runs (R65). -/
def outputOf (target : Target) : Sequencer → Bool
  | .stopped => false
  | .damper _ _ => decide (target = .on)
  | .fan st _ _ => st.outputOn

/-- The condition a sequencer has active (R58, R85). -/
def seqCond (c : ChannelNo) : Sequencer → Option Cond
  | .stopped => none
  | .damper .jammed _ => some (chanCond .damperJammed c)
  | .damper .limitConflict _ => some (chanCond .limitConflict c)
  | .damper _ _ => none
  | .fan .blocked _ _ => some (chanCond .fanBlocked c)
  | .fan .proveFail _ _ => some (chanCond .fanProveFail c)
  | .fan (.failedOff .prove) _ _ => some (chanCond .fanProveFail c)
  | .fan .runLost _ _ => some (chanCond .fanRunLost c)
  | .fan (.failedOff .run) _ _ => some (chanCond .fanRunLost c)
  | .fan _ _ _ => none

/-- The one update of a sequencer: state and timers, the output, and the condition left and entered. -/
def setSeq (c : ChannelNo) (q : Sequencer) (s : State) : State :=
  let x := s.ch c
  swapCond (seqCond c x.seq) (seqCond c q) (s.setCh c { x with seq := q, output := outputOf x.target q })

/-- A channel's target is replaced, and a running damper's or curtain's output with it (R40, R50). -/
def replaceTarget (c : ChannelNo) (t : Target) (s : State) : State :=
  let x := s.ch c
  s.setCh c { x with target := t, output := outputOf t x.seq }

/-- A damper or curtain stands at its target position (R59). -/
def atTargetPosition (s : State) (d : ChannelNo) : Bool :=
  match (s.ch d).seq with
  | .damper .atOpen _ => true
  | .damper .atClosed _ => true
  | _ => false

/-- A damper or curtain is in JAMMED or LIMIT-CONFLICT (R67). -/
def faulted (s : State) (d : ChannelNo) : Bool :=
  match (s.ch d).seq with
  | .damper .jammed _ => true
  | .damper .limitConflict _ => true
  | _ => false

/-- Every interlock of a fan stands at its target position; a fan without interlocks always does (R62, R67). -/
def interlocksAtTarget (s : State) (c : ChannelNo) : Bool := (s.chCfg c).interlocks.all (atTargetPosition s)

/-- At least one interlock of a fan is in JAMMED or LIMIT-CONFLICT (R67). -/
def interlockFaulted (s : State) (c : ChannelNo) : Bool := (s.chCfg c).interlocks.any (faulted s)

/-- The fan stands in AWAITING-SLOT. -/
def waitsForSlot (s : State) (c : ChannelNo) : Bool :=
  match (s.ch c).seq with
  | .fan .awaitingSlot _ _ => true
  | _ => false

/-- The lowest-numbered fan in AWAITING-SLOT (R73, R78). -/
def lowestWaiting (s : State) : Option ChannelNo := allChannels.find? (waitsForSlot s)

/-- A channel that STATUS counts as at target (R59, R86). -/
def countsAtTarget (s : State) (c : ChannelNo) : Bool :=
  match (s.ch c).seq with
  | .damper _ _ => atTargetPosition s c
  | .fan .running _ _ => decide ((s.ch c).target = .on)
  | .fan .stopped _ _ => decide ((s.ch c).target = .off)
  | _ => false

/-- The channels-at-target field of STATUS, 0..12 (R59, R86). -/
def channelsAtTarget (s : State) : Nat := (allChannels.filter (countsAtTarget s)).length

end Sys2Proof.Machine
end

