-- ==== Sys2Proof/Machine/Fans.lean ====
section
/-! DEFINITION. Fan sequencers and start spacing (R62 to R88). -/

namespace Sys2Proof.Machine

/-! ### Entering the states (R65, R67, R79, R83) -/

/-- The proving level: the deglitched input A, or the comparator of the named pressure channel (R63). -/
def provingLevel (s : State) (c : ChannelNo) : Bool :=
  match (s.chCfg c).proving with
  | none => (s.ch c).inA.level
  | some p => (s.pressure p).proven

/-- The incident roles: every role but NORMAL and SHUTDOWN (R27). -/
def ZoneRole.incident : ZoneRole → Bool
  | .normal => false
  | .shutdown => false
  | _ => true

/-- The extract roles (R27). -/
def ZoneRole.extract : ZoneRole → Bool
  | .fire => true
  | .extend => true
  | .forcedExtract => true
  | _ => false

/-- A fan state without a running timer. -/
def fanIn (st : FanState) : Sequencer := .fan st none none

/-- The evaluation of a fan in STOPPED with target RUN (R67). -/
def evaluateStopped (s : State) (c : ChannelNo) : FanState :=
  if interlockFaulted s c then .blocked
  else if interlocksAtTarget s c then .awaitingSlot
  else .awaitingInterlock

/-- Entry to STOPPED, evaluated at once when the target is RUN (R67). -/
def enterStopped (c : ChannelNo) (s : State) : State :=
  match (s.ch c).target with
  | .off => setSeq c (fanIn .stopped) s
  | .on => setSeq c (fanIn (evaluateStopped s c)) s

/-- Entry to STARTING: the output energized, the proving timer in full, RUNNING at once if proven (R79). -/
def enterStarting (c : ChannelNo) (s : State) : State :=
  if provingLevel s c then setSeq c (fanIn .running) s
  else setSeq c (.fan .starting (some ((s.chCfg c).time1 * 1000)) none) s

/-- Entry to STOPPING: the run-down timer in full; a run-down time of 0 s goes on to STOPPED at once (R83). -/
def enterStopping (c : ChannelNo) (s : State) : State :=
  if (s.chCfg c).time2 = 0 then enterStopped c s
  else setSeq c (.fan .stopping none (some ((s.chCfg c).time2 * 1000))) s

/-! ### Events of one fan (R66 to R70, R79 to R83) -/

/-- A target change that has replaced the target reaches a running fan sequencer. -/
def fanTarget (c : ChannelNo) (s : State) : State :=
  match (s.ch c).seq, (s.ch c).target with
  | .fan .stopped _ _, .on => enterStopped c s
  | .fan .awaitingInterlock _ _, .off => enterStopped c s
  | .fan .blocked _ _, .off => enterStopped c s
  | .fan .awaitingSlot _ _, .off => enterStopped c s
  | .fan .starting _ _, .off => enterStopping c s
  | .fan .running _ _, .off => enterStopping c s
  | .fan .proveFail _ _, .off => enterStopping c s
  | .fan .runLost _ _, .off => enterStopping c s
  | .fan (.failedOff _) _ _, _ => enterStopped c s
  | _, _ => s

/-- A role change reaches a running fan sequencer, after the target change of the same recompute (R66). -/
def fanRole (c : ChannelNo) (s : State) : State :=
  match (s.ch c).seq with
  | .fan .proveFail _ _ => if s.role.role.incident then s else setSeq c (fanIn (.failedOff .prove)) s
  | .fan .runLost _ _ => if s.role.role.incident then s else setSeq c (fanIn (.failedOff .run)) s
  | .fan (.failedOff _) _ _ => enterStopped c s
  | _ => s

/-- The one notice of a recompute to a fan: the target change first, then the role change to the state that results; a
fan that the target change took out of FAILED-OFF is in STOPPED or a waiting state, which a role change leaves (R66). -/
def fanNotice (targetChanged roleChanged : Bool) (c : ChannelNo) (s : State) : State :=
  let s := if targetChanged then fanTarget c s else s
  if roleChanged then fanRole c s else s

/-- The new level reaches a running fan sequencer as a proving event (R63, R79 to R81). -/
def provingEvent (proven : Bool) (c : ChannelNo) (s : State) : State :=
  match (s.ch c).seq, proven with
  | .fan .starting _ _, true => setSeq c (fanIn .running) s
  | .fan .proveFail _ _, true => setSeq c (fanIn .running) s
  | .fan .runLost _ _, true => setSeq c (fanIn .running) s
  | .fan .running _ _, false =>
    if s.role.role.incident then setSeq c (fanIn .runLost) s else setSeq c (fanIn (.failedOff .run)) s
  | _, _ => s

/-- The proving timer of a fan in STARTING expires; frozen under FAIL, it cannot (R79, R84). -/
def provingExpiry (c : ChannelNo) (s : State) : State :=
  match (s.ch c).seq with
  | .fan .starting (some _) _ =>
    if s.meas.supply = .fail then s
    else if s.role.role.incident then setSeq c (fanIn .proveFail) s
    else setSeq c (fanIn (.failedOff .prove)) s
  | _ => s

/-- The run-down timer of a fan in STOPPING expires (R83). -/
def runDownExpiry (c : ChannelNo) (s : State) : State :=
  match (s.ch c).seq with
  | .fan .stopping _ (some _) => enterStopped c s
  | _ => s

/-- A state change of interlock d reaches a fan (R68 to R70). -/
def interlockEvent (d : ChannelNo) (s : State) (c : ChannelNo) : State :=
  if d ∈ (s.chCfg c).interlocks then
    match (s.ch c).seq with
    | .fan .awaitingInterlock _ _ => setSeq c (fanIn (evaluateStopped s c)) s
    | .fan .awaitingSlot _ _ => setSeq c (fanIn (evaluateStopped s c)) s
    | .fan .blocked _ _ => if interlocksAtTarget s c then setSeq c (fanIn .awaitingSlot) s else s
    | _ => s
  else s

/-- A state change of d is passed to every fan that names it (R59). -/
def interlockNotice (d : ChannelNo) (s : State) : State := allChannels.foldl (interlockEvent d) s

/-! ### Start spacing (R71 to R78) -/

/-- The queued claim leaves the queue and the record becomes absent (R75, R150). -/
def withdrawClaim (s : State) : State :=
  match s.starts.claim with
  | .queued => (s.setQueued .claim false).withStarts { s.starts with claim := .absent }
  | _ => s

/-- The withdrawal tests of R75 that hold at a moment: no fan waits, or the supply is FAIL. -/
def withdrawTest (s : State) : State :=
  if (lowestWaiting s).isNone ∨ s.meas.supply = .fail then withdrawClaim s else s

/-- The claim test of R72. -/
def claimTest (s : State) : State :=
  if s.starts.claim = .absent ∧ (lowestWaiting s).isSome = true ∧ s.starts.holdOff = none ∧ s.meas.supply ≠ .fail
      ∧ s.ctl.mode = .active ∧ s.link.txFail = false then
    (s.setQueued .claim true).withStarts { s.starts with claim := .queued }
  else s

/-- The claim record is in phase SENDING (R72). -/
def ClaimRecord.isSending : ClaimRecord → Bool
  | .sending _ _ _ => true
  | _ => false

/-- The configured start hold-off in milliseconds (R71). -/
def State.ownHoldOff (s : State) : Nat := s.cfg.holdOff * halfSecond

/-- The isolated-start test of R78. -/
def isolatedTest (s : State) : State :=
  match lowestWaiting s with
  | none => s
  | some c =>
    if s.sequencing = true ∧ (s.ctl.mode = .mute ∨ s.link.txFail = true) ∧ s.starts.holdOff = none
        ∧ s.meas.supply ≠ .fail ∧ s.starts.claim.isSending = false then
      let s := withdrawClaim (enterStarting c s)
      s.withStarts { s.starts with holdOff := some s.ownHoldOff }
    else s

/-- The tests made whenever one of their conditions may have come to hold (R72, R75, R78). -/
def startTests (s : State) : State := isolatedTest (claimTest (withdrawTest s))

/-- The hold-off an own claim carries for a channel (R73). -/
def carriedHoldOff (s : State) (c : ChannelNo) : Nat :=
  if (s.chCfg c).kind = .supplyFan then (s.cfg.holdOff + 1) / 2 else s.cfg.holdOff

/-- The hold-off timer after an accepted claim: the larger of its remaining time and the carried value (R76). -/
def raiseHoldOff (halves : Nat) (s : State) : State :=
  s.withStarts { s.starts with holdOff := some (max (s.starts.holdOff.getD 0) (clampNat 1 60 halves * halfSecond)) }

/-- A peer's claim (R76). -/
def peerClaim (halves : Nat) (s : State) : State := withdrawClaim (raiseHoldOff halves s)

/-- Own claim accepted: hold-off, then the captured channel starts if it still waits and the supply is not FAIL (R77). -/
def ownClaim (s : State) : State :=
  match s.starts.claim with
  | .sending c _ carried =>
    let s := raiseHoldOff carried (s.withStarts { s.starts with claim := .absent })
    if waitsForSlot s c = true ∧ (s.ch c).target = .on ∧ s.meas.supply ≠ .fail then enterStarting c s else s
  | _ => s

/-- An attempt of the claim ended without acceptance: the captured values are discarded (R74). -/
def claimRequeued (s : State) : State :=
  match s.starts.claim with
  | .sending _ _ _ => s.withStarts { s.starts with claim := .queued }
  | _ => s

/-! ### Starting the sequencers (R64, R87) -/

/-- The fan sequencer starts at the entry to ACTIVE from LISTEN (R64). -/
def startFan (c : ChannelNo) (s : State) : State := if (s.chCfg c).kind.isFan then enterStopped c s else s

/-- The fan sequencer starts at the resumption into ACTIVE, from the state it held before the reset (R87). -/
def resumeFan (before : Sequencer) (c : ChannelNo) (s : State) : State :=
  if (s.chCfg c).kind.isFan then
    match before with
    | .fan .starting _ _ => enterStarting c s
    | .fan .running _ _ => enterStarting c s
    | .fan .proveFail _ _ => enterStarting c s
    | .fan .runLost _ _ => enterStarting c s
    | .fan .stopping _ _ => enterStopping c s
    | _ => enterStopped c s
  else s

end Sys2Proof.Machine
end

