-- ==== Sys2Proof/Machine/Dampers.lean ====
section
/-! DEFINITION. Damper and curtain sequencers (R44 to R61). -/

namespace Sys2Proof.Machine

/-- The OPEN limit, input A (R44). -/
def Channel.openLimit (x : Channel) : Bool := x.inA.level

/-- The CLOSED limit, input B (R44). -/
def Channel.closedLimit (x : Channel) : Bool := x.inB.level

/-- The limit of the position the target names (R44). -/
def Channel.ownLimit (x : Channel) : Bool :=
  match x.target with
  | .on => x.openLimit
  | .off => x.closedLimit

/-- The other limit (R44). -/
def Channel.otherLimit (x : Channel) : Bool :=
  match x.target with
  | .on => x.closedLimit
  | .off => x.openLimit

/-- The AT state of a target. -/
def atTarget : Target → TravelState
  | .on => .atOpen
  | .off => .atClosed

/-- The travelling state of a target. -/
def moving : Target → TravelState
  | .on => .opening
  | .off => .closing

/-- The travel time in half-milliseconds (R55). -/
def travelTime (s : State) (c : ChannelNo) : Nat := (s.chCfg c).time1 * 2000

/-- The entry derivation (R49). -/
def deriveTravel (s : State) (c : ChannelNo) : Sequencer :=
  let x := s.ch c
  if x.openLimit && x.closedLimit then .damper .limitConflict none
  else if x.ownLimit then .damper (atTarget x.target) none
  else .damper (moving x.target) (some (travelTime s c))

/-- The sequencer takes a state; a state change is passed to the fans that name the channel (R59). -/
def setTravel (c : ChannelNo) (q : Sequencer) (s : State) : State :=
  let changed := match (s.ch c).seq, q with
    | .damper a _, .damper b _ => decide (a ≠ b)
    | _, _ => true
  let s := setSeq c q s
  if changed then interlockNotice c s else s

/-- A target change that has replaced the target and the output reaches a running sequencer (R50). -/
def damperTarget (c : ChannelNo) (s : State) : State :=
  match (s.ch c).seq with
  | .damper .limitConflict _ =>
    if (s.ch c).openLimit && (s.ch c).closedLimit then s else setTravel c (deriveTravel s c) s
  | .damper _ _ => setTravel c (deriveTravel s c) s
  | _ => s

/-- A change of a deglitched limit, already stored, reaches a running sequencer (R51 to R54, R56). -/
def limitEvent (c : ChannelNo) (s : State) : State :=
  let x := s.ch c
  match x.seq with
  | .damper st _ =>
    if x.openLimit && x.closedLimit then setTravel c (.damper .limitConflict none) s
    else
      match st with
      | .limitConflict => setTravel c (deriveTravel s c) s
      | .atOpen => if x.ownLimit then s else setTravel c (deriveTravel s c) s
      | .atClosed => if x.ownLimit then s else setTravel c (deriveTravel s c) s
      | .opening => if x.ownLimit then setTravel c (.damper (atTarget x.target) none) s else s
      | .closing => if x.ownLimit then setTravel c (.damper (atTarget x.target) none) s else s
      | .jammed => if x.ownLimit then setTravel c (.damper (atTarget x.target) none) s else s
  | _ => s

/-- How a travel timer counts, in half-milliseconds a millisecond: 2 at full rate, 1 at half rate, 0 frozen (R57). -/
def travelRate (kind : ChannelKind) (st : TravelState) (supply : Supply) : Nat :=
  match supply with
  | .normal => 2
  | .low => if kind = .curtain ∧ st = .closing then 2 else 1
  | .fail => if kind = .curtain ∧ st = .closing then 2 else 0

/-- The travel timer of a channel in OPENING or CLOSING expires: JAMMED; a frozen timer cannot expire (R56, R57). -/
def travelExpiry (c : ChannelNo) (s : State) : State :=
  match (s.ch c).seq with
  | .damper st (some _) =>
    if travelRate (s.chCfg c).kind st s.meas.supply = 0 then s else setTravel c (.damper .jammed none) s
  | _ => s

/-- The damper or curtain sequencer starts, with the entry derivation (R48, R49, R60). -/
def startDamper (c : ChannelNo) (s : State) : State :=
  if (s.chCfg c).kind.isDamper then setTravel c (deriveTravel s c) s else s

end Sys2Proof.Machine
end

