-- ==== Sys2Proof/Machine/ChannelEvents.lean ====
section
/-! DEFINITION. The Channel Sequencers' commands: HOLD_OFF_EXPIRY, PROVING_TIMER_EXPIRY, RUN_DOWN_TIMER_EXPIRY,
PROVING_SWITCH_CHANGE, LIMIT_CHANGE, TRAVEL_TIMER_EXPIRY (R51, R56, R63, R71, R79, R83). -/

namespace Sys2Proof.Machine

def Channel.input (x : Channel) : Input → Deglitched
  | .a => x.inA
  | .b => x.inB

def Channel.withInput (x : Channel) (i : Input) (d : Deglitched) : Channel :=
  match i with
  | .a => { x with inA := d }
  | .b => { x with inB := d }

/-- A deglitched input of a channel has a new level, with the raw input holding it; a level already held is no change
(R45, R63). -/
def storeInput (c : ChannelNo) (i : Input) (made : Bool) (s : State) : State :=
  s.setCh c ((s.ch c).withInput i { level := made, raw := made, run := 0 })

/-- The change reaches the sequencer the channel has: a limit of a damper or curtain, or input A of a fan that proves by
its switch (R51, R63; notes/assumptions/21.md). -/
def inputEvent (c : ChannelNo) (i : Input) (made : Bool) (s : State) : State :=
  match (s.ch c).seq with
  | .damper _ _ => startTests (limitEvent c s)
  | .fan _ _ _ => if i = .a ∧ (s.chCfg c).proving = none then provingEvent made c s else s
  | .stopped => s

/-- LIMIT_CHANGE (R51). In reset the level changes and no sequencer acts on it (R60). -/
def execLimitChange (ch : ChannelNo) (input : Input) (made : Bool) (s : State) : Host.Outcome State Fault Refusal :=
  .next (if ((s.ch ch).input input).level = made then s
    else (storeInput ch input made s).outside (inputEvent ch input made))

/-- PROVING_SWITCH_CHANGE (R63): input A of a fan. -/
def execProvingSwitchChange (ch : ChannelNo) (made : Bool) (s : State) : Host.Outcome State Fault Refusal :=
  .next (if (s.ch ch).inA.level = made then s
    else (storeInput ch .a made s).outside (inputEvent ch .a made))

/-- TRAVEL_TIMER_EXPIRY (R56). -/
def execTravelTimerExpiry (ch : ChannelNo) (s : State) : Host.Outcome State Fault Refusal :=
  .next (s.outside fun s => startTests (travelExpiry ch s))

/-- PROVING_TIMER_EXPIRY (R79). -/
def execProvingTimerExpiry (ch : ChannelNo) (s : State) : Host.Outcome State Fault Refusal :=
  .next (s.outside (provingExpiry ch))

/-- RUN_DOWN_TIMER_EXPIRY (R83). -/
def execRunDownTimerExpiry (ch : ChannelNo) (s : State) : Host.Outcome State Fault Refusal :=
  .next (s.outside fun s => startTests (runDownExpiry ch s))

/-- HOLD_OFF_EXPIRY (R71): the timer stops, and the claim test and the isolated-start test are made. -/
def execHoldOffExpiry (s : State) : Host.Outcome State Fault Refusal :=
  .next (s.outside fun s =>
    if s.starts.holdOff.isSome then startTests (s.withStarts { s.starts with holdOff := none }) else s)

end Sys2Proof.Machine
end

