-- ==== Sys2Proof/Machine/Operands.lean ====
section
/-! DEFINITION. What the commands carry: the fields of payload words by the layouts of 8.3, the neighbour list of a
FIRE-DECLARE (R6), the incident view of a STATUS (R16), and the words of the frames this node sends (R142). -/

namespace Sys2Proof.Machine

/-- Bits hi..lo of a payload word, as a number (8.3). -/
def field (w : Word) (hi lo : Nat) : Nat := w.toNat / 2 ^ lo % 2 ^ (hi + 1 - lo)

/-- A list with each value kept at its first place alone (R6, R166). -/
def keepFirst : List Nat → List Nat
  | [] => []
  | z :: zs => z :: (keepFirst zs).filter (fun y => decide (y ≠ z))

/-! ### FIRE-DECLARE (8.3, R6) -/

/-- The words a FIRE-DECLARE with n neighbours has (R6). -/
def declareWords (n : Nat) : Nat := if n = 0 then 1 else 1 + (n - 1 + 1) / 2

/-- The neighbour fields in order: one in word 1, two in each further word (8.3). -/
def neighbourFields : List Word → List Nat
  | [] => []
  | w :: ws => field w 5 0 :: ws.flatMap (fun v => [field v 13 8, field v 5 0])

/-- The carried neighbour list of a FIRE-DECLARE from zone d, or none where the word count does not match (R6). -/
def readDeclare (d : Nat) (words : List Word) : Option (List Nat) :=
  match words with
  | [] => none
  | w :: _ =>
    let n := field w 10 8
    if words.length = declareWords n then
      let fields := (neighbourFields words).take (min n 6)
      some (keepFirst (fields.filter (fun z => decide (z ≠ 0 ∧ z ≠ d))))
    else none

/-- The words after the first: the remaining neighbours two by two (8.3). -/
def pairWords : List Nat → List Word
  | [] => []
  | [a] => [BitVec.ofNat 16 (a * 256)]
  | a :: b :: rest => BitVec.ofNat 16 (a * 256 + b) :: pairWords rest

/-- The words of a FIRE-DECLARE that carries a neighbour list (8.3). -/
def declarePayload (neighbours : List Nat) : List Word :=
  match neighbours with
  | [] => [0]
  | z :: zs => BitVec.ofNat 16 ((zs.length + 1) * 256 + z) :: pairWords zs

/-! ### CLEAR, OVERRIDE and claims (8.3) -/

/-- A CLEAR sent by a node: reason 1, panel line. -/
def clearPayload : List Word := [1]

/-- The target zone of an OVERRIDE. -/
def overrideZone (w : Word) : Nat := field w 7 2

/-- The mode of an OVERRIDE; code 3 is read as AUTO (R32). -/
def overrideMode (w : Word) : Override :=
  match field w 1 0 with
  | 1 => .forceExtract
  | 2 => .forceStop
  | _ => .auto

/-- The hold-off a claim carries, clamped to 1..60 half-seconds (R76). -/
def claimHoldOff (w : Word) : Nat := clampNat 1 60 (field w 5 0)

/-- The word of a claim: channel number in bits 11-8, hold-off in bits 5-0. -/
def claimPayload (c : ChannelNo) (carried : Nat) : List Word := [BitVec.ofNat 16 ((c.val + 1) * 256 + carried)]

/-- The class of a claim (R142). -/
def claimClass (urgent : Bool) : FrameClass := if urgent then 3 else 4

/-! ### STATUS (8.3) -/

/-- An incident view that is not empty: the primary and at most two extensions (R16). -/
structure View where
  primary    : Nat
  extensions : List Nat
  deriving DecidableEq, Repr

/-- The incident view of a STATUS, none where it is empty (R16). -/
def readView (w2 w3 : Word) : Option View :=
  let p := field w2 13 8
  let e1 := field w2 5 0
  let e2 := field w3 13 8
  if p = 0 then none
  else some { primary := p, extensions := keepFirst ([e1, e2].filter (fun e => decide (e ≠ 0 ∧ e ≠ p))) }

/-- The mode a STATUS reports; an unknown code is stored as LOCKOUT (R128). -/
def readMode (w1 : Word) : ReportedMode :=
  match field w1 15 14 with
  | 0 => .listen
  | 1 => .active
  | _ => .lockout

/-- The containment a STATUS reports; an unknown code is stored as NOT-ACHIEVED (R128). -/
def readContain (w1 : Word) : ContainState :=
  match field w1 7 5 with
  | 0 => .notApplicable
  | 1 => .unsupervised
  | 2 => .pending
  | 3 => .achieved
  | _ => .notAchieved

/-- The mode code of a STATUS; only the sending modes are ever captured (R122, R123). -/
def Mode.code : Mode → Nat
  | .active => 1
  | .lockout => 2
  | _ => 0

def ZoneRole.code : ZoneRole → Nat
  | .normal => 0
  | .fire => 1
  | .extend => 2
  | .adjacent => 3
  | .remote => 4
  | .shutdown => 5
  | .forcedExtract => 6

def Override.code : Override → Nat
  | .auto => 0
  | .forceExtract => 1
  | .forceStop => 2

def ContainState.code : ContainState → Nat
  | .notApplicable => 0
  | .unsupervised => 1
  | .pending => 2
  | .achieved => 3
  | .notAchieved => 4

/-- The fields of a STATUS as captured (R122). -/
structure StatusContent where
  mode      : Mode
  role      : ZoneRole
  override  : Override
  alarm     : Bool
  contain   : ContainState
  fresh     : Bool
  atTarget  : Nat
  primary   : Nat
  ext1      : Nat
  ext2      : Nat
  count     : Nat
  faultCode : Nat
  faultQual : Nat
  deriving DecidableEq, Repr

/-- The four words of a STATUS (8.3). -/
def statusPayload (c : StatusContent) : List Word :=
  [ BitVec.ofNat 16 (c.mode.code * 2 ^ 14 + c.role.code * 2 ^ 11 + c.override.code * 2 ^ 9 + c.alarm.toNat * 2 ^ 8
      + c.contain.code * 2 ^ 5 + c.fresh.toNat * 2 ^ 4 + c.atTarget),
    BitVec.ofNat 16 (c.primary * 2 ^ 8 + c.ext1),
    BitVec.ofNat 16 (c.ext2 * 2 ^ 8 + c.count),
    BitVec.ofNat 16 (c.faultCode * 2 ^ 8 + c.faultQual) ]

end Sys2Proof.Machine
end

