-- ==== Sys2Proof/Machine/ConfigBlock.lean ====
section
/-! DEFINITION. The configuration block: its two checks and its decoding (R165 to R168). -/

namespace Sys2Proof.Machine

/-- Byte i of the block. -/
def byteAt (b : ConfigBytes) (i : Nat) : Nat := (b.toList.getD i 0).toNat

/-- A two-byte value, high byte first (R165). -/
def wordAt (b : ConfigBytes) (i : Nat) : Nat := byteAt b i * 256 + byteAt b (i + 1)

/-- The sum of bytes 0 to 134, modulo 65536 (R165). -/
def blockSum (b : ConfigBytes) : Nat := ((b.toList.take 135).map (fun x => x.toNat)).foldl (· + ·) 0 % 65536

/-- The marker and the sum are both right (R165). -/
def blockGood (b : ConfigBytes) : Bool := decide (byteAt b 0 = 0x5A) && decide (blockSum b = wordAt b 135)

/-- The neighbour list (R166). -/
def decodeNeighbours (own : Nat) (b : ConfigBytes) : List Nat :=
  let n := min (byteAt b 1) 6
  let fields := ((List.range 6).map (fun i => byteAt b (2 + i))).take n
  keepFirst (fields.filter (fun z => decide (z ≠ 0 ∧ z ≤ 63 ∧ z ≠ own)))

/-- The first byte of a channel's entry (R165). -/
def channelBase (c : ChannelNo) : Nat := 8 + 6 * c.val

/-- The kind of a channel; an unknown code is unused (R167). -/
def decodeKind (b : ConfigBytes) (c : ChannelNo) : ChannelKind :=
  match byteAt b (channelBase c) with
  | 1 => .damper
  | 2 => .curtain
  | 3 => .extractFan
  | 4 => .supplyFan
  | _ => .unused

/-- The first byte of a pressure channel's entry (R165). -/
def pressureBase (p : PressureNo) : Nat := 98 + 8 * p.val

/-- The role of a pressure channel; code 3 is UNUSED (R168). -/
def decodePressureRole (b : ConfigBytes) (p : PressureNo) : PressureRole :=
  match byteAt b (pressureBase p) % 4 with
  | 1 => .proving
  | 2 => .boundary
  | _ => .unused

/-- A pressure channel (R168). -/
def decodePressure (b : ConfigBytes) (p : PressureNo) : PressureConfig :=
  let o := pressureBase p
  { role := decodePressureRole b p
    negative := decide (byteAt b o / 128 = 1)
    gain := max 1 (wordAt b (o + 1))
    trim := clampInt (-2047) 2047 (BitVec.ofNat 16 (wordAt b (o + 3))).toInt
    threshold := clampNat 1 5000 (wordAt b (o + 5))
    hysteresis := byteAt b (o + 7) }

/-- An interlock field: kept where it names a damper or curtain (R167). -/
def decodeInterlock (b : ConfigBytes) (i : Nat) : List ChannelNo :=
  allChannels.filter (fun d => decide (byteAt b i = d.val + 1) && (decodeKind b d).isDamper)

/-- Both interlock fields, a channel they share kept once (R167). -/
def decodeInterlocks (b : ConfigBytes) (c : ChannelNo) : List ChannelNo :=
  let first := decodeInterlock b (channelBase c + 2)
  first ++ (decodeInterlock b (channelBase c + 3)).filter (fun d => decide (d ∉ first))

/-- The proving source: a pressure channel whose role is PROVING, otherwise the switch (R167). -/
def decodeProving (b : ConfigBytes) (c : ChannelNo) : Option PressureNo :=
  allPressure.find? (fun p =>
    decide (byteAt b (channelBase c + 1) % 8 = p.val + 1) && decide (decodePressureRole b p = .proving))

/-- The two bits of the role table at a bit offset from the start of byte 80 (R165). -/
def roleCode (b : ConfigBytes) (offset : Nat) : Nat := byteAt b (80 + offset / 8) / 2 ^ (6 - offset % 8) % 4

/-- The entry of channel c in column j, 0..5 (R165): code 3 is HOLD for a damper or curtain and ASSIST for a fan. -/
def decodeEntry (b : ConfigBytes) (k : ChannelKind) (c : ChannelNo) (j : Nat) : Entry :=
  match roleCode b (12 * c.val + 2 * j) with
  | 0 => .off
  | 1 => .on
  | 2 => .hold
  | _ => if k.isDamper then .hold else .assist

/-- A channel's row of the role table. -/
def decodeRow (b : ConfigBytes) (k : ChannelKind) (c : ChannelNo) : RoleRow :=
  { normal := decodeEntry b k c 0, fire := decodeEntry b k c 1, extend := decodeEntry b k c 2
    adjacent := decodeEntry b k c 3, remote := decodeEntry b k c 4, shutdown := decodeEntry b k c 5 }

/-- The fields of a channel that is not used: none of them is read. -/
def unusedChannel : ChannelConfig :=
  { kind := .unused, troubleEnable := false, proving := none, interlocks := [], time1 := 5, time2 := 0
    row := { normal := .off, fire := .off, extend := .off, adjacent := .off, remote := .off, shutdown := .off } }

/-- A channel (R167). -/
def decodeChannel (b : ConfigBytes) (c : ChannelNo) : ChannelConfig :=
  let o := channelBase c
  let k := decodeKind b c
  let enable := decide (byteAt b (o + 1) / 128 = 1)
  if k.isDamper then
    { kind := k, troubleEnable := enable, proving := none, interlocks := []
      time1 := clampNat 5 120 (byteAt b (o + 4)), time2 := 0, row := decodeRow b k c }
  else if k.isFan then
    { kind := k, troubleEnable := enable, proving := decodeProving b c, interlocks := decodeInterlocks b c
      time1 := clampNat 5 60 (byteAt b (o + 4)), time2 := clampNat 0 120 (byteAt b (o + 5)), row := decodeRow b k c }
  else unusedChannel

/-- The decoded configuration (R165 to R168). -/
def decodeConfig (own : Nat) (b : ConfigBytes) : NodeConfig :=
  { neighbours := decodeNeighbours own b
    channels := ⟨⟨allChannels.map (decodeChannel b)⟩, by simp [allChannels]⟩
    pressure := ⟨⟨allPressure.map (decodePressure b)⟩, by simp [allPressure]⟩
    supplyGain := max 1 (wordAt b 130)
    holdOff := clampNat 1 60 (byteAt b 132)
    grace := clampNat 10 300 (wordAt b 133) }

end Sys2Proof.Machine
end

