-- ==== Sys2Proof/Machine/Contain.lean ====
section
/-! DEFINITION. The Containment Monitor (R109 to R118). -/

namespace Sys2Proof.Machine

/-- The BOUNDARY set (R110). -/
def boundarySet (s : State) : List PressureNo := allPressure.filter (fun p => decide ((s.prCfg p).role = .boundary))

/-- The boundary test: the set is not empty and every comparator in it reads PROVEN (R110). -/
def boundaryTest (s : State) : Bool := decide (boundarySet s ≠ []) && (boundarySet s).all (fun p => (s.pressure p).proven)

/-- The grace time in milliseconds (R112). -/
def graceTime (s : State) : Nat := s.cfg.grace * 1000

/-- The condition of a containment state (R115). -/
def containCond : ContainState → Option Cond
  | .notAchieved => some (plainCond .containmentNotAchieved)
  | _ => none

/-- The monitor takes a state and a grace timer; a change of state is a notice to the status composer, and moves the
condition (R115, R116). -/
def setContain (st : ContainState) (grace : Option Nat) (s : State) : State :=
  let old := s.contain.state
  let s := s.withContain { state := st, grace := grace }
  if st = old then s else swapCond (containCond old) (containCond st) (statusNotice s)

/-- The timer with which PENDING is entered: in full when the channel sequencers run, otherwise stopped (R112). -/
def pendingGrace (s : State) : Option Nat := if s.sequencing then some (graceTime s) else none

/-- The entry derivation (R111). -/
def deriveContain (s : State) : State :=
  if boundarySet s = [] then setContain .unsupervised none s
  else if boundaryTest s then setContain .achieved none s
  else setContain .pending (pendingGrace s) s

/-- A role change (R111). -/
def containRole (old new : ZoneRole) (s : State) : State :=
  if new.extract then (if old.extract then s else deriveContain s)
  else setContain .notApplicable none s

/-- A change of a BOUNDARY comparator, already made (R113). -/
def containComparator (s : State) : State :=
  match s.contain.state with
  | .pending => if boundaryTest s then setContain .achieved none s else s
  | .achieved => if boundaryTest s then s else setContain .notAchieved none s
  | .notAchieved => if boundaryTest s then setContain .achieved none s else s
  | .notApplicable => s
  | .unsupervised => s

/-- The grace timer expires (R114). -/
def graceExpiry (s : State) : State :=
  match s.contain.grace with
  | some _ => if s.contain.state = .pending then setContain .notAchieved none s else s
  | none => s

/-- The sequencers have started in ACTIVE: a PENDING grace that is stopped starts (R112). -/
def graceStart (s : State) : State :=
  if s.contain.state = .pending ∧ s.contain.grace = none then
    s.withContain { s.contain with grace := some (graceTime s) }
  else s

/-- The state at the resumption after a warm reset (R117). -/
def resumeContain (s : State) : State :=
  if s.role.role.extract then
    if boundarySet s = [] then setContain .unsupervised none s else setContain .pending (pendingGrace s) s
  else setContain .notApplicable none s

end Sys2Proof.Machine
end

