-- ==== Sys2Proof/Machine/Measure.lean ====
section
/-! DEFINITION. The Measurement Unit: scan, pairs, pipeline, comparators and supply (R89 to R108). -/

namespace Sys2Proof.Machine

/-! ### The scan (R90) -/

/-- The channel is converted: PROVING or BOUNDARY (R90). -/
def enabled (s : State) (p : PressureNo) : Bool := decide ((s.prCfg p).role ≠ .unused)

/-- The step of the scan that follows the pressure channels below n: the next enabled channel, or the supply (R90). -/
def scanFrom (s : State) (n : Nat) : Scan :=
  match allPressure.find? (fun p => enabled s p && decide (n ≤ p.val)) with
  | some p => .convA p
  | none => .supply

def setScan (x : Scan) (s : State) : State := s.withMeas { s.meas with scan := x }

/-! ### The pipeline (R94, R97 to R99) -/

/-- A saturation code (R89). -/
def saturationCode (c : Code) : Bool := decide (c.toInt = -524288 ∨ c.toInt = 524287)

/-- The pair is saturated (R94). -/
def saturatedPair (a b : Code) : Bool := saturationCode a || saturationCode b

/-- The signal s: half the chopped difference, rounded toward zero (R97). -/
def signal (a b : Code) : Int := (a.toInt - b.toInt).tdiv 2

/-- The scaled value: trimmed, times the gain, divided by 65536 toward zero (R98). -/
def scaled (k : PressureConfig) (a b : Code) : Int := ((signal a b - k.trim) * (k.gain : Int)).tdiv 65536

/-- The pressure p in tenths of a pascal (R99). -/
def pressureOf (k : PressureConfig) (a b : Code) : Int := clampInt (-5000) 5000 (scaled k a b)

/-! ### The comparator (R100) -/

/-- The three bands (R100). -/
inductive Band where
  | high
  | dead
  | low
  deriving DecidableEq, Repr

/-- The band of a pressure (R100). -/
def bandOf (k : PressureConfig) (p : Int) : Band :=
  let q := if k.negative then -p else p
  if (k.threshold : Int) ≤ q then .high
  else if (k.threshold : Int) - (k.hysteresis : Int) ≤ q then .dead
  else .low

/-- The comparator applied to a band (R100). -/
def applyBand (b : Band) (x : PressureState) : PressureState :=
  if x.proven then
    match b with
    | .low =>
      if 3 ≤ x.unprovenCount then { x with proven := false, unprovenCount := 0 }
      else { x with unprovenCount := x.unprovenCount + 1 }
    | _ => { x with unprovenCount := 0 }
  else
    match b with
    | .high =>
      if 3 ≤ x.provenCount then { x with proven := true, provenCount := 0 }
      else { x with provenCount := x.provenCount + 1 }
    | _ => { x with provenCount := 0 }

/-- A saturated pair (R94, R95). -/
def applySaturated (x : PressureState) : PressureState :=
  if x.fault then { x with recovery := 0 }
  else if x.satCount < 3 then { x with satCount := x.satCount + 1, provenCount := 0, unprovenCount := 0 }
  else { satCount := 4, recovery := 0, fault := true, proven := false, provenCount := 0, unprovenCount := 0 }

/-- A valid pair (R96). -/
def applyValid (b : Band) (x : PressureState) : PressureState :=
  if x.fault then
    if x.recovery < 3 then { x with recovery := x.recovery + 1 }
    else { x with fault := false, satCount := 0, recovery := 0 }
  else applyBand b { x with satCount := 0 }

/-- What a completed pair makes of its channel (R94, R96). -/
def applyPair (k : PressureConfig) (a b : Code) (x : PressureState) : PressureState :=
  if saturatedPair a b then applySaturated x else applyValid (bandOf k (pressureOf k a b)) x

/-- SENSOR-FAULT of a pressure channel (R95). -/
def sensorFault (p : PressureNo) : Cond := { code := .sensorFault, qualifier := p.val + 1 }

/-- A change of a comparator is passed to the fans that prove by it, or to the Containment Monitor (R101). -/
def passComparator (p : PressureNo) (proven : Bool) (s : State) : State :=
  match (s.prCfg p).role with
  | .proving =>
    allChannels.foldl (fun s c => if (s.chCfg c).proving = some p then provingEvent proven c s else s) s
  | .boundary => containComparator s
  | .unused => s

/-- A pair completes: the channel's state, its condition, and a change of the comparator passed on (R94 to R101). -/
def pairEvent (p : PressureNo) (a b : Code) (s : State) : State :=
  let x := s.pressure p
  let y := applyPair (s.prCfg p) a b x
  let s := s.setPressure p y
  let s := if y.fault = x.fault then s else followLatch (sensorFault p) y.fault s
  if y.proven = x.proven then s else passComparator p y.proven s

/-! ### The supply (R102 to R105) -/

/-- The supply reading in tenths of a volt (R102). -/
def supplyReading (gain : Nat) (c : Code) : Nat := clampNat 0 400 (c.toInt.toNat * gain / 65536)

/-- The supply state a reading moves to (R103). -/
def nextSupply (x : Supply) (v : Nat) : Supply :=
  if v < 160 then .fail
  else if 210 ≤ v then .normal
  else
    match x with
    | .normal => if v < 204 then .low else .normal
    | .low => .low
    | .fail => if v < 170 then .fail else .low

/-- The conditions of the supply state, FIELD-SUPPLY-FAIL first (R104). -/
def followSupply (x : Supply) (s : State) : State :=
  match x with
  | .normal => endCond (plainCond .fieldSupplyLow) (endCond (plainCond .fieldSupplyFail) s)
  | .low => raise (plainCond .fieldSupplyLow) (endCond (plainCond .fieldSupplyFail) s)
  | .fail => raise (plainCond .fieldSupplyLow) (raise (plainCond .fieldSupplyFail) s)

/-- A supply reading is applied: state, conditions, and the fan start logic on entry to FAIL and exit from it (R84, R103
to R105). Travel and proving timers read the supply state as they count. -/
def supplyEvent (v : Nat) (s : State) : State :=
  let old := s.meas.supply
  let new := nextSupply old v
  if new = old then s else startTests (followSupply new (s.withMeas { s.meas with supply := new }))

/-! ### Resets (R107) -/

/-- The Measurement Unit at the release of a warm reset in LISTEN, ACTIVE or MUTE: a new scan, every pressure channel
zeroed, the supply state kept (R107). -/
def resumeMeasure (s : State) : State :=
  s.withMeas { s.meas with scan := scanFrom s 0, channels := Vector.replicate 4 .reset }

end Sys2Proof.Machine
end

