-- ==== Sys2Proof/Machine/Register.lean ====
section
/-! DEFINITION. The Incident Register as data: what each event makes of the records, the own-declaration state, the
isolated-declaration timer and the latches (R1 to R26). -/

namespace Sys2Proof.Machine

/-! ### Reading the list (R1 to R3) -/

/-- The most records the list holds (R1). -/
def maxRecords : Nat := 16

/-- The zone has a record. -/
def holdsZone (z : Nat) (rs : List Record) : Bool := rs.any (fun r => decide (r.zone = z))

/-- The zone of the PRIMARY record, 0 where there is none (R3). -/
def primaryOf (rs : List Record) : Nat :=
  ((rs.find? (fun r => decide (r.standing = .primary))).map (·.zone)).getD 0

/-- The zones of the EXTENSION records, in register order (R3). -/
def extensionsOf (rs : List Record) : List Nat :=
  (rs.filter (fun r => decide (r.standing = .extension))).map (·.zone)

/-- The standing of a zone's record. -/
def standingOf (z : Nat) (rs : List Record) : Option Standing :=
  (rs.find? (fun r => decide (r.zone = z))).map (·.standing)

/-- The incident view: primary, extension 1, extension 2, each 0 where absent (R3). -/
def viewOf (rs : List Record) : Nat × Nat × Nat :=
  (primaryOf rs, (extensionsOf rs).getD 0 0, (extensionsOf rs).getD 1 0)

/-- The extract zones: the PRIMARY's zone and the EXTENSIONs' zones. -/
def extractZones (rs : List Record) : List Nat :=
  (rs.filter (fun r => decide (r.standing ≠ .secondary))).map (·.zone)

/-! ### Classification (R7, R13) -/

/-- The case table of R7 for a zone that declares with a neighbour list; `source` is HEARD, or ISOLATED at R13. -/
def classify (zone : Nat) (source : Source) (neighbours : List Nat) (reg : IncidentRegister) : IncidentRegister :=
  let rs := reg.records
  let add (st : Standing) : IncidentRegister :=
    { reg with records := rs ++ [{ zone := zone, standing := st, source := source, neighbours := neighbours }] }
  if holdsZone zone rs then reg
  else if rs = [] then add .primary
  else if maxRecords ≤ rs.length then { reg with fullLatch := true }
  else if (extensionsOf rs).length < 2 ∧ (extractZones rs).any (fun z => decide (z ∈ neighbours)) then add .extension
  else add .secondary

/-- The timer stops when own zone enters the register while it runs (R11). -/
def stopIfEntered (own : Nat) (before after : IncidentRegister) : IncidentRegister :=
  if !holdsZone own before.records && holdsZone own after.records then { after with isoTimer := none } else after

/-- An accepted FIRE-DECLARE's content (R5, R6, R7): ignored from station 0 and where the word count does not match. -/
def declareFrame (own zone : Nat) (words : List Word) (reg : IncidentRegister) : IncidentRegister :=
  if zone = 0 then reg
  else
    match readDeclare zone words with
    | none => reg
    | some ns => stopIfEntered own reg (classify zone .heard ns reg)

/-- Own FIRE-DECLARE is accepted: the own-declaration state becomes NONE and the timer stops (R12). -/
def ownDeclared (reg : IncidentRegister) : IncidentRegister := { reg with owed := false, isoTimer := none }

/-- The isolated-declaration timer expires: own zone is classified as ISOLATED, the state stays OWED (R13). -/
def isolatedExpiry (own : Nat) (neighbours : List Nat) (reg : IncidentRegister) : IncidentRegister :=
  classify own .isolated neighbours { reg with isoTimer := none }

/-! ### CLEAR (R14) -/

/-- Steps 1 to 3 of R14. -/
def clearRegister (reg : IncidentRegister) : IncidentRegister :=
  { reg with
    records := []
    fullLatch := false
    splitLatch := false
    isoTimer :=
      if reg.owed then (match reg.isoTimer with
        | some t => some t
        | none => some isolatedTime)
      else none }

/-! ### Learning (R17) -/

/-- A record entered from the view of a STATUS (R17, R20). -/
def learnedRecord (zone : Nat) (st : Standing) : Record :=
  { zone := zone, standing := st, source := .learned, neighbours := [] }

/-- The records of a view, in field order (R17). -/
def learnedRecords (v : View) : List Record :=
  learnedRecord v.primary .primary :: v.extensions.map (fun e => learnedRecord e .extension)

/-! ### Merge (R19 to R22) -/

/-- The view agrees with the register's: same primary, same extension set (R3). -/
def agrees (v : View) (rs : List Record) : Bool :=
  decide (v.primary = primaryOf rs) && v.extensions.all (fun e => decide (e ∈ extensionsOf rs))
    && (extensionsOf rs).all (fun e => decide (e ∈ v.extensions))

/-- The new primary and the demoted primary, if the two differ (R19). -/
def mergedPrimary (po pf : Nat) : Nat × Option Nat :=
  if po = pf then (po, none) else (min po pf, some (max po pf))

/-- The new extension set: the demoted primary first, then candidates in ascending zone number, two at most (R19). -/
def mergedExtensions (p : Nat) (x : Option Nat) (eo ef : List Nat) : List Nat :=
  let candidates := allZones.filter (fun z => decide ((z ∈ eo ∨ z ∈ ef) ∧ z ≠ p ∧ some z ≠ x))
  x.toList ++ candidates.take (2 - x.toList.length)

/-- Step 1 of R20: the standings of the records present. -/
def restand (p : Nat) (e : List Nat) (r : Record) : Record :=
  if r.zone = p then { r with standing := .primary }
  else if r.zone ∈ e then { r with standing := .extension }
  else { r with standing := .secondary }

/-- The list without the last record that satisfies a test; unchanged where none does. -/
def dropLastWhere (test : Record → Bool) : List Record → List Record
  | [] => []
  | r :: rs => if rs.any test then r :: dropLastWhere test rs else if test r then rs else r :: rs

/-- The choice of R21: the last SECONDARY record that is LEARNED; failing that, the last whose list holds neither the
primary nor an extension; failing that, the last SECONDARY record. -/
def makeRoom (p : Nat) (e : List Nat) (rs : List Record) : List Record :=
  let secondary (r : Record) : Bool := decide (r.standing = .secondary)
  let learned (r : Record) : Bool := secondary r && decide (r.source = .learned)
  let remote (r : Record) : Bool := secondary r && !(p :: e).any (fun z => decide (z ∈ r.neighbours))
  if rs.any learned then dropLastWhere learned rs
  else if rs.any remote then dropLastWhere remote rs
  else dropLastWhere secondary rs

/-- One append of step 2 of R20, with room made by R21; the flag is the REGISTER-FULL latch. -/
def appendMerged (p : Nat) (e : List Nat) (zone : Nat) (st : Standing) (x : List Record × Bool) : List Record × Bool :=
  if holdsZone zone x.1 then x
  else if maxRecords ≤ x.1.length then (makeRoom p e x.1 ++ [learnedRecord zone st], true)
  else (x.1 ++ [learnedRecord zone st], x.2)

/-- One append of step 3 of R20. -/
def appendRemaining (zone : Nat) (x : List Record × Bool) : List Record × Bool :=
  if holdsZone zone x.1 then x
  else if maxRecords ≤ x.1.length then (x.1, true)
  else (x.1 ++ [learnedRecord zone .secondary], x.2)

/-- The three steps of R20 for a new primary p and extension set e (X first), with the frame view's zones. -/
def mergeRecords (p : Nat) (e : List Nat) (v : View) (rs : List Record) (full : Bool) : List Record × Bool :=
  let x := appendMerged p e p .primary (rs.map (restand p e), full)
  let x := e.foldl (fun x z => appendMerged p e z .extension x) x
  (allZones.filter (fun z => decide (z = v.primary ∨ z ∈ v.extensions))).foldl (fun x z => appendRemaining z x) x

/-- Merge: a view that differs from a register that is not empty (R19 to R22). A merge whose primaries differ sets the
INCIDENT-SPLIT latch (R22), also where the records are left as they were (notes/assumptions/14.md). -/
def mergeView (v : View) (reg : IncidentRegister) : IncidentRegister :=
  let rs := reg.records
  let px := mergedPrimary (primaryOf rs) v.primary
  let e := mergedExtensions px.1 px.2 (extensionsOf rs) v.extensions
  let reg := { reg with splitLatch := reg.splitLatch || px.2.isSome }
  if agrees { primary := px.1, extensions := e } rs then reg
  else
    let x := mergeRecords px.1 e v rs reg.fullLatch
    { reg with records := x.1, fullLatch := x.2 }

/-- The incident view of an accepted STATUS from a station 1..63 (R16). -/
def viewFrame (own : Nat) (v : Option View) (reg : IncidentRegister) : IncidentRegister :=
  match v with
  | none => reg
  | some v =>
    if reg.records = [] then stopIfEntered own reg { reg with records := learnedRecords v }
    else if agrees v reg.records then reg
    else stopIfEntered own reg (mergeView v reg)

/-! ### The declaration check and the warm reset (R9, R26) -/

/-- Own declaration becomes owed and the timer starts (R9). -/
def oweDeclaration (reg : IncidentRegister) : IncidentRegister := { reg with owed := true, isoTimer := some isolatedTime }

/-- What R26 makes of the timer when sequencing resumes with the state OWED. -/
def resumeOwed (own : Nat) (reg : IncidentRegister) : IncidentRegister :=
  { reg with isoTimer := if holdsZone own reg.records then none else some isolatedTime }

end Sys2Proof.Machine
end

