-- ==== Sys2Proof/Machine/Roles.lean ====
section
/-! DEFINITION. The Role Resolver (R27 to R43), and the Incident Register's events as they reach the node (R3, R4, R9,
R10). -/

namespace Sys2Proof.Machine

/-- The own-zone role in the modes that consult the table (R27, R28). -/
def deriveRole (s : State) : ZoneRole :=
  match s.role.override with
  | .forceStop => .shutdown
  | .forceExtract => .forcedExtract
  | .auto =>
    let rs := s.reg.records
    if rs = [] then .normal
    else
      match standingOf s.station rs with
      | some .primary => .fire
      | some .extension => .extend
      | _ => if (extractZones rs).any (fun z => decide (z ∈ s.cfg.neighbours)) then .adjacent else .remote

/-- A peer entry that calls for assist (R38). -/
def callsForAssist (p : Peer) : Bool :=
  match p.presence with
  | .unknown => true
  | .lost => true
  | _ => p.record.any (fun r => decide (r.contain = .notAchieved) || decide (r.mode = .lockout))

/-- The assist flag for a role (R38). -/
def deriveAssist (role : ZoneRole) (s : State) : Bool :=
  decide (role = .adjacent)
    && s.cfg.neighbours.any (fun z => decide (z ∈ extractZones s.reg.records) && callsForAssist (s.peer z))

/-- The column of the role table a role reads (R34). -/
def RoleRow.column (r : RoleRow) : ZoneRole → Entry
  | .normal => r.normal
  | .fire => r.fire
  | .forcedExtract => r.fire
  | .extend => r.extend
  | .adjacent => r.adjacent
  | .remote => r.remote
  | .shutdown => r.shutdown

/-- The target an entry gives: HOLD keeps the previous target; ASSIST is RUN in ADJACENT while the assist flag is true,
and STOP otherwise (R35 to R37). -/
def resolveEntry (e : Entry) (role : ZoneRole) (assist : Bool) (previous : Target) : Target :=
  match e with
  | .off => .off
  | .on => .on
  | .hold => previous
  | .assist => if role = .adjacent ∧ assist = true then .on else .off

/-- The target a recompute gives a channel; an unused channel has none and keeps the value it has (R34, R40). -/
def newTarget (s : State) (c : ChannelNo) : Target :=
  let k := s.chCfg c
  if k.kind = .unused then (s.ch c).target
  else resolveEntry (k.row.column s.role.role) s.role.role s.role.assist (s.ch c).target

/-- FIRE-MODE (R41). -/
def deriveFireMode (s : State) : Bool := decide (s.reg.records ≠ []) || decide (s.role.override = .forceExtract)

/-- One recompute: the role, the assist flag, FIRE-MODE and every target; then the notices, to the status composer and
the Containment Monitor, to the dampers and curtains whose target changed, to the fans, and last the start tests (R29,
R30, R40, R41). DESIGN CHOICE: the order of the notices, which R40 leaves open. A fan whose target becomes RUN in the
recompute that also retargets its JAMMED interlock is evaluated after that interlock has left JAMMED, so it waits in
AWAITING-INTERLOCK and is not BLOCKED; of two interlocks the lower channel is told first (notes/assumptions/10.md). In START,
CONFIG and LOCKOUT there is none (R40). -/
def recompute (s : State) : State :=
  if s.ctl.mode.applies then
    let old := s.role.role
    let role := deriveRole s
    let roleChanged := decide (role ≠ old)
    let s := s.withRole { s.role with role := role, assist := deriveAssist role s, fireMode := deriveFireMode s }
    let changed := allChannels.filter (fun c => decide (newTarget s c ≠ (s.ch c).target))
    let s := changed.foldl (fun s c => replaceTarget c (newTarget s c) s) s
    let s := if roleChanged then containRole old role (statusNotice s) else s
    let s := changed.foldl (fun s c => damperTarget c s) s
    let s := allChannels.foldl (fun s c => fanNotice (decide (c ∈ changed)) roleChanged c s) s
    startTests s
  else s

/-! ### The register's events (R3, R4) -/

/-- A new register takes the place of the old: a changed incident view is a notice to the status composer, and the
conditions follow the latches (R3, R4). -/
def storeRegister (new : IncidentRegister) (s : State) : State :=
  let t := s.withReg new
  let t := if viewOf new.records = viewOf s.reg.records then t else statusNotice t
  followLatch (plainCond .registerFull) new.fullLatch (followLatch (plainCond .incidentSplit) new.splitLatch t)

/-- An event that has made a new register of the old; a changed list is followed by a recompute (R3, R4). -/
def registerEvent (new : IncidentRegister) (s : State) : State :=
  let t := storeRegister new s
  if new.records = s.reg.records then t else recompute t

/-- The FIRE-DECLARE of an owed declaration is placed, in LISTEN and ACTIVE; MUTE refuses it (R10, R148). -/
def placeDeclare (s : State) : State :=
  if s.ctl.mode = .listen ∨ s.ctl.mode = .active then s.setQueued .fireDeclare true else s

/-- The declaration check (R9). -/
def declarationCheck (s : State) : State :=
  if s.ctl.mode.applies = true ∧ s.panel.alarm.level = true ∧ holdsZone s.station s.reg.records = false ∧ s.reg.owed = false then
    placeDeclare (s.withReg (oweDeclaration s.reg))
  else s

/-- An owed declaration is placed again (R10). -/
def replaceDeclare (s : State) : State := if s.reg.owed then placeDeclare s else s

end Sys2Proof.Machine
end

