-- ==== Sys2Proof/Machine/Peers.lean ====
section
/-! DEFINITION. The Peer Table and NEIGHBOUR-SILENT (R126 to R134). -/

namespace Sys2Proof.Machine

/-- NEIGHBOUR-SILENT of a zone (R132). -/
def neighbourSilent (z : Nat) : Cond := { code := .neighbourSilent, qualifier := z }

/-- The entry after a STATUS from its station is applied (R128); `silence` is the silence time. -/
def heardPeer (silence : Nat) (rec : StatusRecord) (x : Peer) : Peer :=
  let step : Presence × Nat :=
    match x.presence with
    | .unknown => (.seen, 1)
    | .lost => (.seen, 1)
    | .present => (.present, 4)
    | .seen => if x.spacing.isNone then (.seen, 1) else if x.count < 3 then (.seen, x.count + 1) else (.present, 4)
  { presence := step.1, count := step.2, spacing := some spacingTime, silence := some silence, record := some rec }

/-- The entry after its silence timer expires (R129). -/
def silentPeer (x : Peer) : Peer := { x with presence := .lost, count := 0, spacing := none, silence := none }

/-- The zone is in own neighbour list. -/
def isNeighbour (s : State) (z : Nat) : Bool := decide (z ∈ s.cfg.neighbours)

/-- A STATUS from station z is stored; a neighbour's NEIGHBOUR-SILENT ends when its entry leaves UNKNOWN or LOST (R127,
R128, R132). -/
def storeStatus (z : Nat) (rec : StatusRecord) (s : State) : State :=
  if z = 0 ∨ z = s.station then s
  else
    let s := s.setPeer z (heardPeer s.silence rec (s.peer z))
    if isNeighbour s z then endCond (neighbourSilent z) s else s

/-- A STATUS from station z changes the entry of a neighbour, which the Role Resolver is told (R127, R130). -/
def movesNeighbour (s : State) (z : Nat) : Bool := decide (z ≠ 0) && decide (z ≠ s.station) && isNeighbour s z

/-- A spacing timer expires: it stops (R128). -/
def spacingExpiry (z : Nat) (s : State) : State := s.setPeer z { s.peer z with spacing := none }

/-- A silence timer expires: LOST; a neighbour's NEIGHBOUR-SILENT begins, and the Role Resolver is told (R129, R130,
R132). -/
def silenceExpiry (z : Nat) (s : State) : State :=
  if (s.peer z).silence.isSome then
    let s := s.setPeer z (silentPeer (s.peer z))
    if isNeighbour s z then recompute (raise (neighbourSilent z) s) else s
  else s

/-- A neighbour that is silent: LOST, or UNKNOWN once listening is complete (R132). -/
def isSilent (s : State) (z : Nat) : Bool :=
  isNeighbour s z && (decide ((s.peer z).presence = .lost) || (decide ((s.peer z).presence = .unknown) && s.peers.listened))

/-- NEIGHBOUR-SILENT is raised for every silent neighbour, in ascending zone number (R132, R133). -/
def raiseSilent (s : State) : State :=
  allZones.foldl (fun s z => if isSilent s z then raise (neighbourSilent z) s else s) s

/-- The listening-complete flag is set at the first entry to ACTIVE (R131, R132). -/
def completeListening (s : State) : State :=
  if s.peers.listened then s else raiseSilent (s.withPeers { s.peers with listened := true })

/-- An entry after a warm reset (R133). -/
def resumePeer (silence : Nat) (x : Peer) : Peer :=
  match x.presence with
  | .unknown => { presence := .unknown, count := 0, spacing := none, silence := none, record := none }
  | .lost => { presence := .lost, count := 0, spacing := none, silence := none, record := x.record }
  | _ => { presence := .seen, count := 0, spacing := none, silence := some silence, record := x.record }

/-- The Peer Table after a warm reset (R133). -/
def resumePeers (s : State) : State :=
  s.withPeers { s.peers with entries := mapVec (resumePeer s.silence) s.peers.entries }

end Sys2Proof.Machine
end

