-- ==== Sys2Proof/Machine/Modes.lean ====
section
/-! DEFINITION. The Mode Controller: entry to each mode, conflict evidence, and the resets (R163 to R174). -/

namespace Sys2Proof.Machine

def setMode (m : Mode) (s : State) : State := refreshTrouble (s.withCtl { s.ctl with mode := m })

/-! ### ACTIVE (R170) -/

/-- The sequencers start: dampers and curtains by the entry derivation, then fans (R48, R49, R64, R67). -/
def startSequencers (s : State) : State :=
  allChannels.foldl (fun s c => startFan c s) (allChannels.foldl (fun s c => startDamper c s) s)

/-- ACTIVE is entered from LISTEN (R169, R170). -/
def enterActive (s : State) : State :=
  let s := setMode .active (s.withCtl { s.ctl with listenTimer := none })
  startTests (completeListening (graceStart (startSequencers (recompute s))))

/-! ### LISTEN (R169) -/

/-- The Mode Controller and the status composer at every entry to LISTEN (R120, R169). -/
def beginListen (s : State) : State :=
  startStagger (setMode .listen
    (s.withCtl { s.ctl with listenTimer := some listenTime, quietTimer := none, origin := none }))

/-- LISTEN ends at its entry when own ALARM is active (R169). -/
def endListenOnAlarm (s : State) : State := if s.panel.alarm.level then enterActive s else s

/-- LISTEN is entered from CONFIG: the scan starts (R91, R169). -/
def enterListen (s : State) : State :=
  let s := beginListen s
  endListenOnAlarm (recompute (declarationCheck (setScan (scanFrom s 0) s)))

/-- LISTEN is entered again from MUTE: the scan runs on, an owed declaration is placed again (R10, R169, R171). -/
def reenterListen (s : State) : State := endListenOnAlarm (recompute (declarationCheck (replaceDeclare (beginListen s))))

/-! ### MUTE (R171) -/

/-- MUTE is entered (R171). -/
def enterMute (origin : Origin) (s : State) : State :=
  let s := setMode .mute (s.withCtl
    { s.ctl with listenTimer := none, quietTimer := some quietTime, origin := some origin })
  let s := emptyQueue s
  let s := s.withStatus { s.status with period := none }
  startTests (recompute (raise (plainCond .stationConflict) s))

/-- Conflict evidence (R136, R144, R171). -/
def evidence (s : State) : State :=
  match s.ctl.mode with
  | .listen => enterMute .listen s
  | .active => enterMute .active s
  | .mute => s.withCtl { s.ctl with quietTimer := some quietTime }
  | _ => s

/-- The quiet timer expires: STATION-CONFLICT ends and the node enters its origin (R171). -/
def leaveMute (s : State) : State :=
  let origin := s.ctl.origin
  let s := endCond (plainCond .stationConflict) s
  match origin with
  | some .listen => reenterListen s
  | _ =>
    let s := setMode .active (s.withCtl { s.ctl with quietTimer := none, origin := none })
    startTests (completeListening (recompute (replaceDeclare (startStagger s))))

/-! ### START, CONFIG and LOCKOUT (R164, R165, R172) -/

/-- LOCKOUT is entered: CONFIG-BAD is raised and the stagger starts (R120, R172). -/
def enterLockout (s : State) : State := startStagger (raise (plainCond .configBad) (setMode .lockout s))

/-- The miss limit a pin gives (R164). -/
def missLimitOf : MissPin → Nat
  | .one => 1
  | .three => 3
  | .openPin => 3

/-- The straps are sampled, and START is left for CONFIG, or for LOCKOUT at station 0 (R164). -/
def sampleStraps (p : StrapPins) (s : State) : State :=
  let s := s.withCtl
    { s.ctl with straps := some { station := p.station.toNat, missLimit := missLimitOf p.miss, rate := p.rate } }
  if p.station = 0 then enterLockout s else setMode .config s

/-- The configuration read has completed (R165). -/
def configRead (b : ConfigBytes) (s : State) : State :=
  if blockGood b then enterListen (s.withCtl { s.ctl with config := some (decodeConfig s.station b) })
  else enterLockout s

/-! ### RESET held (R156) -/

/-- What every block does at the moment RESET is taken as held: the link abandons its attempt and empties its queue, the
active set is emptied, a conversion in progress is abandoned, everything else is halted (R60, R87, R107, R153, R162). -/
def resetHeld (s : State) : State :=
  let s := emptyQueue s
  let s := s.withLink { s.link with line := .awaitingIdle, run := 0, retryWait := false, failCount := 0, txFail := false }
  let s := s.withTrouble { s.trouble with active := [] }
  setScan .stopped s

/-- The sequencers are stopped for the resumption, their outputs kept (R60, R87). -/
def haltSequencers (s : State) : State := s.withChans (mapVec (fun x => { x with seq := .stopped }) s.chans)

/-- The sequencers are stopped and the outputs de-energized, as a restarted LISTEN has them (R60, R87). -/
def stopSequencers (s : State) : State :=
  s.withChans (mapVec (fun x => { x with seq := .stopped, output := false }) s.chans)

/-- The hold reaches 5 s: every channel output, FIRE-MODE and TROUBLE de-energized, the sequencers stopped (R156). -/
def allOutputsOff (s : State) : State :=
  let s := stopSequencers s
  let s := s.withRole { s.role with fireMode := false }
  s.withTrouble { s.trouble with output := false }

/-! ### Cold reset (R174) -/

/-- A deglitched input through a cold reset: the level clears and the interval starts again (R45, R63, R154). -/
def Deglitched.cold (x : Deglitched) : Deglitched := { level := false, raw := x.raw, run := 0 }

/-- A pulse line through a cold reset: timer and taken state clear (R155). -/
def Pulse.cold (x : Pulse) : Pulse := { raw := x.raw, run := 0, taken := false }

/-- Every block at its cold-reset values (R174); the raw levels of the lines, the model's own counter and the waiting
commands are no state of a block. The RESET line is released. -/
def coldState (p : StrapPins) (s : State) : State :=
  { State.reset with
    chans := mapVec (fun x => { Channel.reset with inA := x.inA.cold, inB := x.inB.cold }) s.chans
    panel :=
      { alarm := s.panel.alarm.cold, panelReset := s.panel.panelReset.cold, ack := s.panel.ack.cold
        reset := State.reset.panel.reset, straps := p }
    freeTick := s.freeTick
    pending := s.pending }

/-- A cold reset: every block takes its cold-reset values and START is entered and left (R164, R174). -/
def coldReset (p : StrapPins) (s : State) : State := sampleStraps p (coldState p s)

/-! ### Warm reset (R173) -/

/-- Own declaration at the resumption (R26). -/
def resumeDeclaration (s : State) : State :=
  if s.reg.owed then placeDeclare (s.withReg (resumeOwed s.station s.reg)) else declarationCheck s

/-- The conditions whose causes stand at the resumption: the supply state's and the register latches' (R25, R108). -/
def resumeConditions (s : State) : State :=
  let s := followSupply s.meas.supply s
  let s := followLatch (plainCond .incidentSplit) s.reg.splitLatch s
  followLatch (plainCond .registerFull) s.reg.fullLatch s

/-- The sequencers start at the resumption into ACTIVE: dampers and curtains by the entry derivation, fans from the state
they held before the reset (R60, R87). -/
def resumeSequencers (before : Vector Channel 12) (s : State) : State :=
  allChannels.foldl (fun s c => resumeFan before[c.val].seq c s) (allChannels.foldl (fun s c => startDamper c s) s)

/-- What the blocks do alike at a resumption into LISTEN or ACTIVE, once the mode is set: scan, peers, stagger, hold-off,
conditions, own declaration and one recompute (R26, R43, R87, R107, R108, R120, R133). -/
def resumeBlocks (s : State) : State :=
  let s := startStagger (resumePeers (resumeMeasure s))
  let s := s.withStarts { s.starts with holdOff := some s.ownHoldOff }
  let s := raiseSilent (resumeConditions s)
  resumeContain (recompute (resumeDeclaration s))

/-- The resumption into ACTIVE (R173). -/
def resumeActive (s : State) : State :=
  let before := s.chans
  let s := haltSequencers s
  let s := setMode .active (s.withCtl { s.ctl with listenTimer := none, quietTimer := none, origin := none })
  startTests (completeListening (resumeSequencers before (resumeBlocks s)))

/-- The resumption that restarts LISTEN (R169, R173). -/
def resumeListen (s : State) : State :=
  let s := stopSequencers s
  let s := setMode .listen (s.withCtl { s.ctl with listenTimer := some listenTime, quietTimer := none, origin := none })
  endListenOnAlarm (resumeBlocks s)

/-- The RESET line is released. DESIGN CHOICE: the pulse timers are kept as they stand, so an interval still short of 100 ms
at a warm-reset release gives its pulse when it completes (R155, R162, notes/assumptions/37.md). -/
def releaseReset (s : State) : State := s.withPanel { s.panel with reset := State.reset.panel.reset }

/-- A warm-reset release: the mode is set by R173's table, and that entry is the resumption of every block. -/
def warmReset (s : State) : State :=
  let s := releaseReset s
  match s.ctl.mode with
  | .start => sampleStraps s.panel.straps s
  | .config => s
  | .listen => resumeListen s
  | .active => resumeActive s
  | .mute => resumeActive s
  | .lockout => startStagger (raise (plainCond .configBad) s)

end Sys2Proof.Machine
end

