-- ==== Sys2Proof/Machine/Wire.lean ====
section
/-! DEFINITION. The frame on the wire, bit by bit: signalling, inserted bits, parity, check value, the receive decoder,
arbitration by key and the response window, and how the station judges the line (R138 to R146, R151). A bit is `true` when recessive (logic 1) and `false` when
dominant (logic 0). The commands stand for the outcomes of this layer (notes/assumptions/17.md). -/

namespace Sys2Proof.Machine

/-- The line carries dominant when any station drives dominant (R138). -/
def lineBit (a b : Bool) : Bool := a && b

/-- The bit time in microseconds at a link rate (R138). -/
def bitMicros : LinkRate → Nat
  | .low => 32
  | .high => 8

/-- The n low bits of a number, most significant first (R138). -/
def bitsOf : Nat → Nat → List Bool
  | 0, _ => []
  | n + 1, x => decide (x / 2 ^ n % 2 = 1) :: bitsOf n x

/-- The number that a list of bits spells, most significant first. -/
def valueOf (bits : List Bool) : Nat := bits.foldl (fun x b => 2 * x + b.toNat) 0

/-- The number of recessive bits. -/
def recessives (bits : List Bool) : Nat := bits.foldl (fun n b => n + b.toNat) 0

/-! ### The frame (R141) -/

/-- The key read as a number: class × 64 + station. -/
def Frame.key (f : Frame) : Nat := f.cls.toNat * 64 + f.station.toNat

/-- The count field: number of payload words. -/
def Frame.count (f : Frame) : Nat := f.words.length

/-- The check value: key, count and payload words, summed modulo 65536. -/
def checkValue (key count : Nat) (words : List Word) : Nat :=
  (key + count + (words.map (fun w => w.toNat)).foldl (· + ·) 0) % 65536

/-- The sixteen data bits of a word and its parity bit, which makes the number of recessive bits even. -/
def wordBits (w : Nat) : List Bool := bitsOf 16 w ++ [decide (recessives (bitsOf 16 w) % 2 = 1)]

/-- The bits of a frame from the start bit through the parity bit of the check word, without inserted bits. -/
def Frame.bits (f : Frame) : List Bool :=
  false :: (bitsOf 9 f.key ++ bitsOf 3 f.count ++ f.words.flatMap (fun w => wordBits w.toNat)
    ++ wordBits (checkValue f.key f.count f.words))

/-- The number of those bits (R141). -/
def frameBits (n : Nat) : Nat := 30 + 17 * n

/-! ### Inserted bits (R139) -/

/-- The transmitter's insertion: `run` equal bits of level `last` have been sent. After every run of eight equal bits
one complement bit is sent, which counts as the first bit of the next run. -/
def insertFrom (last : Bool) (run : Nat) : List Bool → List Bool
  | [] => []
  | b :: bs =>
    let run' := if b = last then run + 1 else 1
    if run' = 8 then b :: (!b) :: insertFrom (!b) 1 bs else b :: insertFrom b run' bs

/-- The frame as it stands on the wire, less the response window. -/
def Frame.wire (f : Frame) : List Bool := insertFrom true 0 f.bits

/-- The receiver's discarding of inserted bits: none where a bit after eight equal bits is not their complement, an
insertion violation. -/
def discardFrom (last : Bool) (run : Nat) : List Bool → Option (List Bool)
  | [] => some []
  | b :: bs =>
    if run = 8 then (if b = last then none else discardFrom b 1 bs)
    else (discardFrom b (if b = last then run + 1 else 1) bs).map (b :: ·)

/-! ### The receive decoder (R141) -/

/-- A word and its parity bit, none where the parity is wrong. -/
def readWord (bits : List Bool) : Option Nat :=
  if bits.length = 17 ∧ recessives bits % 2 = 0 then some (valueOf (bits.take 16)) else none

/-- The next n payload words. -/
def readWords : Nat → List Bool → Option (List Word)
  | 0, _ => some []
  | n + 1, bits =>
    match readWord (bits.take 17), readWords n (bits.drop 17) with
    | some w, some ws => some (BitVec.ofNat 16 w :: ws)
    | _, _ => none

/-- What a receiver decodes from the bits of a frame, inserted bits discarded: none for any decoding error. -/
def decodeBits (bits : List Bool) : Option Frame :=
  match bits with
  | true :: _ => none
  | [] => none
  | false :: rest =>
    let key := valueOf (rest.take 9)
    let count := valueOf ((rest.drop 9).take 3)
    let body := rest.drop 12
    if count = 0 then none
    else
      match readWords count body, readWord (body.drop (17 * count)) with
      | some ws, some check =>
        if check = checkValue key count ws then
          some { cls := BitVec.ofNat 3 (key / 64), station := BitVec.ofNat 6 (key % 64), words := ws }
        else none
      | _, _ => none

/-- What a receiver decodes from the wire (R139, R141). -/
def decodeWire (wire : List Bool) : Option Frame := (discardFrom true 0 wire).bind decodeBits

/-! ### Idle and the retry wait in bit times (R140, R151) -/

/-- The recessive bits in a row that make the line idle (R140). -/
def idleRun : Nat := 10

/-- The recessive bit times from the close of a window after which a retry wait ends (R151). -/
def waitRun : Nat := 30

/-! ### Reception bit by bit (R139 to R141) -/

/-- Before the start bit. -/
def Intake.begin : Intake := { last := true, run := 0, recessive := 0, violated := false, taken := [] }

/-- One bit of the wire: after eight equal bits the complement is an inserted bit, discarded, and an equal bit is an
insertion violation, after which the receiver goes on taking bits (R139, R141); what the violating bit counts for is free
(notes/assumptions/36.md). -/
def Intake.bit (x : Intake) (b : Bool) : Intake :=
  let recessive := if b then x.recessive + 1 else 0
  if x.run = 8 then
    if b = x.last then
      { last := b, run := Config.violationRun, recessive := recessive, violated := true
        taken := if Config.violationTaken then x.taken ++ [b] else x.taken }
    else { x with last := b, run := 1, recessive := recessive }
  else
    { x with last := b, run := if b = x.last then x.run + 1 else 1, recessive := recessive, taken := x.taken ++ [b] }

/-- The count field of the bits taken, once the start bit, the key and the count have come (R141). -/
def takenCount (taken : List Bool) : Option Nat :=
  if 13 ≤ taken.length then some (valueOf ((taken.drop 10).take 3)) else none

/-- The receiver stands at the place of the response window: the count it has decoded places the end of the frame, a
count of 0 as one payload word, and no inserted bit is still to come (R139, R141, notes/assumptions/16.md). -/
def Intake.atWindow (x : Intake) : Bool :=
  match takenCount x.taken with
  | none => false
  | some n => decide (frameBits (max 1 n) ≤ x.taken.length) && decide (x.run ≠ 8)

/-- What a receiver has of a frame. -/
inductive Reception where
  /-- Bits of the frame are still to come. -/
  | taking
  /-- Ten recessive bits in a row before the place of the window: the line is idle and the frame is ended (R141). -/
  | ended
  /-- The response window follows; none where any decoding error was found (R141, R145). -/
  | window (decoded : Option Frame)
  deriving DecidableEq, Repr

/-- What the bits taken decode to at the place of the window: none after an insertion violation (R141). -/
def Intake.verdict (x : Intake) : Option Frame := if x.violated then none else decodeBits x.taken

/-- What a receiver has after a bit: an idle ends the frame wherever the place of its window lies (R141). -/
def Intake.has (x : Intake) : Reception :=
  if idleRun ≤ x.recessive then .ended else if x.atWindow then .window x.verdict else .taking

/-- A receiver goes on through the bits of the wire. -/
def Intake.receive (x : Intake) : List Bool → Reception
  | [] => .taking
  | b :: bs =>
    match (x.bit b).has with
    | .taking => (x.bit b).receive bs
    | .ended => .ended
    | .window decoded => .window decoded

/-- What a receiver has after the bits of the wire from the start bit on (R141). -/
def receive (wire : List Bool) : Reception := Intake.begin.receive wire

/-! ### The line as judged (R140, R151) -/

/-- What a station makes of the levels of the line: the line as judged, the recessive bits in a row, and whether a retry
wait holds. -/
structure LineWatch where
  line : Line
  run  : Nat
  wait : Bool
  deriving DecidableEq, Repr

/-- A receiver that has taken a start bit. -/
def Intake.start : Intake := Intake.begin.bit false

/-- One bit time outside a frame: ten recessive bits in a row make the line idle and thirty end a retry wait; a dominant
bit on an idle line is another's start bit, which makes this station a receiver and ends a retry wait (R140, R151). -/
def LineWatch.quiet (x : LineWatch) (recessive : Bool) : LineWatch :=
  if recessive then
    let run := min waitRun (x.run + 1)
    { line := if idleRun ≤ run then .idle else x.line, run := run, wait := x.wait && decide (run < waitRun) }
  else if x.line = .idle then { line := .receiving .start, run := 0, wait := false }
  else { x with run := 0 }

/-- One bit time. Within a frame the receiver goes on, up to the two slots of the response window at the place that the
count it has decoded gives, or to an idle before that place; the idle after a frame is counted from the close of its
window (R140, R141, R145). While it sends, the transmitter reads back its own frame. -/
def LineWatch.bit (x : LineWatch) (recessive : Bool) : LineWatch :=
  match x.line with
  | .receiving intake =>
    let next := intake.bit recessive
    match next.has with
    | .taking => { x with line := .receiving next }
    | .window _ => { x with line := .ackSlot }
    | .ended => { x with line := .idle, run := idleRun }
  | .ackSlot => { x with line := .errorSlot }
  | .errorSlot => { x with line := .closed, run := 0 }
  | .awaitingIdle => x.quiet recessive
  | .idle => x.quiet recessive
  | .sending => x
  | .closed => x.quiet recessive

/-- The line as a station judges it. -/
def State.lineWatch (s : State) : LineWatch := { line := s.link.line, run := s.link.run, wait := s.link.retryWait }

/-- The station judges the line from the levels as it reads them, from where the levels before them have left it (R140,
notes/assumptions/35.md). -/
def judgeLine (levels : List Bool) (s : State) : State :=
  let x := levels.foldl LineWatch.bit s.lineWatch
  s.withLink { s.link with line := x.line, run := x.run, retryWait := x.wait }

/-- What the station has of the line that stops driving its frame: a receiver of the frame on the wire, decoding it from
the bits it has read. It read its first n bits as it sent them, and a dominant bit where it sent a recessive one (R143,
R144). -/
def Frame.heardUntil (f : Frame) (n : Nat) : LineWatch :=
  (f.wire.take n ++ [false]).foldl LineWatch.bit { line := .idle, run := idleRun, wait := false }

/-! ### Arbitration and duplicate keys (R143, R144) -/

/-- A bit-by-bit contest of two stations that send together, from one side: a recessive bit sent that reads back dominant
is arbitration lost, and a station that has lost stops driving, so the other loses nothing after it (R143). -/
def losesBits : List Bool → List Bool → Bool
  | own :: owns, other :: others =>
    let read := lineBit own other
    if read ≠ own then true
    else if read ≠ other then false
    else losesBits owns others
  | _, _ => false

/-- A station that sends one key while another sends another loses arbitration (R143). -/
def losesArbitration (own other : Nat) : Bool := losesBits (bitsOf 9 own) (bitsOf 9 other)

/-! ### The response window (R145, R146) -/

/-- The two slots as read: `true` where the slot carries dominant. -/
structure Slots where
  ack   : Bool
  error : Bool
  deriving DecidableEq, Repr

/-- Neither slot driven. -/
def Slots.none : Slots := { ack := false, error := false }

/-- What a receiver drives: ACK for a frame decoded without error, ERROR for any decoding error (R145), and nothing where
it ended the frame before the place of the window (R141). -/
def Reception.drives : Reception → Slots
  | .window decoded => { ack := decoded.isSome, error := decoded.isNone }
  | .ended => .none
  | .taking => .none

/-- What this station drives in the window of a frame it has so received. It drives nothing in reset, nor before it has
judged the line idle since its release, and neither slot of a frame whose window its own attempt has reached; a lost
arbitration or a duplicate-key stop has ended the attempt. The mode makes no difference (R140, R143 to R145). -/
def State.drives (s : State) (r : Reception) : Slots :=
  if s.hears = true ∧ s.link.attempt = none then r.drives else .none

/-- The slots every station reads: what any receiver drives dominant (R138, R145). -/
def readSlots (driven : List Slots) : Slots := { ack := driven.any (·.ack), error := driven.any (·.error) }

/-- A receiver accepts the frame when it drove ACK and no station drove ERROR (R146). -/
def receiverAccepts (own : Slots) (read : Slots) : Bool := own.ack && !read.error

/-- The transmitter's attempt succeeds when ACK is driven and ERROR is not; every other window is a failed attempt
(R146). -/
def transmitterAccepts (read : Slots) : Bool := read.ack && !read.error

/-- The slots that stand in the window of an accepted frame (R146). -/
def acceptedSlots : Slots := { ack := true, error := false }

/-- This station accepts a frame in whose window those slots stand: as the transmitter, whose attempt reached the window,
or as a receiver, whose own attempt, if any was in progress, has ended (R146, notes/assumptions/8.md). -/
def State.accepts (s : State) (own : Bool) (f : Frame) : Bool :=
  if own then s.hears && transmitterAccepts acceptedSlots
  else receiverAccepts ((s.withLink { s.link with attempt := none }).drives (.window (some f))) acceptedSlots

end Sys2Proof.Machine
end

