-- ==== Sys2Proof/Machine/LinkEvents.lean ====
section
/-! DEFINITION. The Link Controller's events: idle, the start and the unaccepted ends of an attempt, the retry wait
(R119, R122 to R124, R140, R143, R144, R146, R149 to R152). -/

namespace Sys2Proof.Machine

/-- The line takes a new standing, and the recessive bits by which it is judged count from there. -/
def State.setLine (s : State) (l : Line) : State := s.withLink { s.link with line := l, run := 0 }

/-! ### Capture (R73, R122, R125) -/

/-- The content of a STATUS as it stands (R122, R123). -/
def statusContent (s : State) : StatusContent :=
  let v := viewOf s.reg.records
  { mode := s.ctl.mode
    role := s.role.role
    override := s.role.override
    alarm := s.panel.alarm.level
    contain := s.contain.state
    fresh := s.trouble.record.any (·.fresh)
    atTarget := channelsAtTarget s
    primary := v.1
    ext1 := v.2.1
    ext2 := v.2.2
    count := s.reg.records.length
    faultCode := (s.trouble.record.map (fun r => r.cond.code.number)).getD 0
    faultQual := (s.trouble.record.map (fun r => r.cond.qualifier)).getD 0 }

/-- A frame of this node (R141). -/
def ownFrame (s : State) (cls : FrameClass) (words : List Word) : Frame :=
  { cls := cls, station := BitVec.ofNat 6 s.station, words := words }

/-- An attempt goes on the wire. -/
def sendFrame (k : FrameKind) (f : Frame) (s : State) : State :=
  s.withLink { s.link with attempt := some { kind := k, frame := f }, line := .sending, run := 0 }

/-- The start of an attempt of a STATUS: content captured, with the filling it carries (R122, R125). -/
def sendStatus (s : State) : State :=
  let c := statusContent s
  let s := s.withStatus
    { s.status with captured := some { fresh := c.fresh, filling := s.trouble.record.map (·.filling) } }
  sendFrame .status (ownFrame s 5 (statusPayload c)) s

/-- The start of an attempt of the claim: channel, class and hold-off captured (R73). With no fan waiting, which the
withdrawal tests rule out, the claim is withdrawn (R75, notes/assumptions/26.md). -/
def sendClaim (s : State) : State :=
  match lowestWaiting s with
  | none => withdrawClaim s
  | some c =>
    let urgent := s.role.role.extract
    let carried := carriedHoldOff s c
    let s := s.withStarts { s.starts with claim := .sending c urgent carried }
    sendFrame .claim (ownFrame s (claimClass urgent) (claimPayload c carried)) s

/-- The start of an attempt of a queued kind (R149). -/
def sendKind (k : FrameKind) (s : State) : State :=
  match k with
  | .clear => sendFrame .clear (ownFrame s 0 clearPayload) s
  | .fireDeclare => sendFrame .fireDeclare (ownFrame s 2 (declarePayload s.cfg.neighbours)) s
  | .claim => sendClaim s
  | .status => sendStatus s

/-- An attempt may start: the line idle, no attempt in progress, no retry wait, a mode that contends (R149, R151). -/
def mayStart (s : State) : Bool :=
  decide (s.link.line = .idle) && s.link.attempt.isNone && !s.link.retryWait && s.ctl.mode.sends

/-! ### The unaccepted ends of an attempt (R74, R119, R124, R149) -/

/-- An attempt ends without acceptance: the frame stays queued, its owner is told, what was captured is discarded, and a
pending early STATUS is served by the frame that stays queued. -/
def endAttempt (l : Line) (run : Nat) (s : State) : State :=
  let wasStatus := s.onWire .status
  let s := s.withLink { s.link with attempt := none, line := l, run := run }
  let s := if wasStatus then s.withStatus { s.status with earlyPending := false, captured := none } else s
  claimRequeued s

/-- The count after a failed attempt, and TX-FAIL at sixteen (R152). -/
def countFailure (s : State) : State :=
  if s.link.failCount < 15 then s.withLink { s.link with failCount := s.link.failCount + 1 }
  else raise (plainCond .txFail) (s.withLink { s.link with failCount := 16, txFail := true })

/-! ### The commands -/

/-- LINE_IDLE (R140): the station judges the line from the levels it carries, which go on from the levels before them. Ten
recessive bits in a row make it idle: the station takes part after a reset once the straps are sampled, and any frame whose
window was not reached is ended. A dominant bit on the idle line then makes it the receiver of another's frame, which it
follows to the close of its window, from where idle is counted again. -/
def execLineIdle (s : State) (levels : List Bool := List.replicate idleRun true) : Host.Outcome State Fault Refusal :=
  .next (s.outside fun s =>
    if s.ctl.straps.isSome ∧ s.link.attempt = none then judgeLine levels s else s)

/-- ATTEMPT_START (R149): the queued frame of lowest class, its content captured. -/
def execAttemptStart (s : State) : Host.Outcome State Fault Refusal :=
  .next (s.outside fun s =>
    if mayStart s then
      match s.link.queue.lowest with
      | some k => sendKind k s
      | none => s
    else s)

/-- The transmitter stops at the bit of its frame that reads back dominant: a receiver of the frame on the wire from there
on, its own frame still queued (R143, R144). -/
def stopSending (bit : Nat) (s : State) : State :=
  match s.link.attempt with
  | none => s
  | some a =>
    let heard := a.frame.heardUntil bit
    startTests (endAttempt heard.line heard.run s)

/-- ARBITRATION_LOST (R143): the station becomes a receiver, its frame stays queued; no count changes. -/
def execArbitrationLost (s : State) (bit : Nat := 1) : Host.Outcome State Fault Refusal :=
  .next (s.outside (stopSending bit))

/-- DUPLICATE_KEY_STOP (R144): as after lost arbitration, and conflict evidence in LISTEN and ACTIVE. -/
def execDuplicateKeyStop (s : State) (bit : Nat := 10) : Host.Outcome State Fault Refusal :=
  .next (s.outside fun s => if s.link.attempt.isSome then evidence (stopSending bit s) else s)

/-- FAILED_ATTEMPT (R146): the frame stays queued, the retry wait begins (R151), the count moves (R152). -/
def execFailedAttempt (s : State) : Host.Outcome State Fault Refusal :=
  .next (s.outside fun s =>
    if s.link.attempt.isSome then
      let s := endAttempt .closed 0 s
      startTests (countFailure (s.withLink { s.link with retryWait := true }))
    else s)

/-- RETRY_WAIT_END (R151): the line has carried the 30 recessive bit times, or another station's start bit makes this node
a receiver. -/
def execRetryWaitEnd (byStartBit : Bool) (s : State) : Host.Outcome State Fault Refusal :=
  .next (s.outside fun s =>
    if s.link.retryWait then
      s.withLink
        (if byStartBit then { s.link with retryWait := false, line := .receiving .start, run := 0 }
          else { s.link with retryWait := false, line := .idle, run := waitRun })
    else s)

end Sys2Proof.Machine
end

