-- ==== Sys2Proof/Machine/Frames.lean ====
section
/-! DEFINITION. Accepted frames (R146, R147): what acceptance does to the link and to the blocks that act on the frame,
and the conflict detector (R136). -/

namespace Sys2Proof.Machine

/-- The frame was sent by own transmitter: it is the frame of own attempt, which ran to the close of the window (R136,
notes/assumptions/9.md). -/
def isOwnFrame (f : Frame) (s : State) : Bool := s.link.attempt.any (fun a => decide (a.frame = f))

/-- Own frame is accepted: it leaves the queue, the failure count returns to 0 and TX-FAIL clears (R149, R152). -/
def ownFrameOut (s : State) : State :=
  match s.link.attempt with
  | none => s
  | some a =>
    let s := s.withLink
      { s.link with
        line := .closed, run := 0, attempt := none, queue := s.link.queue.put a.kind false, failCount := 0, txFail := false }
    endCond (plainCond .txFail) s

/-- Another station's frame is accepted: its start bit ended any retry wait (R151); an own attempt is off the wire as
after lost arbitration, since only one frame holds the line (notes/assumptions/8.md). -/
def otherFrameIn (s : State) : State :=
  let s := if s.link.attempt.isSome then endAttempt .closed 0 s else s.setLine .closed
  s.withLink { s.link with retryWait := false }

/-- The conflict detector: a frame under own station number that own transmitter did not send is evidence (R136). -/
def detectConflict (own : Bool) (f : Frame) (s : State) : State :=
  if !own && decide (f.station.toNat = s.station) then evidence s else s

/-- Acceptance of a frame in whose window this station drove or read ACK and no ERROR stood: the link, then the blocks that
act on it, then the conflict detector (R146, R147). DESIGN CHOICE, both orders: the link clears the failure count and TX-FAIL
of an own frame before the blocks apply it, so a fan that then enters AWAITING-SLOT claims and is not started in isolation
(R152, notes/assumptions/39.md), and the blocks apply the frame before the detector acts (notes/assumptions/13.md). -/
def acceptFrame (own : Bool) (f : Frame) (blocks : State → State) (s : State) : State :=
  if s.accepts own f then
    let t := blocks (if own then ownFrameOut s else otherFrameIn s)
    settleRaises s (startTests (detectConflict own f t))
  else s

/-- A block that applies frames does so in LISTEN, ACTIVE and MUTE (R5, R31, R76, R127). -/
def whenApplied (f : State → State) (s : State) : State := if s.ctl.mode.applies then f s else s

/-! ### What the blocks do -/

/-- CLEAR at the Incident Register: R14, steps 1 to 4. -/
def applyClear (s : State) : State := declarationCheck (registerEvent (clearRegister s.reg) s)

/-- OVERRIDE at the Role Resolver (R32). -/
def applyOverride (w : Word) (s : State) : State :=
  if (overrideZone w = s.station ∨ overrideZone w = 0) ∧ overrideMode w ≠ s.role.override then
    recompute (statusNotice (s.withRole { s.role with override := overrideMode w }))
  else s

/-- FIRE-DECLARE at the Incident Register (R6, R7, R12). -/
def applyDeclare (own : Bool) (station : Station) (words : List Word) (s : State) : State :=
  let s := if own then s.withReg (ownDeclared s.reg) else s
  registerEvent (declareFrame s.station station.toNat words s.reg) s

/-- Own STATUS at the status composer: the fresh-fault flag clears when the record still holds the filling captured with
the flag set (R125); the period restarts (R124); a pending early STATUS is queued at once (R119). -/
def ownStatusAccepted (s : State) : State :=
  let reported : Bool :=
    match s.status.captured, s.trouble.record with
    | some c, some r => c.fresh && decide (c.filling = some r.filling)
    | _, _ => false
  let s :=
    if reported then
      s.withTrouble { s.trouble with record := s.trouble.record.map (fun r => { r with fresh := false }) }
    else s
  let early := s.status.earlyPending
  let s := s.withStatus { period := some periodTime, earlyPending := false, captured := none }
  if early then queueStatus s else s

/-- The incident view of a STATUS at the Incident Register (R16); a STATUS under station 0 is ignored (R5). -/
def applyView (station : Station) (w2 w3 : Word) (s : State) : State :=
  if station = 0 then s else storeRegister (viewFrame s.station (readView w2 w3) s.reg) s

/-- STATUS: own STATUS at the composer, another's at the Peer Table; then its view at the Incident Register (R127, R147).
A change of a neighbour's entry and a change of the list each cause a recompute; the targets depend on the final state
alone, so the recompute is made once, from the state that both have left (R29, R39, R130). -/
def applyStatus (own : Bool) (station : Station) (w1 w2 w3 : Word) (s : State) : State :=
  let t :=
    if own then ownStatusAccepted s
    else whenApplied (storeStatus station.toNat { mode := readMode w1, contain := readContain w1 }) s
  let t := whenApplied (applyView station w2 w3) t
  if (!own && movesNeighbour s station.toNat) || decide (t.reg.records ≠ s.reg.records) then recompute t else t

/-! ### The commands -/

/-- CLEAR_ACCEPTED (R14). -/
def execClearAccepted (station : Station) (word : Word) (s : State) : Host.Outcome State Fault Refusal :=
  let f : Frame := { cls := 0, station := station, words := [word] }
  .next (acceptFrame (isOwnFrame f s) f (whenApplied applyClear) s)

/-- OVERRIDE_ACCEPTED (R32). This node sends none, so the frame is never its own. -/
def execOverrideAccepted (station : Station) (word : Word) (s : State) : Host.Outcome State Fault Refusal :=
  .next (acceptFrame false { cls := 1, station := station, words := [word] } (whenApplied (applyOverride word)) s)

/-- FIRE_DECLARE_ACCEPTED (R7). -/
def execFireDeclareAccepted (station : Station) (words : List Word) (s : State) : Host.Outcome State Fault Refusal :=
  let f : Frame := { cls := 2, station := station, words := words }
  .next (acceptFrame (isOwnFrame f s) f (whenApplied (applyDeclare (isOwnFrame f s) station words)) s)

/-- START_CLAIM_ACCEPTED (R76, R77). -/
def execStartClaimAccepted (urgent : Bool) (station : Station) (word : Word) (s : State) :
    Host.Outcome State Fault Refusal :=
  let f : Frame := { cls := claimClass urgent, station := station, words := [word] }
  .next (acceptFrame (isOwnFrame f s) f
    (if isOwnFrame f s then ownClaim else whenApplied (peerClaim (claimHoldOff word))) s)

/-- STATUS_ACCEPTED (R127). -/
def execStatusAccepted (station : Station) (w1 w2 w3 w4 : Word) (s : State) : Host.Outcome State Fault Refusal :=
  let f : Frame := { cls := 5, station := station, words := [w1, w2, w3, w4] }
  .next (acceptFrame (isOwnFrame f s) f (applyStatus (isOwnFrame f s) station w1 w2 w3) s)

/-- OTHER_FRAME_ACCEPTED (R142): handed to no block; it reaches the conflict detector. This node sends no such frame. -/
def execOtherFrameAccepted (cls : FrameClass) (station : Station) (words : List Word) (s : State) :
    Host.Outcome State Fault Refusal :=
  .next (acceptFrame false { cls := cls, station := station, words := words } id s)

end Sys2Proof.Machine
end

