-- ==== Sys2Proof/Machine/MeasureEvents.lean ====
section
/-! DEFINITION. The Measurement Unit's and the Containment Monitor's commands: CONVERSION_A_DONE, PAIR_COMPLETE,
SUPPLY_SAMPLE, GRACE_TIMER_EXPIRY (R89, R94, R103, R114). -/

namespace Sys2Proof.Machine

/-- CONVERSION_A_DONE (R89): conversion B of the pair begins, no result is applied. -/
def execConversionADone (code : Code) (s : State) : Host.Outcome State Fault Refusal :=
  .next (s.outside fun s =>
    match s.meas.scan with
    | .convA p => setScan (.convB p code) s
    | _ => s)

/-- PAIR_COMPLETE (R94): the scan goes on, and the pair is applied. SENSOR-FAULT and the loss of containment by one pair of
a BOUNDARY channel are raises of two blocks; at a PROVING channel the manual's worked case has SENSOR-FAULT first
(notes/assumptions/11.md). -/
def execPairComplete (code : Code) (s : State) : Host.Outcome State Fault Refusal :=
  .next (s.outside fun s =>
    match s.meas.scan with
    | .convB p codeA =>
      let t := pairEvent p codeA code (setScan (scanFrom s (p.val + 1)) s)
      if (s.prCfg p).role = .boundary then settleRaises s t else t
    | _ => s)

/-- SUPPLY_SAMPLE (R103): the scan begins again, and the reading is applied. -/
def execSupplySample (code : Code) (s : State) : Host.Outcome State Fault Refusal :=
  .next (s.outside fun s =>
    match s.meas.scan with
    | .supply => supplyEvent (supplyReading s.cfg.supplyGain code) (setScan (scanFrom s 0) s)
    | _ => s)

/-- GRACE_TIMER_EXPIRY (R114). -/
def execGraceTimerExpiry (s : State) : Host.Outcome State Fault Refusal := .next (s.outside graceExpiry)

end Sys2Proof.Machine
end

