-- ==== Sys2Proof/Machine/ModeEvents.lean ====
section
/-! DEFINITION. The Mode Controller's events: CONFIG_READ_DONE, LISTEN_TIMER_EXPIRY, MUTE_QUIET_TIMER_EXPIRY (R165,
R169, R171). -/

namespace Sys2Proof.Machine

/-- CONFIG_READ_DONE (R165): the read goes on in CONFIG alone. -/
def execConfigReadDone (block : ConfigBytes) (s : State) : Host.Outcome State Fault Refusal :=
  .next (s.outside fun s => if s.ctl.mode = .config then settleRaises s (configRead block s) else s)

/-- LISTEN_TIMER_EXPIRY (R169). -/
def execListenTimerExpiry (s : State) : Host.Outcome State Fault Refusal :=
  .next (s.outside fun s =>
    if s.ctl.mode = .listen ∧ s.ctl.listenTimer.isSome = true then settleRaises s (enterActive s) else s)

/-- MUTE_QUIET_TIMER_EXPIRY (R171). -/
def execMuteQuietTimerExpiry (s : State) : Host.Outcome State Fault Refusal :=
  .next (s.outside fun s =>
    if s.ctl.mode = .mute ∧ s.ctl.quietTimer.isSome = true then settleRaises s (leaveMute s) else s)

end Sys2Proof.Machine
end

