-- ==== Sys2Proof/Machine/PanelEvents.lean ====
section
/-! DEFINITION. The Panel Lines' commands and the Incident Register's own timer: ALARM_CHANGE, PANEL_RESET_PULSE,
ACK_PULSE, PULSE_LINE_RETURN_INACTIVE, ISOLATED_DECLARATION_TIMER_EXPIRY (R13, R154, R155, R160). -/

namespace Sys2Proof.Machine

/-- A deglitched level has changed: the raw line holds it (R45, R154). -/
def takeLevel (level : Bool) : Deglitched := { level := level, raw := level, run := 0 }

/-- A pulse has been taken: the line is active and must return to inactive first (R155). -/
def takePulse (x : Pulse) : Pulse := { x with raw := true, taken := true }

/-- What a changed ALARM level does outside reset: the declaration check, the end of LISTEN, the early STATUS notice
(R154). -/
def alarmEvent (active : Bool) (s : State) : State :=
  let s := statusNotice s
  if active then
    let s := declarationCheck s
    if s.ctl.mode = .listen then enterActive s else s
  else s

/-- ALARM_CHANGE (R154): in reset the level changes and is passed to no block. -/
def execAlarmChange (active : Bool) (s : State) : Host.Outcome State Fault Refusal :=
  .next (if s.panel.alarm.level = active then s
    else
      let t := s.withPanel { s.panel with alarm := takeLevel active }
      settleRaises s (t.outside (alarmEvent active)))

/-- PANEL_RESET_PULSE (R155): a CLEAR is placed in LISTEN and ACTIVE; a pulse completed in reset is discarded. -/
def execPanelResetPulse (s : State) : Host.Outcome State Fault Refusal :=
  .next (if s.panel.panelReset.taken then s
    else
      let t := s.withPanel { s.panel with panelReset := takePulse s.panel.panelReset }
      t.outside fun t => if t.ctl.mode = .listen ∨ t.ctl.mode = .active then t.setQueued .clear true else t)

/-- ACK_PULSE (R155, R160): taken in every mode outside reset; `together` when the events up to the next millisecond fall
together with the pulse (notes/assumptions/38.md). -/
def execAckPulse (s : State) (together : Bool := false) : Host.Outcome State Fault Refusal :=
  .next (if s.panel.ack.taken then s
    else
      let t := s.withPanel { s.panel with ack := takePulse s.panel.ack }
      t.outside (acknowledge together))

/-- PULSE_LINE_RETURN_INACTIVE (R155): the next pulse may be taken on the line, in reset as outside it. -/
def execPulseLineReturnInactive (line : PulseLine) (s : State) : Host.Outcome State Fault Refusal :=
  .next (match line with
    | .panelReset => s.withPanel { s.panel with panelReset := .reset }
    | .ack => s.withPanel { s.panel with ack := .reset })

/-- ISOLATED_DECLARATION_TIMER_EXPIRY (R13). -/
def execIsolatedDeclarationTimerExpiry (s : State) : Host.Outcome State Fault Refusal :=
  .next (s.outside fun s =>
    if s.reg.isoTimer.isSome then registerEvent (isolatedExpiry s.station s.cfg.neighbours s.reg) s else s)

end Sys2Proof.Machine
end

