-- ==== Sys2Proof/Machine/PeerEvents.lean ====
section
/-! DEFINITION. The status composer's and the Peer Table's timers: STATUS_PERIOD_TIMER_EXPIRY, SPACING_TIMER_EXPIRY,
SILENCE_TIMER_EXPIRY (R120, R128, R129). -/

namespace Sys2Proof.Machine

/-- STATUS_PERIOD_TIMER_EXPIRY (R120): a STATUS is queued and the timer stops. -/
def execStatusPeriodTimerExpiry (s : State) : Host.Outcome State Fault Refusal :=
  .next (s.outside fun s =>
    if s.status.period.isSome then queueStatus (s.withStatus { s.status with period := none }) else s)

/-- SPACING_TIMER_EXPIRY (R128). -/
def execSpacingTimerExpiry (peer : Station) (s : State) : Host.Outcome State Fault Refusal :=
  .next (s.outside (spacingExpiry peer.toNat))

/-- SILENCE_TIMER_EXPIRY (R129). -/
def execSilenceTimerExpiry (peer : Station) (s : State) : Host.Outcome State Fault Refusal :=
  .next (s.outside fun s => settleRaises s (silenceExpiry peer.toNat s))

end Sys2Proof.Machine
end

