-- ==== Sys2Proof/Machine/Resets.lean ====
section
/-! DEFINITION. The commands of the RESET line and of power: POWER_UP, RESET_HELD, RESET_HOLD_5S, WARM_RESET, COLD_RESET
(R156, R173, R174). -/

namespace Sys2Proof.Machine

/-- POWER_UP (R174): the effect of a cold-reset release, with the straps as their pins stand. -/
def execPowerUp (straps : StrapPins) (s : State) : Host.Outcome State Fault Refusal := .next (coldReset straps s)

/-- COLD_RESET (R174): the release after a hold of 5 s or more (notes/assumptions/22.md). -/
def execColdReset (straps : StrapPins) (s : State) : Host.Outcome State Fault Refusal := .next (coldReset straps s)

/-- RESET_HELD (R156): the line has been active for 20 ms, and the hold time counts from the start of that interval. -/
def execResetHeld (s : State) : Host.Outcome State Fault Refusal :=
  .next (s.outside fun s =>
    let s := resetHeld s
    s.withPanel { s.panel with
      reset := { raw := true, run := 0, held := true, hold := resetDeglitch, fiveSecs := false } })

/-- RESET_HOLD_5S (R156): reached only while the line is held. -/
def execResetHold5s (s : State) : Host.Outcome State Fault Refusal :=
  .next (if s.inReset then
    let s := allOutputsOff s
    s.withPanel { s.panel with reset := { s.panel.reset with hold := coldHold, fiveSecs := true } }
  else s)

/-- WARM_RESET (R173): the release of a held line before 5 s. -/
def execWarmReset (s : State) : Host.Outcome State Fault Refusal :=
  .next (if s.inReset = true ∧ s.panel.reset.fiveSecs = false then settleRaises s (warmReset s) else s)

end Sys2Proof.Machine
end

