-- ==== Sys2Proof/Machine/Clock.lean ====
section
/-! DEFINITION. Time with no command waiting: one millisecond of every timer and every deglitch interval, and the event
that an interval or a timer that has run out brings (notes/assumptions/3.md and 23.md). -/

namespace Sys2Proof.Machine

/-! ### One millisecond -/

/-- A running timer counts down by n. -/
def countDown (n : Nat) (t : Option Nat) : Option Nat := t.map (· - n)

/-- A deglitched input: the interval runs while the raw level differs, and starts again when it does not (R45, R154). -/
def Deglitched.tick (x : Deglitched) : Deglitched := { x with run := if x.raw = x.level then 0 else x.run + 1 }

/-- A pulse line: the interval runs while the line is active and no pulse is taken (R155). DESIGN CHOICE: it runs on
through a warm reset and its release, where R155 and R162 leave the pulse open (notes/assumptions/37.md). -/
def Pulse.tick (x : Pulse) : Pulse := { x with run := if x.raw = true ∧ x.taken = false then x.run + 1 else 0 }

/-- The RESET line: the hold time counts while held, and an interval runs against the level taken (R156). -/
def ResetLine.tick (x : ResetLine) : ResetLine :=
  if x.held then { x with hold := min coldHold (x.hold + 1), run := if x.raw then 0 else x.run + 1 }
  else { x with run := if x.raw then x.run + 1 else 0 }

/-- The timers of a sequencer: travel at the rate of R57, proving frozen under FAIL (R84), run-down at full rate (R83). -/
def tickSeq (kind : ChannelKind) (supply : Supply) : Sequencer → Sequencer
  | .stopped => .stopped
  | .damper st t => .damper st (countDown (travelRate kind st supply) t)
  | .fan st p r => .fan st (if supply = .fail then p else countDown 1 p) (countDown 1 r)

/-- A peer's timers (R129). -/
def Peer.tick (x : Peer) : Peer := { x with spacing := countDown 1 x.spacing, silence := countDown 1 x.silence }

/-- The deglitch intervals and the lines, which run in reset as outside it (R45, R154 to R156). -/
def tickLines (s : State) : State :=
  let s := s.withPanel
    { s.panel with
      alarm := s.panel.alarm.tick, panelReset := s.panel.panelReset.tick, ack := s.panel.ack.tick
      reset := s.panel.reset.tick }
  s.withChans (mapVec (fun x => { x with inA := x.inA.tick, inB := x.inB.tick }) s.chans)

/-- The sequencers' timers. -/
def tickSequencers (s : State) : State :=
  allChannels.foldl
    (fun s c => s.setCh c { s.ch c with seq := tickSeq (s.chCfg c).kind s.meas.supply (s.ch c).seq }) s

/-- The timers that a node in reset does not advance. -/
def tickTimers (s : State) : State :=
  let s := s.withCtl
    { s.ctl with listenTimer := countDown 1 s.ctl.listenTimer, quietTimer := countDown 1 s.ctl.quietTimer }
  let s := s.withReg { s.reg with isoTimer := countDown 1 s.reg.isoTimer }
  let s := s.withStarts { s.starts with holdOff := countDown 1 s.starts.holdOff }
  let s := s.withContain { s.contain with grace := countDown 1 s.contain.grace }
  let s := s.withStatus { s.status with period := countDown 1 s.status.period }
  let s := s.withPeers { s.peers with entries := mapVec Peer.tick s.peers.entries }
  tickSequencers s

/-- No later event falls together with an ACK pulse that has been taken (R160, notes/assumptions/38.md). -/
def endAck (s : State) : State :=
  s.withTrouble { s.trouble with record := s.trouble.record.map (fun r => { r with acked := false }) }

/-- One millisecond passes. -/
def passMs (s : State) : State := endAck (tickLines (s.outside tickTimers))

/-! ### What has run out -/

/-- The timer has run out. -/
def ranOut (t : Option Nat) : Bool := decide (t = some 0)

/-- An event that is due, or none. -/
def dueWhen (b : Bool) (i : Instr) : List Instr := if b then [i] else []

/-- The RESET line's events (R156). -/
def dueReset (s : State) : List Instr :=
  let r := s.panel.reset
  dueWhen (!r.held && decide (resetDeglitch ≤ r.run)) .resetHeld
    ++ dueWhen (r.held && !r.fiveSecs && decide (coldHold ≤ r.hold)) .resetHold5s
    ++ dueWhen (r.held && decide (resetDeglitch ≤ r.run) && r.fiveSecs) (.coldReset s.panel.straps)
    ++ dueWhen (r.held && decide (resetDeglitch ≤ r.run) && !r.fiveSecs) .warmReset

/-- The panel lines' events (R154, R155); every event due at the ACK pulse's millisecond falls together with it (R160,
notes/assumptions/38.md). -/
def duePanel (s : State) : List Instr :=
  let p := s.panel
  dueWhen (!p.panelReset.taken && decide (pulseTime ≤ p.panelReset.run)) .panelResetPulse
    ++ dueWhen (p.panelReset.taken && !p.panelReset.raw) (.pulseLineReturnInactive .panelReset)
    ++ dueWhen (!p.ack.taken && decide (pulseTime ≤ p.ack.run)) (.ackPulse true)
    ++ dueWhen (p.ack.taken && !p.ack.raw) (.pulseLineReturnInactive .ack)
    ++ dueWhen (decide (p.alarm.raw ≠ p.alarm.level) && decide (alarmDeglitch ≤ p.alarm.run)) (.alarmChange p.alarm.raw)

/-- A deglitched input has held its new level for 200 ms (R45, R63). -/
def inputDue (x : Deglitched) : Bool := decide (x.raw ≠ x.level) && decide (inputDeglitch ≤ x.run)

/-- The feedback inputs' events (R45, R63). -/
def dueInputs (s : State) (c : ChannelNo) : List Instr :=
  let x := s.ch c
  dueWhen (inputDue x.inA)
      (if (s.chCfg c).kind.isFan then .provingSwitchChange c x.inA.raw else .limitChange c .a x.inA.raw)
    ++ dueWhen (inputDue x.inB) (.limitChange c .b x.inB.raw)

/-- A channel's timers (R56, R79, R83). -/
def dueChannel (s : State) (c : ChannelNo) : List Instr :=
  match (s.ch c).seq with
  | .stopped => []
  | .damper st t =>
    dueWhen (ranOut t && decide (travelRate (s.chCfg c).kind st s.meas.supply ≠ 0)) (.travelTimerExpiry c)
  | .fan st p r =>
    dueWhen (decide (st = .starting) && ranOut p && decide (s.meas.supply ≠ .fail)) (.provingTimerExpiry c)
      ++ dueWhen (decide (st = .stopping) && ranOut r) (.runDownTimerExpiry c)

/-- A peer's timers (R128, R129). -/
def duePeer (s : State) (z : Nat) : List Instr :=
  dueWhen (ranOut (s.peer z).spacing) (.spacingTimerExpiry (BitVec.ofNat 6 z))
    ++ dueWhen (ranOut (s.peer z).silence) (.silenceTimerExpiry (BitVec.ofNat 6 z))

/-- The timers of the other blocks (R13, R71, R114, R120, R169, R171). -/
def dueNode (s : State) : List Instr :=
  dueWhen (decide (s.ctl.mode = .listen) && ranOut s.ctl.listenTimer) .listenTimerExpiry
    ++ dueWhen (decide (s.ctl.mode = .mute) && ranOut s.ctl.quietTimer) .muteQuietTimerExpiry
    ++ dueWhen (ranOut s.reg.isoTimer) .isolatedDeclarationTimerExpiry
    ++ dueWhen (ranOut s.starts.holdOff) .holdOffExpiry
    ++ dueWhen (decide (s.contain.state = .pending) && ranOut s.contain.grace) .graceTimerExpiry
    ++ dueWhen (ranOut s.status.period) .statusPeriodTimerExpiry

/-- Every event that is due, in the order the model takes them; the timers of a node in reset bring none. -/
def dueEvents (s : State) : List Instr :=
  dueReset s ++ duePanel s ++ allChannels.flatMap (dueInputs s)
    ++ (if s.inReset then [] else dueNode s ++ allChannels.flatMap (dueChannel s) ++ allZones.flatMap (duePeer s))

end Sys2Proof.Machine
end

