-- ==== Sys2Proof/Machine/Dispatch.lean ====
section
/-! DEFINITION. The meaning of every command, one arm per constructor. -/

namespace Sys2Proof.Machine

def exec (i : Instr) (s : State) : Host.Outcome State Fault Refusal :=
  match i with
  | .powerUp straps => Sys2Proof.Machine.execPowerUp straps s
  | .resetHeld => Sys2Proof.Machine.execResetHeld s
  | .resetHold5s => Sys2Proof.Machine.execResetHold5s s
  | .warmReset => Sys2Proof.Machine.execWarmReset s
  | .coldReset straps => Sys2Proof.Machine.execColdReset straps s
  | .configReadDone block => Sys2Proof.Machine.execConfigReadDone block s
  | .listenTimerExpiry => Sys2Proof.Machine.execListenTimerExpiry s
  | .muteQuietTimerExpiry => Sys2Proof.Machine.execMuteQuietTimerExpiry s
  | .lineIdle levels => Sys2Proof.Machine.execLineIdle s levels
  | .attemptStart => Sys2Proof.Machine.execAttemptStart s
  | .arbitrationLost bit => Sys2Proof.Machine.execArbitrationLost s bit
  | .duplicateKeyStop bit => Sys2Proof.Machine.execDuplicateKeyStop s bit
  | .failedAttempt => Sys2Proof.Machine.execFailedAttempt s
  | .retryWaitEnd byStartBit => Sys2Proof.Machine.execRetryWaitEnd byStartBit s
  | .clearAccepted station word => Sys2Proof.Machine.execClearAccepted station word s
  | .overrideAccepted station word => Sys2Proof.Machine.execOverrideAccepted station word s
  | .fireDeclareAccepted station words => Sys2Proof.Machine.execFireDeclareAccepted station words s
  | .startClaimAccepted urgent station word => Sys2Proof.Machine.execStartClaimAccepted urgent station word s
  | .statusAccepted station w1 w2 w3 w4 => Sys2Proof.Machine.execStatusAccepted station w1 w2 w3 w4 s
  | .otherFrameAccepted cls station words => Sys2Proof.Machine.execOtherFrameAccepted cls station words s
  | .isolatedDeclarationTimerExpiry => Sys2Proof.Machine.execIsolatedDeclarationTimerExpiry s
  | .alarmChange active => Sys2Proof.Machine.execAlarmChange active s
  | .panelResetPulse => Sys2Proof.Machine.execPanelResetPulse s
  | .ackPulse together => Sys2Proof.Machine.execAckPulse s together
  | .statusPeriodTimerExpiry => Sys2Proof.Machine.execStatusPeriodTimerExpiry s
  | .spacingTimerExpiry peer => Sys2Proof.Machine.execSpacingTimerExpiry peer s
  | .silenceTimerExpiry peer => Sys2Proof.Machine.execSilenceTimerExpiry peer s
  | .holdOffExpiry => Sys2Proof.Machine.execHoldOffExpiry s
  | .provingTimerExpiry ch => Sys2Proof.Machine.execProvingTimerExpiry ch s
  | .runDownTimerExpiry ch => Sys2Proof.Machine.execRunDownTimerExpiry ch s
  | .provingSwitchChange ch made => Sys2Proof.Machine.execProvingSwitchChange ch made s
  | .limitChange ch input made => Sys2Proof.Machine.execLimitChange ch input made s
  | .travelTimerExpiry ch => Sys2Proof.Machine.execTravelTimerExpiry ch s
  | .graceTimerExpiry => Sys2Proof.Machine.execGraceTimerExpiry s
  | .conversionADone code => Sys2Proof.Machine.execConversionADone code s
  | .pairComplete code => Sys2Proof.Machine.execPairComplete code s
  | .supplySample code => Sys2Proof.Machine.execSupplySample code s
  | .pulseLineReturnInactive line => Sys2Proof.Machine.execPulseLineReturnInactive line s

end Sys2Proof.Machine
end

