-- ==== Sys2Proof/Safety.lean ====
section
/-! DEFINITION. What claims about the node are stated in: the laws the manual gives each block, and the state less what a
kind of work may move, for frames. -/

namespace Sys2Proof.Machine

/-! ### The laws of the blocks -/

/-- Zones of a neighbour list: 0..6 zones, each 1..63, no duplicates, not the zone itself (R2, R166). -/
def NeighbourLaw (zone : Nat) (zs : List Nat) : Prop :=
  zs.length ≤ 6 ∧ zs.Nodup ∧ ∀ z ∈ zs, 1 ≤ z ∧ z ≤ 63 ∧ z ≠ zone

/-- The ranges of a channel's configuration (R62, R167); an interlock is a damper or curtain. -/
def ChannelLaw (k : NodeConfig) (c : ChannelConfig) : Prop :=
  (c.kind.isDamper = true → 5 ≤ c.time1 ∧ c.time1 ≤ 120)
    ∧ (c.kind.isFan = true → (5 ≤ c.time1 ∧ c.time1 ≤ 60) ∧ c.time2 ≤ 120)
    ∧ c.interlocks.length ≤ 2 ∧ c.interlocks.Nodup
    ∧ (∀ d ∈ c.interlocks, (k.channels[d.val]).kind.isDamper = true)
    ∧ (∀ p ∈ c.proving.toList, (k.pressure[p.val]).role = .proving)

/-- The ranges of a pressure channel's configuration (R92, R168). -/
def PressureLaw (p : PressureConfig) : Prop :=
  (1 ≤ p.gain ∧ p.gain ≤ 65535) ∧ (-2047 ≤ p.trim ∧ p.trim ≤ 2047) ∧ (1 ≤ p.threshold ∧ p.threshold ≤ 5000)
    ∧ p.hysteresis ≤ 255

/-- The ranges of a decoded configuration (R166 to R168). -/
def ConfigLaw (own : Nat) (k : NodeConfig) : Prop :=
  NeighbourLaw own k.neighbours
    ∧ (∀ c : ChannelNo, ChannelLaw k k.channels[c.val])
    ∧ (∀ p : PressureNo, PressureLaw k.pressure[p.val])
    ∧ (1 ≤ k.supplyGain ∧ k.supplyGain ≤ 65535) ∧ (1 ≤ k.holdOff ∧ k.holdOff ≤ 60) ∧ (10 ≤ k.grace ∧ k.grace ≤ 300)

/-- A timer holds at most a value. -/
def AtMost (n : Nat) (t : Option Nat) : Prop := ∀ r ∈ t.toList, r ≤ n

/-- The Mode Controller (R156, R163 to R173): each timer runs in its mode alone, the origin is held in MUTE alone, the
straps are held from START on and the configuration in LISTEN, ACTIVE and MUTE. -/
def ModeLaw (s : State) : Prop :=
  (s.ctl.listenTimer.isSome = true ↔ s.ctl.mode = .listen) ∧ AtMost listenTime s.ctl.listenTimer
    ∧ (s.ctl.quietTimer.isSome = true ↔ s.ctl.mode = .mute) ∧ AtMost quietTime s.ctl.quietTimer
    ∧ (s.ctl.origin.isSome = true ↔ s.ctl.mode = .mute)
    ∧ (s.ctl.straps = none ↔ s.ctl.mode = .start)
    ∧ (∀ x ∈ s.ctl.straps.toList, x.station ≤ 63 ∧ (x.missLimit = 1 ∨ x.missLimit = 3))
    ∧ (s.ctl.mode = .config ∨ s.ctl.mode.applies = true → 1 ≤ s.station)
    ∧ (s.ctl.config.isSome = true ↔ s.ctl.mode.applies = true)
    ∧ (∀ k ∈ s.ctl.config.toList, ConfigLaw s.station k)
    ∧ (s.panel.reset.fiveSecs = true → s.inReset = true)

/-- One declaration record (R2). -/
def RecordLaw (r : Record) : Prop :=
  (1 ≤ r.zone ∧ r.zone ≤ 63) ∧ NeighbourLaw r.zone r.neighbours ∧ (r.source = .learned → r.neighbours = [])

/-- The PRIMARY records of a list. -/
def primaries (rs : List Record) : List Record := rs.filter (fun r => decide (r.standing = .primary))

/-- The laws of the list (R1, R2). -/
def ListLaw (rs : List Record) : Prop :=
  rs.length ≤ maxRecords ∧ (rs.map (·.zone)).Nodup ∧ (extensionsOf rs).length ≤ 2
    ∧ (rs = [] ∨ (primaries rs).length = 1) ∧ ∀ r ∈ rs, RecordLaw r

/-- The Incident Register (R1, R2, R5, R9, R11): while the isolated-declaration timer runs a declaration is owed and own
zone is absent; outside LISTEN, ACTIVE and MUTE the register is empty and owes nothing. -/
def RegisterLaw (s : State) : Prop :=
  ListLaw s.reg.records
    ∧ (s.reg.isoTimer.isSome = true → s.reg.owed = true ∧ holdsZone s.station s.reg.records = false)
    ∧ AtMost isolatedTime s.reg.isoTimer
    ∧ (s.ctl.mode.applies = false → s.reg.records = [] ∧ s.reg.owed = false)

/-- The Role Resolver (R27, R31, R38, R40, R41): role, assist flag, targets and FIRE-MODE are what a recompute gives; in
START, CONFIG and LOCKOUT they hold their cold-reset values; FIRE-MODE is off from the moment the RESET hold reaches 5 s. -/
def RoleLaw (s : State) : Prop :=
  (s.ctl.mode.applies = true →
      s.role.role = deriveRole s ∧ s.role.assist = deriveAssist s.role.role s
        ∧ (∀ c : ChannelNo, (s.ch c).target = newTarget s c)
        ∧ (s.panel.reset.fiveSecs = false → s.role.fireMode = deriveFireMode s))
    ∧ (s.ctl.mode.applies = false →
      s.role.override = .auto ∧ s.role.role = .normal ∧ s.role.assist = false ∧ s.role.fireMode = false
        ∧ ∀ c : ChannelNo, (s.ch c).target = .off)
    ∧ (s.panel.reset.fiveSecs = true → s.role.fireMode = false)

/-- The sequencers run: in ACTIVE, and in MUTE entered from ACTIVE, until the RESET hold reaches 5 s (R48, R64, R156). -/
def State.running (s : State) : Bool := s.sequencing && !s.panel.reset.fiveSecs

/-- A running damper or curtain sequencer (R46): the limits agree with the state but while the node is in reset, where
limit events are not acted on (R60). -/
def TravelLaw (s : State) (c : ChannelNo) (st : TravelState) (travel : Option Nat) : Prop :=
  let x := s.ch c
  match st with
  | .atOpen => x.target = .on ∧ travel = none ∧ (s.inReset = false → x.openLimit = true ∧ x.closedLimit = false)
  | .atClosed => x.target = .off ∧ travel = none ∧ (s.inReset = false → x.closedLimit = true ∧ x.openLimit = false)
  | .opening =>
    x.target = .on ∧ travel.isSome = true ∧ AtMost (travelTime s c) travel ∧ (s.inReset = false → x.openLimit = false)
  | .closing =>
    x.target = .off ∧ travel.isSome = true ∧ AtMost (travelTime s c) travel ∧ (s.inReset = false → x.closedLimit = false)
  | .jammed => travel = none ∧ (s.inReset = false → x.ownLimit = false)
  | .limitConflict => travel = none ∧ (s.inReset = false → x.openLimit = true ∧ x.closedLimit = true)

/-- A running fan sequencer (R65, R67, R70): the timers of its state, the target its state goes with, and the position of
its interlocks in the waiting states. -/
def FanLaw (s : State) (c : ChannelNo) (st : FanState) (proving runDown : Option Nat) : Prop :=
  (match st with
    | .starting => proving.isSome = true ∧ AtMost ((s.chCfg c).time1 * 1000) proving
    | _ => proving = none)
  ∧ (match st with
    | .stopping => runDown.isSome = true ∧ AtMost ((s.chCfg c).time2 * 1000) runDown
    | _ => runDown = none)
  ∧ (match st with
    | .stopped => (s.ch c).target = .off
    | .stopping => True
    | _ => (s.ch c).target = .on)
  ∧ (match st with
    | .awaitingSlot => interlocksAtTarget s c = true
    | .blocked => interlocksAtTarget s c = false
    | .awaitingInterlock => interlocksAtTarget s c = false ∧ interlockFaulted s c = false
    | _ => True)

/-- One channel (R46 to R48, R64, R65). -/
def SequencerLaw (s : State) (c : ChannelNo) : Prop :=
  (s.ch c).output = outputOf (s.ch c).target (s.ch c).seq
    ∧ match (s.ch c).seq with
      | .stopped => s.running = true → (s.chCfg c).kind = .unused
      | .damper st t => s.running = true ∧ (s.chCfg c).kind.isDamper = true ∧ TravelLaw s c st t
      | .fan st p r => s.running = true ∧ (s.chCfg c).kind.isFan = true ∧ FanLaw s c st p r

/-- Every channel. -/
def ChannelsLaw (s : State) : Prop := ∀ c : ChannelNo, SequencerLaw s c

/-- The class of the frame of a kind; a claim's is URGENT-CLAIM or CLAIM (R142). -/
def kindHasClass (k : FrameKind) (cls : FrameClass) : Bool :=
  match k with
  | .clear => decide (cls = 0)
  | .fireDeclare => decide (cls = 2)
  | .claim => decide (cls = 3) || decide (cls = 4)
  | .status => decide (cls = 5)

/-- The attempt and the line (R149, R151): the frame on the wire is still queued, carries own station and a class of its
kind, and no retry wait holds. -/
def AttemptLaw (s : State) : Prop :=
  match s.link.attempt with
  | none => s.link.line ≠ .sending
  | some a =>
    s.link.line = .sending ∧ s.link.retryWait = false ∧ s.link.queue.holds a.kind = true ∧ a.frame.station = BitVec.ofNat 6 s.station
      ∧ kindHasClass a.kind a.frame.cls = true ∧ s.ctl.mode.sends = true

/-- The line and the recessive bits in a row by which it is judged (R140, R141, R151): ten of them make it idle, none are
counted within a frame and its window, and a retry wait stands only on a line that has not yet carried thirty. -/
def LineLaw (x : LineWatch) : Prop :=
  (match x.line with
    | .idle => idleRun ≤ x.run ∧ x.run ≤ waitRun
    | .awaitingIdle => x.run < idleRun
    | .closed => x.run < idleRun
    | .receiving intake => x.run = 0 ∧ intake.has = .taking
    | .ackSlot => x.run = 0
    | .errorSlot => x.run = 0
    | .sending => x.run = 0)
    ∧ (x.wait = true → (x.line = .idle ∨ x.line = .closed) ∧ x.run < waitRun)

/-- The claim record (R71 to R75): its frame is in the queue, it is SENDING exactly while that frame is on the wire, it
stands in ACTIVE alone and only while the hold-off is stopped, and QUEUED only while a fan waits and the supply is not
FAIL. -/
def ClaimLaw (s : State) : Prop :=
  match s.starts.claim with
  | .absent => s.link.queue.claim = false
  | .queued =>
    s.link.queue.claim = true ∧ s.onWire .claim = false ∧ s.ctl.mode = .active ∧ s.starts.holdOff = none
      ∧ (lowestWaiting s).isSome = true ∧ s.meas.supply ≠ .fail
  | .sending c urgent carried =>
    s.link.queue.claim = true ∧ s.ctl.mode = .active ∧ s.starts.holdOff = none
      ∧ s.link.attempt = some { kind := .claim, frame := ownFrame s (claimClass urgent) (claimPayload c carried) }

/-- What may stand in the queue in a mode (R119, R148, R151, R155, R163). -/
def QueueLaw (s : State) : Prop :=
  match s.ctl.mode with
  | .listen => s.link.queue.claim = false
  | .active => True
  | .lockout => s.link.queue.put .status false = .empty
  | _ => s.link.queue = .empty

/-- The Link Controller, the line, the claim record, the period timer and the captured STATUS (R119, R125, R148, R149, R152,
R153). -/
def LinkLaw (s : State) : Prop :=
  AttemptLaw s ∧ LineLaw s.lineWatch ∧ ClaimLaw s ∧ QueueLaw s
    ∧ s.link.failCount ≤ 16 ∧ (s.link.txFail = true ↔ s.link.failCount = 16)
    ∧ (s.status.captured.isSome = true ↔ s.onWire .status = true)
    ∧ (s.status.earlyPending = true → s.onWire .status = true)
    ∧ (s.status.period.isSome = true → s.ctl.mode.sends = true) ∧ AtMost periodTime s.status.period
    ∧ (s.inReset = true → s.link = State.reset.link)

/-- One pressure channel (R92, R93, R95); an UNUSED one holds its cold-reset values. -/
def PressureStateLaw (role : PressureRole) (x : PressureState) : Prop :=
  x.satCount ≤ 4 ∧ x.recovery ≤ 3 ∧ x.provenCount ≤ 3 ∧ x.unprovenCount ≤ 3
    ∧ (x.fault = true ↔ x.satCount = 4) ∧ (x.fault = false → x.recovery = 0)
    ∧ (x.fault = true → x.proven = false ∧ x.provenCount = 0 ∧ x.unprovenCount = 0)
    ∧ (x.proven = true → x.provenCount = 0) ∧ (x.proven = false → x.unprovenCount = 0)
    ∧ (role = .unused → x = .reset)

/-- The scan converts enabled channels alone (R90). -/
def ScanLaw (s : State) : Prop :=
  match s.meas.scan with
  | .convA p => enabled s p = true
  | .convB p _ => enabled s p = true
  | _ => True

/-- The Measurement Unit (R90 to R93, R106, R107): the scan runs in LISTEN, ACTIVE and MUTE, and not while in reset. -/
def MeasureLaw (s : State) : Prop :=
  (∀ p : PressureNo, PressureStateLaw (s.prCfg p).role (s.pressure p)) ∧ ScanLaw s
    ∧ (s.meas.scan = .stopped ↔ s.ctl.mode.applies = false ∨ s.inReset = true)
    ∧ (s.ctl.mode.applies = false → s.meas = State.reset.meas)

/-- The Containment Monitor (R109 to R114). -/
def ContainLaw (s : State) : Prop :=
  (match s.contain.state with
    | .notApplicable => s.role.role.extract = false
    | .unsupervised => s.role.role.extract = true ∧ boundarySet s = []
    | .achieved => s.role.role.extract = true ∧ boundaryTest s = true
    | .pending => s.role.role.extract = true ∧ boundarySet s ≠ [] ∧ boundaryTest s = false
    | .notAchieved => s.role.role.extract = true ∧ boundarySet s ≠ [] ∧ boundaryTest s = false)
    ∧ (s.contain.grace.isSome = true ↔ s.contain.state = .pending ∧ s.sequencing = true)
    ∧ AtMost (graceTime s) s.contain.grace
    ∧ (s.ctl.mode.applies = false → s.contain = State.reset.contain)

/-- One entry of the Peer Table (R126, R129). -/
def EntryLaw (silence : Nat) (x : Peer) : Prop :=
  (match x.presence with
    | .unknown => x = .reset
    | .lost => x.count = 0 ∧ x.spacing = none ∧ x.silence = none ∧ x.record.isSome = true
    | .seen => x.count ≤ 3 ∧ x.silence.isSome = true ∧ x.record.isSome = true
    | .present => x.count = 4 ∧ x.silence.isSome = true ∧ x.record.isSome = true)
    ∧ AtMost spacingTime x.spacing ∧ AtMost silence x.silence

/-- The Peer Table (R126, R127, R134): own entry is not written, and the table is empty outside LISTEN, ACTIVE, MUTE. -/
def PeerLaw (s : State) : Prop :=
  (∀ z : Fin 63, EntryLaw s.silence s.peers.entries[z.val]) ∧ s.peer s.station = .reset
    ∧ (s.ctl.mode.applies = false → s.peers = State.reset.peers)

/-- The qualifiers a code may carry (R157). -/
def QualifierLaw (c : Cond) : Prop :=
  match c.code with
  | .damperJammed => 1 ≤ c.qualifier ∧ c.qualifier ≤ 12
  | .limitConflict => 1 ≤ c.qualifier ∧ c.qualifier ≤ 12
  | .fanBlocked => 1 ≤ c.qualifier ∧ c.qualifier ≤ 12
  | .fanProveFail => 1 ≤ c.qualifier ∧ c.qualifier ≤ 12
  | .fanRunLost => 1 ≤ c.qualifier ∧ c.qualifier ≤ 12
  | .sensorFault => 1 ≤ c.qualifier ∧ c.qualifier ≤ 4
  | .neighbourSilent => 1 ≤ c.qualifier ∧ c.qualifier ≤ 63
  | _ => c.qualifier = 0

/-- The Trouble Unit (R156, R157, R159, R161): no instance twice, an empty record only over an empty set, and TROUBLE as
the record, the mode and the RESET hold give it. -/
def TroubleLaw (s : State) : Prop :=
  (s.trouble.active.map Cond.key).Pairwise (· < ·) ∧ (∀ c ∈ s.trouble.active, QualifierLaw c)
    ∧ (∀ r ∈ s.trouble.record.toList, QualifierLaw r.cond ∧ r.filling ≤ s.trouble.fillings)
    ∧ (s.trouble.record = none → s.trouble.active = [])
    ∧ s.trouble.output = troubleLevel s
    ∧ (s.panel.reset.fiveSecs = true → s.inReset = true)

/-- The state of a running damper or curtain sequencer. -/
def Sequencer.travelState : Sequencer → Option TravelState
  | .damper st _ => some st
  | _ => none

/-- The state of a running fan sequencer. -/
def Sequencer.fanState : Sequencer → Option FanState
  | .fan st _ _ => some st
  | _ => none

/-- The cause of an instance stands: the states in which the blocks have it active, but for the trouble-enable flag of a
channel (R4, R58, R85, R95, R104, R115, R132, R152, R171, R172). -/
def causeStands (s : State) (c : Cond) : Prop :=
  match c.code with
  | .configBad => s.ctl.mode = .lockout
  | .stationConflict => s.ctl.mode = .mute
  | .txFail => s.link.txFail = true
  | .fieldSupplyFail => s.meas.supply = .fail
  | .fieldSupplyLow => s.meas.supply ≠ .normal
  | .sensorFault => ∃ p : PressureNo, c = sensorFault p ∧ (s.pressure p).fault = true
  | .containmentNotAchieved => s.contain.state = .notAchieved
  | .neighbourSilent =>
    c.qualifier ∈ s.cfg.neighbours
      ∧ ((s.peer c.qualifier).presence = .lost
        ∨ ((s.peer c.qualifier).presence = .unknown ∧ s.peers.listened = true))
  | .incidentSplit => s.reg.splitLatch = true
  | .registerFull => s.reg.fullLatch = true
  | .damperJammed => ∃ d : ChannelNo, c = chanCond .damperJammed d ∧ (s.ch d).seq.travelState = some .jammed
  | .limitConflict => ∃ d : ChannelNo, c = chanCond .limitConflict d ∧ (s.ch d).seq.travelState = some .limitConflict
  | .fanBlocked => ∃ d : ChannelNo, c = chanCond .fanBlocked d ∧ (s.ch d).seq.fanState = some .blocked
  | .fanProveFail =>
    ∃ d : ChannelNo, c = chanCond .fanProveFail d
      ∧ ((s.ch d).seq.fanState = some .proveFail ∨ (s.ch d).seq.fanState = some (.failedOff .prove))
  | .fanRunLost =>
    ∃ d : ChannelNo, c = chanCond .fanRunLost d
      ∧ ((s.ch d).seq.fanState = some .runLost ∨ (s.ch d).seq.fanState = some (.failedOff .run))

/-- The active set (R4, R58, R85, R95, R104, R115, R132, R152, R157, R158, R162, R171, R172): outside reset exactly the
instances whose cause stands and that no cleared trouble-enable flag masks; in reset none. Outside LISTEN, ACTIVE and MUTE
no latch is set. -/
def ConditionLaw (s : State) : Prop :=
  (s.inReset = true → s.trouble.active = [])
    ∧ (s.inReset = false → ∀ c : Cond, QualifierLaw c →
        (c ∈ s.trouble.active ↔ causeStands s c ∧ masked c s = false))
    ∧ (s.ctl.mode.applies = false → s.reg.fullLatch = false ∧ s.reg.splitLatch = false)

/-- Own declaration and its frame (R10, R12): outside reset, in LISTEN and ACTIVE, a FIRE-DECLARE is queued exactly while
own declaration is owed. -/
def DeclarationLaw (s : State) : Prop :=
  s.inReset = false → s.ctl.mode = .listen ∨ s.ctl.mode = .active → (s.reg.owed = true ↔ s.link.queue.fireDeclare = true)

/-! ### The appends of a merge (R20, R21) -/

/-- The record removed from a full list to make room: the last SECONDARY record that is LEARNED; with none such, the last
whose neighbour list holds neither the primary nor a zone of the extension set; with none such, the last SECONDARY record
(R21). -/
def RoomMade (p : Nat) (e : List Nat) (full rest : List Record) : Prop :=
  let learned (x : Record) : Prop := x.standing = .secondary ∧ x.source = .learned
  let remote (x : Record) : Prop := x.standing = .secondary ∧ ∀ z ∈ p :: e, z ∉ x.neighbours
  ∃ (before : List Record) (r : Record) (after : List Record), full = before ++ r :: after ∧ rest = before ++ after
    ∧ ((learned r ∧ ∀ x ∈ after, ¬learned x)
      ∨ ((∀ x ∈ full, ¬learned x) ∧ remote r ∧ ∀ x ∈ after, ¬remote x)
      ∨ ((∀ x ∈ full, ¬learned x ∧ ¬remote x) ∧ r.standing = .secondary ∧ ∀ x ∈ after, x.standing ≠ .secondary))

/-- One append of step 2 of R20 takes the list x.1 to y.1: none for a zone already present; at the end while fewer than 16
records stand; otherwise in the room that R21 makes. The flag is the REGISTER-FULL latch. -/
def MergeAppend (p : Nat) (e : List Nat) (zone : Nat) (st : Standing) (x y : List Record × Bool) : Prop :=
  let new : Record := { zone := zone, standing := st, source := .learned, neighbours := [] }
  (zone ∈ x.1.map (·.zone) → y = x)
    ∧ (zone ∉ x.1.map (·.zone) → x.1.length < 16 → y = (x.1 ++ [new], x.2))
    ∧ (zone ∉ x.1.map (·.zone) → 16 ≤ x.1.length → ∃ rest, RoomMade p e x.1 rest ∧ y = (rest ++ [new], true))

/-- The appends of step 2 of R20, in order. -/
def MergeAppends (p : Nat) (e : List Nat) : List (Nat × Standing) → List Record × Bool → List Record × Bool → Prop
  | [], x, y => y = x
  | (zone, st) :: more, x, y => ∃ m, MergeAppend p e zone st x m ∧ MergeAppends p e more m y

/-! ### The state less what a kind of work may move -/

/-- Less what reports move: the Trouble Unit, the place of STATUS in the queue, the early-pending mark, and the model's own
counter (R119, R121, R157 to R161). -/
def State.lessReports (s : State) : State :=
  { s with
    trouble := State.reset.trouble
    freeTick := 0
    link := { s.link with queue := s.link.queue.put .status false }
    status := { s.status with earlyPending := false } }

/-- Less also what sequencing moves: states, timers and outputs of the sequencers, and the start logic with its frame. -/
def State.lessSequencing (s : State) : State :=
  { s.lessReports with
    starts := State.reset.starts
    link := { s.link with queue := (s.link.queue.put .status false).put .claim false }
    chans := mapVec (fun x => { x with seq := .stopped, output := false }) s.chans }

/-- Less also what a recompute moves: role, assist flag, FIRE-MODE, targets and containment; the override stays. -/
def State.lessRoles (s : State) : State :=
  { s.lessSequencing with
    role := { State.reset.role with override := s.role.override }
    chans := mapVec (fun x => { x with seq := .stopped, output := false, target := .off }) s.chans
    contain := State.reset.contain }

end Sys2Proof.Machine
end

