-- ==== Sys2Proof/Certificates/Slice0/Obligations.lean ====
section
/-! DEFINITION. The statements for the provers. They are stated in the terms of the manual and of Sys2Proof/Safety.lean.
Each statement about a command answers, for every state and operands that meet its hypotheses, that exec answers a next
state and what that state holds. -/

open Sys2Proof Sys2Proof.Machine

/-- The command at the front of the queue runs, on the node with the queue's rest. -/
def Obligations.StepRunsTheFrontCommand : Prop :=
  ∀ (c : Instr) (rest : List Instr) (s : State), s.pending = c :: rest → step s = exec c (s.withPending rest)

/-- The model's choice (notes/assumptions/3.md): with no command waiting, the first event that is due runs; with
none due, one millisecond passes, with each timer at the rate the manual gives it. In reset no block's timer
moves; the deglitch intervals, the pulse lines and the RESET line run in reset as outside it. -/
def Obligations.EmptyQueueLetsTimePass : Prop :=
  ∀ s : State, s.pending = [] →
    (∀ (c : Instr) (rest : List Instr), dueEvents s = c :: rest → step s = exec c s)
    ∧ (dueEvents s = [] → ∃ t, step s = .next t
        ∧ (s.inReset = false →
            t.starts = { s.starts with holdOff := s.starts.holdOff.map (· - 1) }
            ∧ t.contain = { s.contain with grace := s.contain.grace.map (· - 1) }
            ∧ t.reg = { s.reg with isoTimer := s.reg.isoTimer.map (· - 1) }
            ∧ t.status = { s.status with period := s.status.period.map (· - 1) }
            ∧ t.ctl = { s.ctl with
                listenTimer := s.ctl.listenTimer.map (· - 1), quietTimer := s.ctl.quietTimer.map (· - 1) }
            ∧ t.peers.listened = s.peers.listened
            ∧ (∀ z : Station, t.peer z.toNat = { s.peer z.toNat with
                spacing := (s.peer z.toNat).spacing.map (· - 1), silence := (s.peer z.toNat).silence.map (· - 1) })
            ∧ (∀ c : ChannelNo, (t.ch c).seq = match (s.ch c).seq with
                | .stopped => .stopped
                | .damper st travel => .damper st (travel.map (· - travelRate (s.chCfg c).kind st s.meas.supply))
                | .fan st p r => .fan st (if s.meas.supply = .fail then p else p.map (· - 1)) (r.map (· - 1))))
        ∧ (s.inReset = true →
            t.starts = s.starts ∧ t.contain = s.contain ∧ t.reg = s.reg ∧ t.status = s.status ∧ t.ctl = s.ctl
            ∧ t.peers = s.peers ∧ ∀ c : ChannelNo, (t.ch c).seq = (s.ch c).seq)
        ∧ (∀ c : ChannelNo, (t.ch c).target = (s.ch c).target ∧ (t.ch c).output = (s.ch c).output
            ∧ ∀ i : Input, (t.ch c).input i = { (s.ch c).input i with
                run := if ((s.ch c).input i).raw = ((s.ch c).input i).level then 0 else ((s.ch c).input i).run + 1 })
        ∧ t.panel =
            { alarm := { s.panel.alarm with
                run := if s.panel.alarm.raw = s.panel.alarm.level then 0 else s.panel.alarm.run + 1 }
              panelReset := { s.panel.panelReset with
                run := if s.panel.panelReset.raw = true ∧ s.panel.panelReset.taken = false
                  then s.panel.panelReset.run + 1 else 0 }
              ack := { s.panel.ack with
                run := if s.panel.ack.raw = true ∧ s.panel.ack.taken = false then s.panel.ack.run + 1 else 0 }
              reset := { s.panel.reset with
                run := if s.panel.reset.raw = s.panel.reset.held then 0 else s.panel.reset.run + 1
                hold := if s.inReset then min 5000 (s.panel.reset.hold + 1) else s.panel.reset.hold }
              straps := s.panel.straps }
        ∧ t.role = s.role ∧ t.link = s.link ∧ t.meas = s.meas ∧ t.freeTick = s.freeTick
        ∧ t.trouble = { s.trouble with record := s.trouble.record.map (fun r => { r with acked := false }) }
        ∧ t.pending = [])

/-- No command ends in a fault or a refusal (notes/assumptions/24.md), and none touches the queue. -/
def Obligations.EveryCommandAnswersNext : Prop :=
  ∀ (i : Instr) (s : State), ∃ t, exec i s = .next t ∧ t.pending = s.pending

/-- Each Mode Controller timer runs in its mode alone; origin, straps and configuration are held where the manual
holds them. -/
def Obligations.StepKeepsModeLaw : Prop :=
  ∀ s t : State, ModeLaw s → step s = .next t → ModeLaw t

/-- The laws of the list (R1) and of its records (R2), and R5 and R11 beside them. -/
def Obligations.StepKeepsRegisterLaw : Prop :=
  ∀ s t : State, ModeLaw s → RegisterLaw s → step s = .next t → RegisterLaw t

/-- Role, assist flag, targets and FIRE-MODE never lag behind what they are derived from (R29). -/
def Obligations.StepKeepsRoleLaw : Prop :=
  ∀ s t : State, ModeLaw s → RoleLaw s → step s = .next t → RoleLaw t

/-- Each sequencer is running or stopped with the mode, its output is its state's, and its timers, limits, target
and interlocks agree with its state (R46 to R48, R64, R65, R67, R70). -/
def Obligations.StepKeepsChannelsLaw : Prop :=
  ∀ s t : State, ModeLaw s → RoleLaw s → ChannelsLaw s → step s = .next t → ChannelsLaw t

/-- The queue, the attempt, the line, the claim record, the failure count and the captured STATUS agree (R72, R75,
R119, R148, R149, R152, R153). -/
def Obligations.StepKeepsLinkLaw : Prop :=
  ∀ s t : State, ModeLaw s → LinkLaw s → step s = .next t → LinkLaw t

/-- The state of a pressure channel (R93) and where the scan runs (R90, R91, R107). -/
def Obligations.StepKeepsMeasureLaw : Prop :=
  ∀ s t : State, ModeLaw s → MeasureLaw s → step s = .next t → MeasureLaw t

/-- The containment state goes with the role and the BOUNDARY comparators, and the grace timer runs in PENDING alone
(R109, R112). -/
def Obligations.StepKeepsContainLaw : Prop :=
  ∀ s t : State, ModeLaw s → ContainLaw s → step s = .next t → ContainLaw t

/-- What each entry of the Peer Table holds (R126). -/
def Obligations.StepKeepsPeerLaw : Prop :=
  ∀ s t : State, PeerLaw s → step s = .next t → PeerLaw t

/-- The active set, the first-fault record and TROUBLE agree (R157, R159, R161). -/
def Obligations.StepKeepsTroubleLaw : Prop :=
  ∀ s t : State, TroubleLaw s → step s = .next t → TroubleLaw t

/-- The node right after reset (State.reset) meets every law that a step keeps; the values the spec leaves open are
notes/assumptions/6.md. -/
def Obligations.ResetMeetsEveryLaw : Prop :=
  ModeLaw .reset ∧ RegisterLaw .reset ∧ RoleLaw .reset ∧ ChannelsLaw .reset ∧ LinkLaw .reset ∧ MeasureLaw .reset
    ∧ ContainLaw .reset ∧ PeerLaw .reset ∧ TroubleLaw .reset ∧ ConditionLaw .reset ∧ DeclarationLaw .reset

/-- A frame of 1..7 payload words is received from the wire as it was sent: inserted bits, parity, check value and
count hide nothing, and the count places the response window (R139, R141). Then the window: what each station
drives (R140, R145) and the one verdict (R146). That a run of eight equal bits that ends a frame is followed by
an inserted bit is notes/assumptions/16.md (DEDUCED). THE MODEL'S CHOICE is the LINE_IDLE clause: that the
command carries the levels of a whole frame and its two slots, and that these move the line and a retry wait
alone whatever the slots carry. By R146 and R147 a window with ACK and no ERROR makes the node act on the frame;
the model leaves that to the command of the accepted frame (notes/assumptions/35.md and 17.md, DESIGN CHOICE). -/
def Obligations.WireReadsBack : Prop :=
  (∀ f : Frame, 1 ≤ f.words.length → f.words.length ≤ 7 →
      decodeWire f.wire = some f ∧ (∀ after : List Bool, receive (f.wire ++ after) = .window (some f))
      ∧ (∀ n, n < f.wire.length → receive (f.wire.take n) = .taking)
      ∧ ∀ (s : State) (ack error : Bool) (n : Nat), s.inReset = false → s.ctl.straps.isSome = true →
        s.link.attempt = none → s.link.line = .idle →
        exec (.lineIdle (f.wire ++ [ack, error] ++ List.replicate n true)) s =
          .next { s with link := { s.link with
            line := if 10 ≤ n then .idle else .closed, run := min 30 n, retryWait := false } })
    ∧ (∀ (s : State) (r : Reception),
      (s.inReset = true ∨ s.link.line = .awaitingIdle ∨ s.link.attempt ≠ none →
        s.drives r = { ack := false, error := false })
      ∧ (s.inReset = false → s.link.line ≠ .awaitingIdle → s.link.attempt = none →
        (∀ f, r = .window (some f) → s.drives r = { ack := true, error := false })
        ∧ (r = .window none → s.drives r = { ack := false, error := true })
        ∧ (r = .taking ∨ r = .ended → s.drives r = { ack := false, error := false })))
    ∧ (∀ stations : List (State × Reception),
      let read := readSlots (stations.map fun x => x.1.drives x.2)
      let receives (s : State) : Prop := s.inReset = false ∧ s.link.line ≠ .awaitingIdle ∧ s.link.attempt = none
      let clean : Prop := ∀ x ∈ stations, receives x.1 → x.2 ≠ .window none
      (transmitterAccepts read = true ↔ clean ∧ ∃ x ∈ stations, receives x.1 ∧ ∃ f, x.2 = .window (some f))
      ∧ (∀ x ∈ stations, receiverAccepts (x.1.drives x.2) read = true ↔
          clean ∧ receives x.1 ∧ ∃ f, x.2 = .window (some f))
      ∧ (∀ x ∈ stations, receives x.1 → (∃ d, x.2 = .window d) →
          receiverAccepts (x.1.drives x.2) read = transmitterAccepts read))

/-- Bit counts of R141, and the law of R139. -/
def Obligations.WireRunsAndLengths : Prop :=
  ∀ f : Frame,
    f.bits.length = 30 + 17 * f.words.length
    ∧ (∀ (pre post : List Bool) (b : Bool), f.wire ≠ pre ++ List.replicate 9 b ++ post)
    ∧ f.bits.length ≤ f.wire.length ∧ 8 * (f.wire.length - f.bits.length) ≤ f.wire.length

/-- The outcome of a bit-by-bit contest of two keys on a line where dominant overrides recessive. -/
def Obligations.LowestKeyWinsArbitration : Prop :=
  ∀ f g : Frame,
    (losesArbitration f.key g.key = true ↔
      g.cls.toNat < f.cls.toNat ∨ (g.cls = f.cls ∧ g.station.toNat < f.station.toNat))
    ∧ f.key = f.cls.toNat * 64 + f.station.toNat ∧ f.key ≤ 511

/-- The layouts of 8.3 for a FIRE-DECLARE and a STATUS, against what acceptance reads (R6, R16, R122, R128). -/
def Obligations.OwnPayloadsReadBack : Prop :=
  (∀ (own : Nat) (zs : List Nat), NeighbourLaw own zs →
      readDeclare own (declarePayload zs) = some zs
      ∧ (declarePayload zs).length = 1 + (zs.length - 1 + 1) / 2 ∧ (declarePayload zs).length ≤ 4)
    ∧ (∀ s : State, ListLaw s.reg.records → TroubleLaw s → s.ctl.mode.sends = true →
      ∃ w1 w2 w3 w4, statusPayload (statusContent s) = [w1, w2, w3, w4]
      ∧ (s.ctl.mode = .listen → readMode w1 = .listen) ∧ (s.ctl.mode = .active → readMode w1 = .active)
      ∧ (s.ctl.mode = .lockout → readMode w1 = .lockout)
      ∧ readContain w1 = s.contain.state
      ∧ field w1 13 11 = s.role.role.code ∧ field w1 10 9 = s.role.override.code
      ∧ field w1 8 8 = s.panel.alarm.level.toNat ∧ field w1 4 4 = (s.trouble.record.any (·.fresh)).toNat
      ∧ field w1 3 0 = channelsAtTarget s ∧ channelsAtTarget s ≤ 12
      ∧ readView w2 w3 =
          (if s.reg.records = [] then none
           else some { primary := primaryOf s.reg.records, extensions := extensionsOf s.reg.records })
      ∧ field w3 4 0 = s.reg.records.length
      ∧ (s.trouble.record = none → w4 = 0)
      ∧ ∀ r, s.trouble.record = some r → field w4 11 8 = r.cond.code.number ∧ field w4 5 0 = r.cond.qualifier)

/-- R18: the one register change that can fall between capture and acceptance is the expiry of the isolated-
declaration timer. -/
def Obligations.OwnStatusViewChangesNoRegister : Prop :=
  ∀ (s : State) (ns : List Nat) (now : IncidentRegister) (w1 w2 w3 w4 : Word),
    ListLaw s.reg.records → 1 ≤ s.station → s.station ≤ 63 →
    statusPayload (statusContent s) = [w1, w2, w3, w4] →
    now = s.reg ∨ now = isolatedExpiry s.station ns s.reg →
    viewFrame s.station (readView w2 w3) now = now

/-- The fixed-point pipeline of 5.4, with its exact rounding and ranges (R97, R98, R99). -/
def Obligations.PipelineBounds : Prop :=
  ∀ (k : PressureConfig) (a b : Code), PressureLaw k → saturatedPair a b = false →
    (signal a b).natAbs = (a.toInt - b.toInt).natAbs / 2 ∧ (0 ≤ a.toInt - b.toInt → 0 ≤ signal a b)
    ∧ (a.toInt - b.toInt ≤ 0 → signal a b ≤ 0)
    ∧ (-1048573 ≤ a.toInt - b.toInt ∧ a.toInt - b.toInt ≤ 1048573)
    ∧ -524286 ≤ signal a b ∧ signal a b ≤ 524286
    ∧ (-526333 ≤ signal a b - k.trim ∧ signal a b - k.trim ≤ 526333)
    ∧ (signal a b - k.trim).natAbs * k.gain ≤ 34493233155
    ∧ (scaled k a b).natAbs = (signal a b - k.trim).natAbs * k.gain / 65536
    ∧ (0 ≤ signal a b - k.trim → 0 ≤ scaled k a b) ∧ (signal a b - k.trim ≤ 0 → scaled k a b ≤ 0)
    ∧ (scaled k a b).natAbs ≤ (signal a b - k.trim).natAbs
    ∧ -526324 ≤ scaled k a b ∧ scaled k a b ≤ 526324
    ∧ pressureOf k a b = max (-5000) (min 5000 (scaled k a b))
    ∧ -5000 ≤ pressureOf k a b ∧ pressureOf k a b ≤ 5000

/-- R100: bands, and four pairs in a row in the band opposite to the decision held. -/
def Obligations.ComparatorNeedsFourPairs : Prop :=
  ∀ (k : PressureConfig) (p : Int) (x : PressureState), x.provenCount ≤ 3 → x.unprovenCount ≤ 3 →
    (let q := if k.negative then -p else p
     (bandOf k p = .high ↔ (k.threshold : Int) ≤ q)
     ∧ (bandOf k p = .dead ↔ (k.threshold : Int) - k.hysteresis ≤ q ∧ q < k.threshold)
     ∧ (bandOf k p = .low ↔ q < (k.threshold : Int) - k.hysteresis))
    ∧ (∀ b : Band, x.proven = false → applyBand b x =
        if b = .high then
          (if x.provenCount = 3 then { x with proven := true, provenCount := 0 }
           else { x with provenCount := x.provenCount + 1 })
        else { x with provenCount := 0 })
    ∧ (∀ b : Band, x.proven = true → applyBand b x =
        if b = .low then
          (if x.unprovenCount = 3 then { x with proven := false, unprovenCount := 0 }
           else { x with unprovenCount := x.unprovenCount + 1 })
        else { x with unprovenCount := 0 })
    ∧ (x.provenCount = 0 → x.unprovenCount = 0 →
        let opposite : Band := if x.proven then .low else .high
        (∀ bs : List Band, bs.length < 4 → (bs.foldl (fun y b => applyBand b y) x).proven = x.proven)
        ∧ ((List.replicate 4 opposite).foldl (fun y b => applyBand b y) x) = { x with proven := !x.proven }
        ∧ ∀ (bs : List Band) (b : Band), bs.length < 4 → b ≠ opposite →
            (bs ++ [b]).foldl (fun y b => applyBand b y) x = x)

/-- R19 to R22: the view and the records after a merge, the new extension set by R19's steps 2 and 3, the order of
the appends (R20), the room made for them (R21), and the symmetry R19 notes. That INCIDENT-SPLIT is latched also
where the merge leaves the records as they were is the model's reading (notes/assumptions/14.md, DEDUCED). -/
def Obligations.MergeBringsPrimaryAndExtensions : Prop :=
  ∀ (v : View) (reg : IncidentRegister), ListLaw reg.records → reg.records ≠ [] →
    1 ≤ v.primary → v.primary ≤ 63 → v.extensions.length ≤ 2 → v.extensions.Nodup →
    (∀ z ∈ v.extensions, 1 ≤ z ∧ z ≤ 63 ∧ z ≠ v.primary) →
    let po := primaryOf reg.records
    let px := mergedPrimary po v.primary
    let e := mergedExtensions px.1 px.2 (extensionsOf reg.records) v.extensions
    px = mergedPrimary v.primary po ∧ px.1 = min po v.primary
    ∧ px.2 = (if po = v.primary then none else some (max po v.primary))
    ∧ e = mergedExtensions px.1 px.2 v.extensions (extensionsOf reg.records) ∧ e.length ≤ 2
    ∧ (let candidate (z : Nat) : Prop :=
        (z ∈ extensionsOf reg.records ∨ z ∈ v.extensions) ∧ z ≠ px.1 ∧ some z ≠ px.2
       ∃ slots : List Nat, e = px.2.toList ++ slots ∧ slots.Pairwise (· < ·) ∧ (∀ z ∈ slots, candidate z)
        ∧ ∀ z, candidate z → z ∉ slots → e.length = 2 ∧ ∀ y ∈ slots, y < z)
    ∧ primaryOf (mergeView v reg).records = px.1
    ∧ (∀ z, z ∈ extensionsOf (mergeView v reg).records ↔ z ∈ e)
    ∧ ListLaw (mergeView v reg).records
    ∧ (mergeView v reg).splitLatch = (reg.splitLatch || decide (po ≠ v.primary))
    ∧ (reg.fullLatch = true → (mergeView v reg).fullLatch = true)
    ∧ (mergeView v reg).owed = reg.owed ∧ (mergeView v reg).isoTimer = reg.isoTimer
    ∧ (agrees { primary := px.1, extensions := e } reg.records = true →
      (mergeView v reg).records = reg.records ∧ (mergeView v reg).fullLatch = reg.fullLatch)
    ∧ (agrees { primary := px.1, extensions := e } reg.records = false →
      ∃ (l : List Record) (full : Bool),
        MergeAppends px.1 e ((px.1, .primary) :: e.map (fun z => (z, .extension)))
          (reg.records.map (fun r => { r with
            standing := if r.zone = px.1 then .primary else if r.zone ∈ e then .extension else .secondary }),
            reg.fullLatch) (l, full)
        ∧ (let remaining := allZones.filter
              (fun z => decide ((z = v.primary ∨ z ∈ v.extensions) ∧ z ∉ l.map (·.zone)))
           (mergeView v reg).records = l ++ (remaining.map (fun z =>
              { zone := z, standing := .secondary, source := .learned, neighbours := [] })).take (16 - l.length)
           ∧ (mergeView v reg).fullLatch = (full || decide (16 < l.length + remaining.length))))

/-- R164, R172, R174 with the cold-reset tables R23, R42, R61, R88, R106, R118, R134, R135, R153, R162. -/
def Obligations.PowerUpAndColdResetStartTheNode : Prop :=
  ∀ (p : StrapPins) (s : State),
    ∃ t, exec (.powerUp p) s = .next t
      ∧ exec (.coldReset p) s = .next t
      ∧ t.ctl =
        { mode := if p.station = 0 then .lockout else .config, listenTimer := none, quietTimer := none, origin := none
          straps := some { station := p.station.toNat, missLimit := if p.miss = .one then 1 else 3, rate := p.rate }
          config := none }
      ∧ t.reg = { records := [], owed := false, isoTimer := none, fullLatch := false, splitLatch := false }
      ∧ t.role = { override := .auto, role := .normal, assist := false, fireMode := false }
      ∧ (∀ c : ChannelNo, (t.ch c).target = .off ∧ (t.ch c).seq = .stopped ∧ (t.ch c).output = false
        ∧ (t.ch c).inA = { level := false, raw := (s.ch c).inA.raw, run := 0 }
        ∧ (t.ch c).inB = { level := false, raw := (s.ch c).inB.raw, run := 0 })
      ∧ t.starts = { holdOff := none, claim := .absent }
      ∧ t.meas.scan = .stopped ∧ t.meas.supply = .normal
      ∧ (∀ q : PressureNo, t.pressure q =
        { satCount := 0, recovery := 0, fault := false, proven := false, provenCount := 0, unprovenCount := 0 })
      ∧ t.contain = { state := .notApplicable, grace := none }
      ∧ (∀ z : Station, t.peer z.toNat = { presence := .unknown, count := 0, spacing := none, silence := none, record := none })
      ∧ t.peers.listened = false
      ∧ t.panel.alarm = { level := false, raw := s.panel.alarm.raw, run := 0 } ∧ t.inReset = false
      ∧ t.panel.panelReset = { raw := s.panel.panelReset.raw, run := 0, taken := false }
      ∧ t.panel.ack = { raw := s.panel.ack.raw, run := 0, taken := false }
      ∧ t.status.earlyPending = false ∧ t.status.period = none ∧ t.status.captured = none
      ∧ t.link =
        { line := .awaitingIdle, run := 0, attempt := none, retryWait := false, failCount := 0, txFail := false
          queue := { clear := false, fireDeclare := false, claim := false, status := decide (p.station = 0) } }
      ∧ (p.station ≠ 0 → t.trouble = { active := [], record := none, fillings := 0, output := false })
      ∧ (p.station = 0 → t.trouble.active = [plainCond .configBad] ∧ t.trouble.output = false
        ∧ t.trouble.record.map (·.cond) = some (plainCond .configBad) ∧ t.trouble.record.any (·.fresh) = true)

/-- R153, R60, R87, R107, R162 at the moment RESET is taken as held, and R156 at the moment the hold reaches 5 s;
the whole next state. -/
def Obligations.ResetHeldHaltsAndFiveSecondsDeEnergize : Prop :=
  ∀ s : State,
    (s.inReset = false → exec .resetHeld s = .next
      { s with
        link :=
          { line := .awaitingIdle, run := 0, queue := .empty, attempt := none, retryWait := false, failCount := 0, txFail := false }
        starts := { s.starts with claim := .absent }
        status := { s.status with earlyPending := false, captured := none }
        trouble := { s.trouble with active := [] }
        meas := { s.meas with scan := .stopped }
        panel := { s.panel with reset := { raw := true, run := 0, held := true, hold := 20, fiveSecs := false } } })
    ∧ (s.inReset = true → exec .resetHold5s s = .next
      { s with
        chans := mapVec (fun x => { x with seq := .stopped, output := false }) s.chans
        role := { s.role with fireMode := false }
        trouble := { s.trouble with output := false }
        panel := { s.panel with reset := { s.panel.reset with hold := 5000, fiveSecs := true } } })

/-- The table of R173. -/
def Obligations.WarmResetSetsTheMode : Prop :=
  ∀ (s : State), ModeLaw s → s.inReset = true → s.panel.reset.fiveSecs = false →
    ∃ t, exec .warmReset s = .next t
      ∧ t.inReset = false
      ∧ t.ctl.config = s.ctl.config
      ∧ (s.ctl.mode ≠ .start → t.ctl.straps = s.ctl.straps)
      ∧ (s.ctl.mode = .start → t.ctl.mode = (if s.panel.straps.station = 0 then .lockout else .config)
        ∧ t.ctl.straps.map (·.station) = some s.panel.straps.station.toNat)
      ∧ (s.ctl.mode = .config → t.ctl.mode = .config)
      ∧ (s.ctl.mode = .listen → if s.panel.alarm.level then t.ctl.mode = .active ∧ t.ctl.listenTimer = none
        else t.ctl.mode = .listen ∧ t.ctl.listenTimer = some 5000)
      ∧ (s.ctl.mode = .active ∨ s.ctl.mode = .mute → t.ctl.mode = .active ∧ t.ctl.quietTimer = none
        ∧ t.ctl.origin = none)
      ∧ (s.ctl.mode = .lockout → t.ctl.mode = .lockout ∧ plainCond .configBad ∈ t.trouble.active)
      ∧ (∀ r, s.trouble.record = some r → r.acked = false → t.trouble.record = some r)

/-- R25, R26, R31, R43, R87, R107, R117, R133 at the resumption. -/
def Obligations.WarmResetKeepsAndZeroes : Prop :=
  ∀ (s : State), ModeLaw s → s.inReset = true → s.panel.reset.fiveSecs = false → RoleLaw s →
    s.ctl.mode.applies = true →
    ∃ t, exec .warmReset s = .next t
      ∧ t.reg.records = s.reg.records ∧ t.reg.fullLatch = s.reg.fullLatch ∧ t.reg.splitLatch = s.reg.splitLatch
      ∧ (s.reg.fullLatch = true → plainCond .registerFull ∈ t.trouble.active) ∧ (s.reg.splitLatch = true →
        plainCond .incidentSplit ∈ t.trouble.active)
      ∧ (s.reg.owed = true → holdsZone s.station s.reg.records = false → t.reg.isoTimer = some 3000)
      ∧ (s.reg.owed = true → holdsZone s.station s.reg.records = true → t.reg.isoTimer = none)
      ∧ (s.reg.owed = true → t.reg.owed = true ∧ t.link.queue.fireDeclare = true)
      ∧ (s.reg.owed = false → s.panel.alarm.level = true → holdsZone s.station s.reg.records = false →
        t.reg.owed = true ∧ t.reg.isoTimer = some 3000 ∧ t.link.queue.fireDeclare = true)
      ∧ t.role = s.role ∧ ∀ c : ChannelNo, (t.ch c).target = (s.ch c).target ∧ (t.ch c).inA = (s.ch c).inA
        ∧ (t.ch c).inB = (s.ch c).inB
      ∧ t.starts.holdOff = some (s.cfg.holdOff * 500) ∧ (s.starts.claim = .absent → t.starts.claim = .absent)
      ∧ (∀ p : PressureNo, t.pressure p =
        { satCount := 0, recovery := 0, fault := false, proven := false, provenCount := 0, unprovenCount := 0 })
      ∧ t.meas.supply = s.meas.supply ∧ t.meas.scan = scanFrom s 0
      ∧ (t.meas.supply = .fail → plainCond .fieldSupplyFail ∈ t.trouble.active) ∧ (t.meas.supply ≠ .normal →
        plainCond .fieldSupplyLow ∈ t.trouble.active)
      ∧ (t.contain.state = if s.role.role.extract then (if boundarySet s = [] then .unsupervised else .pending)
        else .notApplicable)
      ∧ t.contain.grace = (if t.contain.state = .pending
        ∧ t.ctl.mode = .active then some (s.cfg.grace * 1000) else none)
      ∧ (∀ z : Station, t.peer z.toNat =
        match (s.peer z.toNat).presence with
        | .unknown => .reset
        | .lost => { presence := .lost, count := 0, spacing := none, silence := none, record := (s.peer z.toNat).record }
        | _ => { presence := .seen, count := 0, spacing := none, silence := some s.silence, record := (s.peer z.toNat).record })
      ∧ t.status.period = some (s.station * 31)

/-- R60, R87: no damper, curtain or fan moves because of a warm reset in ACTIVE or in MUTE entered from ACTIVE (a
MUTE entered from LISTEN runs no sequencer). -/
def Obligations.WarmResetLeavesOutputsAsTheyAre : Prop :=
  ∀ (s : State), ModeLaw s → s.inReset = true → s.panel.reset.fiveSecs = false → RoleLaw s → ChannelsLaw s →
    s.sequencing = true →
    ∃ t, exec .warmReset s = .next t
      ∧ (∀ c : ChannelNo, (t.ch c).output = (s.ch c).output)
      ∧ (∀ c : ChannelNo, (s.chCfg c).kind.isDamper = true → (t.ch c).seq = deriveTravel s c)
      ∧ (∀ c : ChannelNo, (s.chCfg c).kind.isFan = true → (s.ch c).output = true →
        (t.ch c).seq = if provingLevel t c then .fan .running none none
          else .fan .starting (some ((s.chCfg c).time1 * 1000)) none)
      ∧ (∀ (c : ChannelNo) (p r : Option Nat), (s.ch c).seq = .fan .stopping p r → (s.chCfg c).time2 ≠ 0 →
        (t.ch c).seq = .fan .stopping none (some ((s.chCfg c).time2 * 1000)))
      ∧ (∀ c : ChannelNo, (s.chCfg c).kind.isFan = true → (s.ch c).output = false →
        (s.ch c).seq.fanState ≠ some .stopping → (s.ch c).target = .on →
        (t.ch c).seq = .fan (evaluateStopped t c) none none)

/-- R165 to R168 with the byte that gives each field, R169, R172. -/
def Obligations.ConfigReadEntersListenOrLockout : Prop :=
  ∀ (b : ConfigBytes) (s : State), ModeLaw s → s.inReset = false → s.ctl.mode = .config →
    ∃ t, exec (.configReadDone b) s = .next t
      ∧ t.ctl.straps = s.ctl.straps
      ∧ (blockGood b = true ↔ byteAt b 0 = 0x5A ∧ blockSum b = wordAt b 135)
      ∧ (blockGood b = true → t.ctl.config = some (decodeConfig s.station b)
        ∧ ConfigLaw s.station (decodeConfig s.station b)
        ∧ t.meas = { s.meas with scan := scanFrom t 0 } ∧ t.status.period = some (s.station * 31))
      ∧ (∀ k, t.ctl.config = some k →
        (let fields := (List.range (min 6 (byteAt b 1))).map (fun i => byteAt b (2 + i))
         (∀ z, z ∈ k.neighbours ↔ z ∈ fields ∧ z ≠ 0 ∧ z ≤ 63 ∧ z ≠ s.station) ∧ k.neighbours.Nodup
         ∧ k.neighbours.Pairwise (fun y z => fields.idxOf y < fields.idxOf z))
        ∧ (∀ c : ChannelNo,
          let x := k.channels[c.val]
          let o := 8 + 6 * c.val
          x.kind = (if byteAt b o = 1 then .damper else if byteAt b o = 2 then .curtain
            else if byteAt b o = 3 then .extractFan else if byteAt b o = 4 then .supplyFan else .unused)
          ∧ (x.kind ≠ .unused → x.troubleEnable = decide (128 ≤ byteAt b (o + 1)))
          ∧ (x.kind.isDamper = true → x.time1 = max 5 (min 120 (byteAt b (o + 4))))
          ∧ (x.kind.isFan = true →
            x.time1 = max 5 (min 60 (byteAt b (o + 4))) ∧ x.time2 = min 120 (byteAt b (o + 5))
            ∧ (∀ p : PressureNo, x.proving = some p ↔
              byteAt b (o + 1) % 8 = p.val + 1 ∧ (k.pressure[p.val]).role = .proving)
            ∧ (∀ d : ChannelNo, d ∈ x.interlocks ↔
              (byteAt b (o + 2) = d.val + 1 ∨ byteAt b (o + 3) = d.val + 1)
                ∧ (k.channels[d.val]).kind.isDamper = true))
          ∧ (x.kind ≠ .unused → ∀ j : Fin 6,
            let code := byteAt b (80 + (12 * c.val + 2 * j.val) / 8) / 2 ^ (6 - (12 * c.val + 2 * j.val) % 8) % 4
            ([x.row.normal, x.row.fire, x.row.extend, x.row.adjacent, x.row.remote, x.row.shutdown] : List Entry)[j.val]? =
              some (if code = 0 then .off else if code = 1 then .on
                else if code = 2 ∨ x.kind.isDamper = true then .hold else .assist)))
        ∧ (∀ p : PressureNo,
          let x := k.pressure[p.val]
          let o := 98 + 8 * p.val
          x.role = (if byteAt b o % 4 = 1 then .proving else if byteAt b o % 4 = 2 then .boundary else .unused)
          ∧ x.negative = decide (128 ≤ byteAt b o) ∧ x.gain = max 1 (byteAt b (o + 1) * 256 + byteAt b (o + 2))
          ∧ x.trim = max (-2047) (min 2047 (if byteAt b (o + 3) < 128
              then (byteAt b (o + 3) * 256 + byteAt b (o + 4) : Int)
              else (byteAt b (o + 3) * 256 + byteAt b (o + 4) : Int) - 65536))
          ∧ x.threshold = max 1 (min 5000 (byteAt b (o + 5) * 256 + byteAt b (o + 6)))
            ∧ x.hysteresis = byteAt b (o + 7))
        ∧ k.supplyGain = max 1 (byteAt b 130 * 256 + byteAt b 131) ∧ k.holdOff = max 1 (min 60 (byteAt b 132))
        ∧ k.grace = max 10 (min 300 (byteAt b 133 * 256 + byteAt b 134)))
      ∧ (blockGood b = true → s.panel.alarm.level = false →
        t.ctl.mode = .listen ∧ t.ctl.listenTimer = some 5000 ∧ ∀ c : ChannelNo, (t.ch c).target = newTarget t c)
      ∧ (blockGood b = true → s.panel.alarm.level = true → t.ctl.mode = .active ∧ t.ctl.listenTimer = none
        ∧ (s.reg.owed = false → holdsZone s.station s.reg.records = false →
            t.reg.owed = true ∧ t.reg.isoTimer = some 3000 ∧ t.link.queue.fireDeclare = true))
      ∧ (blockGood b = false → t.ctl.mode = .lockout ∧ t.ctl.config = none ∧ plainCond .configBad ∈ t.trouble.active
        ∧ (TroubleLaw s → t.trouble.output = false) ∧ t.meas = s.meas ∧ t.status.period = some (s.station * 31)
        ∧ t.chans = s.chans)
      ∧ t.peers.entries = s.peers.entries ∧ t.panel = s.panel ∧ t.reg.records = s.reg.records

/-- R169, R170, R48, R49, R64, R67, R131 at the end of LISTEN, and R171 at the end of MUTE. -/
def Obligations.ModeTimersEnterTheirModes : Prop :=
  (∀ (s : State), ModeLaw s → s.inReset = false → s.ctl.mode = .listen → s.ctl.listenTimer.isSome = true →
    ∃ t, exec .listenTimerExpiry s = .next t
      ∧ t.ctl = { s.ctl with mode := .active, listenTimer := none }
      ∧ t.reg = s.reg ∧ t.meas = s.meas ∧ t.panel = s.panel ∧ t.peers = { s.peers with listened := true }
        ∧ t.status.period = s.status.period
      ∧ t.role.override = s.role.override
      ∧ (∀ c : ChannelNo, (t.chCfg c).kind.isDamper = true →
        (t.ch c).seq = deriveTravel t c ∧ (t.ch c).output = decide ((t.ch c).target = .on))
      ∧ (∀ c : ChannelNo, (t.chCfg c).kind.isFan = true → (t.ch c).target = .off →
        (t.ch c).seq = .fan .stopped none none ∧ (t.ch c).output = false)
      ∧ (∀ c : ChannelNo, (t.chCfg c).kind.isFan = true → (t.ch c).target = .on → s.link.txFail = false →
        (t.ch c).seq = .fan (evaluateStopped t c) none none ∧ (t.ch c).output = false)
      ∧ (∀ z ∈ s.cfg.neighbours, z ≤ 63 → 1 ≤ z → (s.peer z).presence = .unknown → s.peers.listened = false →
        neighbourSilent z ∈ t.trouble.active)
      ∧ (t.contain.state = .pending → t.contain.grace ≠ none))
    ∧ (∀ (s : State), ModeLaw s → s.inReset = false → s.ctl.mode = .mute →
    ∃ t, exec .muteQuietTimerExpiry s = .next t
      ∧ plainCond .stationConflict ∉ t.trouble.active
      ∧ t.status.period = some (s.station * 31)
      ∧ (s.ctl.origin = some .active → t.ctl = { s.ctl with mode := .active, quietTimer := none, origin := none })
      ∧ (s.ctl.origin = some .listen → s.panel.alarm.level = false →
        t.ctl = { s.ctl with mode := .listen, listenTimer := some 5000, quietTimer := none, origin := none })
      ∧ (s.ctl.origin = some .listen → s.panel.alarm.level = true →
        t.ctl = { s.ctl with mode := .active, quietTimer := none, origin := none })
      ∧ (s.reg.owed = true → t.reg = s.reg ∧ t.link.queue.fireDeclare = true)
      ∧ t.reg.records = s.reg.records ∧ t.meas = s.meas ∧ t.peers.entries = s.peers.entries ∧ t.panel = s.panel
      ∧ t.link.failCount = s.link.failCount ∧ t.link.txFail = s.link.txFail
      ∧ (RoleLaw s → ChannelsLaw s → s.ctl.origin = some .active →
        ∀ c : ChannelNo, (s.chCfg c).kind.isDamper = true → t.ch c = s.ch c))

/-- The active set follows the states that raise it (ConditionLaw), and an owed declaration its queued frame
(DeclarationLaw). Where the set is empty in reset is R162, where a mask holds R158. -/
def Obligations.StepKeepsConditionsAndDeclaration : Prop :=
  ∀ s t : State, ModeLaw s → RegisterLaw s → RoleLaw s → ChannelsLaw s → LinkLaw s → MeasureLaw s → ContainLaw s →
    PeerLaw s → TroubleLaw s → step s = .next t → (ConditionLaw s → ConditionLaw t) ∧ (DeclarationLaw s →
      DeclarationLaw t)

/-- R140, R141 and R151; the whole next state. LINE_IDLE carries the levels of the line, ten recessive bits where
none are given, and they go on from the levels of the command before (notes/assumptions/35.md, DESIGN CHOICE).
THE MODEL'S CHOICE are four clauses: that levels change nothing with an own attempt on the wire
(notes/assumptions/35.md); that a receiver whose window they close, ACK and no ERROR in it or not, changes its
line alone, where R146 and R147 have it act on an accepted frame, which is left to that frame's command
(notes/assumptions/35.md and 17.md, DESIGN CHOICE); and that ATTEMPT_START on a line not judged idle and
RETRY_WAIT_END with no retry wait change nothing (both notes/assumptions/2.md, DEDUCED). -/
def Obligations.LineIdleAndRetryWaitEnd : Prop :=
  ∀ s : State, s.inReset = false →
    (s.ctl.straps.isSome = true → s.link.attempt = none → LineLaw s.lineWatch →
      (s.link.line = .awaitingIdle ∨ s.link.line = .closed ∨ s.link.line = .idle → ∀ n : Nat,
        exec (.lineIdle (List.replicate n true)) s =
          .next { s with link := { s.link with
            line := if 10 ≤ s.link.run + n then .idle else s.link.line
            run := min 30 (s.link.run + n)
            retryWait := s.link.retryWait && decide (s.link.run + n < 30) } }
        ∧ exec (.lineIdle (List.replicate n true ++ [false])) s =
          .next { s with link :=
            if 10 ≤ s.link.run + n then { s.link with line := .receiving .start, run := 0, retryWait := false }
            else { s.link with run := 0 } })
      ∧ (∀ i : Intake, s.link.line = .receiving i →
        (∀ (bits : List Bool) (last ack error : Bool) (d : Option Frame),
          i.receive bits = .taking → i.receive (bits ++ [last]) = .window d →
          exec (.lineIdle (bits ++ [last, ack, error])) s =
            .next { s with link := { s.link with line := .closed, run := 0 } })
        ∧ (∀ n : Nat, i.taken.length ≤ 37 → 10 ≤ i.recessive + n →
          exec (.lineIdle (List.replicate n true)) s =
            .next { s with link := { s.link with line := .idle, run := min 30 (i.recessive + n) } })))
    ∧ (∀ (t : State) (before levels : List Bool), exec (.lineIdle before) s = .next t →
      exec (.lineIdle (before ++ levels)) s = exec (.lineIdle levels) t)
    ∧ (s.ctl.straps = none ∨ s.link.attempt.isSome = true → ∀ levels : List Bool, exec (.lineIdle levels) s = .next s)
    ∧ (s.link.line ≠ .idle → exec .attemptStart s = .next s)
    ∧ (s.link.retryWait = true →
      exec (.retryWaitEnd false) s = .next { s with link := { s.link with retryWait := false, line := .idle, run := 30 } }
      ∧ exec (.retryWaitEnd true) s =
        .next { s with link := { s.link with retryWait := false, line := .receiving .start, run := 0 } })
    ∧ (s.link.retryWait = false → ∀ byStartBit : Bool, exec (.retryWaitEnd byStartBit) s = .next s)

/-- R149, R73, R122, R142 and the layouts of 8.3. -/
def Obligations.AttemptTakesTheLowestClass : Prop :=
  ∀ (k : FrameKind) (s : State), s.inReset = false → s.link.line = .idle → s.link.attempt = none →
    s.link.retryWait = false → s.ctl.mode.sends = true → s.link.queue.lowest = some k → (k = .claim →
    lowestWaiting s ≠ none) →
    ∃ t, exec .attemptStart s = .next t
      ∧ (k = .clear ↔ s.link.queue.clear = true)
      ∧ (k = .fireDeclare ↔ s.link.queue.clear = false ∧ s.link.queue.fireDeclare = true)
      ∧ (k = .claim ↔ s.link.queue.clear = false ∧ s.link.queue.fireDeclare = false ∧ s.link.queue.claim = true)
      ∧ (k = .clear → t = s.withLink { s.link with
        line := .sending, run := 0, attempt := some { kind := .clear, frame := ownFrame s 0 [1] } })
      ∧ (k = .fireDeclare → t = s.withLink { s.link with
        line := .sending, run := 0, attempt := some { kind := .fireDeclare, frame := ownFrame s 2 (declarePayload s.cfg.neighbours) } })
      ∧ (k = .status → t = (s.withLink { s.link with
          line := .sending, run := 0, attempt := some { kind := .status, frame := ownFrame s 5 (statusPayload (statusContent s)) } }).withStatus
        { s.status with
          captured :=
            some { fresh := s.trouble.record.any (·.fresh), filling := s.trouble.record.map (·.filling) } })
      ∧ (k = .claim → ∃ c carried, waitsForSlot s c = true ∧ (∀ d : ChannelNo, d < c → waitsForSlot s d = false)
        ∧ carried = (if (s.chCfg c).kind = .supplyFan then (s.cfg.holdOff + 1) / 2 else s.cfg.holdOff)
        ∧ t = (s.withLink
          { s.link with
            line := .sending, run := 0
            attempt :=
              some { kind := .claim
                     frame := ownFrame s (if s.role.role.extract then 3 else 4)
                       [BitVec.ofNat 16 ((c.val + 1) * 256 + carried)] } }).withStarts
          { s.starts with claim := .sending c s.role.role.extract carried })
      ∧ (∀ a, t.link.attempt = some a → a.kind = k ∧ a.frame.station = BitVec.ofNat 6 s.station)

/-- R74, R124, R143, R149, R152. The command brings the bit of own frame at which arbitration was lost; the bits
read before it are own bits (notes/assumptions/1.md). -/
def Obligations.LostArbitrationKeepsTheFrame : Prop :=
  ∀ (bit : Nat) (a : Attempt) (s : State), s.inReset = false → s.link.attempt = some a →
    ∃ t, exec (.arbitrationLost bit) s = .next t
      ∧ t.lessSequencing = ((s.withLink
        { s.link with attempt := none, line := (a.frame.heardUntil bit).line, run := (a.frame.heardUntil bit).run }).withStatus
        (if a.kind = .status then { s.status with earlyPending := false, captured := none } else s.status)).lessSequencing
      ∧ (receive (a.frame.wire.take bit ++ [false]) = .taking →
        t.link.line = .receiving ((a.frame.wire.take bit ++ [false]).foldl Intake.bit .begin) ∧ t.link.run = 0)
      ∧ t.link.queue.status = s.link.queue.status ∧ t.trouble = s.trouble ∧ t.freeTick = s.freeTick
      ∧ t.status = (if a.kind = .status then { s.status with earlyPending := false, captured := none } else s.status)
      ∧ (s.starts.claim.isSending = true → t.starts.claim.isSending = false)
      ∧ (s.starts.claim.isSending = true → lowestWaiting s ≠ none → s.meas.supply ≠ .fail → s.link.txFail = false →
        s.ctl.mode = .active → t.starts = { s.starts with claim := .queued } ∧ t.chans = s.chans
          ∧ t.link.queue = s.link.queue)
      ∧ (s.starts.claim.isSending = true → s.meas.supply = .fail → t.starts.claim = .absent
        ∧ t.link.queue.claim = false)

/-- R144, R171. The command brings the bit of own frame at which the stop came (notes/assumptions/1.md). -/
def Obligations.DuplicateKeyStopMutesTheNode : Prop :=
  ∀ (bit : Nat) (a : Attempt) (s : State), s.inReset = false → s.link.attempt = some a →
    ∃ t, exec (.duplicateKeyStop bit) s = .next t
      ∧ t.link.failCount = s.link.failCount ∧ t.link.txFail = s.link.txFail
        ∧ t.link.retryWait = s.link.retryWait ∧ t.link.line = (a.frame.heardUntil bit).line ∧ t.link.attempt = none
      ∧ (receive (a.frame.wire.take bit ++ [false]) = .taking →
        t.link.line = .receiving ((a.frame.wire.take bit ++ [false]).foldl Intake.bit .begin) ∧ t.link.run = 0)
      ∧ t.reg = s.reg ∧ t.peers = s.peers ∧ t.meas = s.meas ∧ t.panel = s.panel
      ∧ (s.ctl.mode = .listen ∨ s.ctl.mode = .active →
        t.ctl =
          { s.ctl with
            mode := .mute, listenTimer := none, quietTimer := some 20000
            origin := some (if s.ctl.mode = .listen then .listen else .active) }
        ∧ t.link.queue = .empty ∧ t.starts.claim = .absent
          ∧ t.status = { period := none, earlyPending := false, captured := none }
        ∧ plainCond .stationConflict ∈ t.trouble.active)
      ∧ (s.ctl.mode = .lockout → t.ctl = s.ctl ∧ t.link.queue.status = s.link.queue.status ∧ t.chans = s.chans)
      ∧ (RoleLaw s → s.ctl.mode = .active → s.starts.holdOff.isSome = true → t.chans = s.chans)

/-- R74, R146, R151, R152, R78. -/
def Obligations.FailedAttemptCounts : Prop :=
  ∀ (a : Attempt) (s : State), s.inReset = false → s.link.attempt = some a →
    ∃ t, exec .failedAttempt s = .next t
      ∧ t.link.attempt = none ∧ t.link.line = .closed ∧ t.link.run = 0 ∧ t.link.retryWait = true
      ∧ (s.link.failCount < 15 → t.link.failCount = s.link.failCount + 1 ∧ t.link.txFail = s.link.txFail)
      ∧ (15 ≤ s.link.failCount → t.link.failCount = 16 ∧ t.link.txFail = true ∧ plainCond .txFail ∈ t.trouble.active)
      ∧ t.link.queue.clear = s.link.queue.clear ∧ t.link.queue.fireDeclare = s.link.queue.fireDeclare
        ∧ (s.link.queue.status = true → t.link.queue.status = true)
      ∧ t.ctl = s.ctl ∧ t.reg = s.reg ∧ t.role = s.role ∧ t.meas = s.meas ∧ t.contain = s.contain
        ∧ t.peers = s.peers ∧ t.panel = s.panel
      ∧ (∀ c : ChannelNo, (t.ch c).target = (s.ch c).target)
      ∧ (s.starts.claim.isSending = true → t.starts.claim.isSending = false)
      ∧ (s.starts.claim.isSending = true → s.link.failCount < 15 → s.link.txFail = false → s.ctl.mode = .active →
        lowestWaiting s ≠ none → s.meas.supply ≠ .fail → t.starts = { s.starts with claim := .queued }
          ∧ t.link.queue = s.link.queue ∧ (LinkLaw s → t.link.queue.claim = true))
      ∧ (∀ c : ChannelNo, 15 ≤ s.link.failCount → s.ctl.mode = .active → lowestWaiting s = some c →
        s.starts.holdOff = none →
        s.meas.supply ≠ .fail →
        (t.ch c).output = true ∧ t.starts = { holdOff := some (s.cfg.holdOff * 500), claim := .absent })
      ∧ (s.link.failCount < 15 → s.link.txFail = false → s.ctl.mode ≠ .mute → t.chans = s.chans
        ∧ t.trouble = s.trouble)

/-- R14, steps 1 to 4, whatever station and reason the frame carries, own CLEAR included (R149, R152). -/
def Obligations.ClearEmptiesTheRegister : Prop :=
  ∀ (z : Station) (w : Word) (s : State), s.hears = true → s.ctl.mode.applies = true →
    ∃ t, exec (.clearAccepted z w) s = .next t
      ∧ t.reg.records = [] ∧ t.reg.fullLatch = false ∧ t.reg.splitLatch = false
      ∧ plainCond .registerFull ∉ t.trouble.active ∧ plainCond .incidentSplit ∉ t.trouble.active
      ∧ (s.reg.owed = true → t.reg.owed = true ∧ t.reg.isoTimer = some (s.reg.isoTimer.getD 3000))
      ∧ (s.reg.owed = false → s.panel.alarm.level = true → t.reg.owed = true ∧ t.reg.isoTimer = some 3000)
      ∧ (s.reg.owed = false → s.panel.alarm.level = true → s.ctl.mode ≠ .mute →
        z.toNat ≠ s.station ∨ isOwnFrame { cls := 0, station := z, words := [w] } s = true →
        t.link.queue.fireDeclare = true)
      ∧ (s.reg.owed = false → s.panel.alarm.level = false → t.reg.owed = false ∧ t.reg.isoTimer = none)
      ∧ t.role.override = s.role.override ∧ t.peers = s.peers ∧ t.meas = s.meas ∧ t.panel = s.panel
      ∧ (LinkLaw s → z.toNat ≠ s.station ∨ isOwnFrame { cls := 0, station := z, words := [w] } s = true →
        s.link.queue.fireDeclare = true → t.link.queue.fireDeclare = true)
      ∧ (∀ r, s.trouble.record = some r → r.acked = false → t.trouble.record = some r)
      ∧ (LinkLaw s → isOwnFrame { cls := 0, station := z, words := [w] } s = true →
        t.link.queue.clear = false ∧ t.link.attempt = none ∧ t.link.failCount = 0 ∧ t.link.txFail = false
        ∧ plainCond .txFail ∉ t.trouble.active)
      ∧ (RoleLaw s → s.role.override = .auto → t.role.role = .normal ∧ t.role.fireMode = false)

/-- R32 and R33, whatever station the key carries. -/
def Obligations.OverrideTable : Prop :=
  ∀ (z : Station) (w : Word) (s : State), s.hears = true → s.ctl.mode.applies = true →
    ∃ t, exec (.overrideAccepted z w) s = .next t
      ∧ (field w 7 2 ≠ s.station → field w 7 2 ≠ 0 → t.role.override = s.role.override)
      ∧ (field w 7 2 = s.station ∨ field w 7 2 = 0 →
        (field w 1 0 = 1 → t.role.override = .forceExtract) ∧ (field w 1 0 = 2 → t.role.override = .forceStop)
        ∧ (field w 1 0 = 0 ∨ field w 1 0 = 3 → t.role.override = .auto))
      ∧ (t.role.override ≠ s.role.override → t.role.role = deriveRole t ∧ t.role.assist = deriveAssist t.role.role t
        ∧ (∀ c : ChannelNo, (t.ch c).target = newTarget t c) ∧ t.role.fireMode = deriveFireMode t
        ∧ (t.role.override = .forceExtract → t.role.role = .forcedExtract ∧ t.role.fireMode = true)
        ∧ (t.role.override = .forceStop → t.role.role = .shutdown))
      ∧ (t.role.override ≠ s.role.override → z.toNat ≠ s.station → s.ctl.mode ≠ .mute →
        t.link.queue.status = true ∨ t.status.earlyPending = true)
      ∧ (t.role.override = s.role.override → z.toNat ≠ s.station → t.role = s.role
        ∧ t.link.queue.status = s.link.queue.status
        ∧ (s.onWire .status = false → t.status = s.status) ∧ ∀ c : ChannelNo, (t.ch c).target = (s.ch c).target)
      ∧ (z.toNat = s.station → t.ctl.mode = .mute ∧ t.ctl.quietTimer = some 20000
        ∧ (s.ctl.mode ≠ .mute → plainCond .stationConflict ∈ t.trouble.active))
      ∧ t.reg = s.reg ∧ t.peers = s.peers ∧ t.meas = s.meas ∧ t.panel = s.panel

/-- R6, R7, R11, R12: every form of the frame, own or another's. -/
def Obligations.DeclareCaseTable : Prop :=
  ∀ (z : Station) (ws : List Word) (s : State), s.hears = true → s.ctl.mode.applies = true → ListLaw s.reg.records →
    ∃ t, exec (.fireDeclareAccepted z ws) s = .next t
      ∧ (z = 0 ∨ readDeclare z.toNat ws = none → t.reg.records = s.reg.records ∧ t.reg.fullLatch = s.reg.fullLatch)
      ∧ (∀ ns, z ≠ 0 → readDeclare z.toNat ws = some ns →
        t.reg.records =
          (if holdsZone z.toNat s.reg.records then s.reg.records
           else if s.reg.records = [] then [{ zone := z.toNat, standing := .primary, source := .heard, neighbours := ns }]
           else if 16 ≤ s.reg.records.length then s.reg.records
           else s.reg.records ++ [{ zone := z.toNat, source := .heard, neighbours := ns
                                    standing := if (extensionsOf s.reg.records).length < 2
                                      ∧ (∃ x ∈ ns, x = primaryOf s.reg.records ∨ x ∈ extensionsOf s.reg.records)
                                      then .extension else .secondary }])
        ∧ t.reg.fullLatch = (s.reg.fullLatch || (!holdsZone z.toNat s.reg.records && decide (16 ≤ s.reg.records.length)))
        ∧ (t.reg.fullLatch = true → plainCond .registerFull ∈ t.trouble.active))
      ∧ t.reg.splitLatch = s.reg.splitLatch
      ∧ t.reg.owed = (s.reg.owed && !isOwnFrame { cls := 2, station := z, words := ws } s)
      ∧ t.reg.isoTimer = (if isOwnFrame { cls := 2, station := z, words := ws } s = true
          ∨ (holdsZone s.station s.reg.records = false ∧ holdsZone s.station t.reg.records = true) then none
        else s.reg.isoTimer)
      ∧ (t.reg.records ≠ s.reg.records → t.role.role = deriveRole t ∧ t.role.fireMode = deriveFireMode t)
      ∧ t.role.override = s.role.override ∧ t.peers = s.peers ∧ t.meas = s.meas ∧ t.panel = s.panel
      ∧ (isOwnFrame { cls := 2, station := z, words := ws } s = true → t.link.failCount = 0 ∧ t.link.txFail = false)

/-- R76. Under own station number the frame is conflict evidence as well; that the claim is applied before the entry
to MUTE makes its isolated-start test is the model's choice (notes/assumptions/13.md). So is what becomes of an
own attempt on the wire, a SENDING claim record included, which R76 says cannot be present: it ends as after
lost arbitration and the record is withdrawn (notes/assumptions/8.md, DEDUCED). -/
def Obligations.PeerClaimRaisesTheHoldOff : Prop :=
  ∀ (u : Bool) (z : Station) (w : Word) (s : State), LinkLaw s → s.hears = true →
    isOwnFrame { cls := if u then 3 else 4, station := z, words := [w] } s = false →
    ∃ t, exec (.startClaimAccepted u z w) s = .next t
      ∧ (s.ctl.mode.applies = false → t.starts.holdOff = s.starts.holdOff)
      ∧ (s.ctl.mode.applies = true →
        t.starts = { holdOff := some (max (s.starts.holdOff.getD 0) (max 1 (min 60 (field w 5 0)) * 500)), claim := .absent })
      ∧ (s.ctl.mode.applies = true → s.starts.claim ≠ .absent → t.link.queue.claim = false)
      ∧ (s.ctl.mode.applies = true → RoleLaw s → t.chans = s.chans)
      ∧ (z.toNat = s.station → s.ctl.mode.applies = true → t.ctl.mode = .mute ∧ t.ctl.quietTimer = some 20000)
      ∧ t.reg = s.reg ∧ t.peers = s.peers ∧ t.meas = s.meas ∧ t.panel = s.panel ∧ t.role.override = s.role.override
      ∧ (z.toNat ≠ s.station → s.ctl.mode.applies = true → t.ctl = s.ctl ∧ t.role = s.role ∧ t.chans = s.chans
        ∧ t.trouble = s.trouble ∧ t.contain = s.contain)
      ∧ t.link.failCount = s.link.failCount ∧ t.link.txFail = s.link.txFail ∧ t.link.attempt = none

/-- R77, R79, R152. -/
def Obligations.OwnClaimStartsTheCapturedFan : Prop :=
  ∀ (u v : Bool) (z : Station) (w : Word) (c : ChannelNo) (h : Nat) (s : State), s.hears = true →
    s.link.attempt = some { kind := .claim, frame := { cls := if u then 3 else 4, station := z, words := [w] } } →
    s.starts.claim = .sending c v h →
    ∃ t, exec (.startClaimAccepted u z w) s = .next t
      ∧ t.starts = { holdOff := some (max (s.starts.holdOff.getD 0) (max 1 (min 60 h) * 500)), claim := .absent }
      ∧ t.link =
        { s.link with
          line := .closed, run := 0, attempt := none, failCount := 0, txFail := false
          queue := { s.link.queue with claim := false } }
      ∧ (waitsForSlot s c = true → (s.ch c).target = .on → s.meas.supply ≠ .fail →
        t.ch c = { s.ch c with
          output := true
          seq := if provingLevel s c then .fan .running none none else .fan .starting (some ((s.chCfg c).time1 * 1000)) none })
      ∧ (waitsForSlot s c = false ∨ s.meas.supply = .fail ∨ (s.ch c).target = .off → t.chans = s.chans)
      ∧ (∀ d : ChannelNo, d ≠ c → t.ch d = s.ch d)
      ∧ t.trouble = (endCond (plainCond .txFail) s).trouble ∧ t.freeTick = s.freeTick
      ∧ (s.trouble.record.any (·.acked) = false →
        t.trouble = { s.trouble with active := s.trouble.active.filter (fun d => decide (d ≠ plainCond .txFail)) })
      ∧ plainCond .txFail ∉ t.trouble.active
      ∧ t.ctl = s.ctl ∧ t.reg = s.reg ∧ t.role = s.role ∧ t.meas = s.meas ∧ t.contain = s.contain
        ∧ t.peers = s.peers ∧ t.panel = s.panel ∧ t.status = s.status

/-- R127 to R130, R132: every row, with the normalisation of codes; R29 and R39: one recompute, from the state that
the entry and the view have left. -/
def Obligations.PeerStatusMovesItsEntry : Prop :=
  ∀ (z : Station) (w1 w2 w3 w4 : Word) (s : State), s.hears = true → s.ctl.mode.applies = true → z ≠ 0 →
    z.toNat ≠ s.station → isOwnFrame { cls := 5, station := z, words := [w1, w2, w3, w4] } s = false →
    ∃ t, exec (.statusAccepted z w1 w2 w3 w4) s = .next t
      ∧ (t.peer z.toNat).record = some
        { mode := if field w1 15 14 = 0 then .listen else if field w1 15 14 = 1 then .active else .lockout
          contain := if field w1 7 5 = 0 then .notApplicable else if field w1 7 5 = 1 then .unsupervised
            else if field w1 7 5 = 2 then .pending else if field w1 7 5 = 3 then .achieved else .notAchieved }
      ∧ (t.peer z.toNat).spacing = some 2500 ∧ (t.peer z.toNat).silence = some s.silence
      ∧ ((s.peer z.toNat).presence = .unknown ∨ (s.peer z.toNat).presence = .lost →
        (t.peer z.toNat).presence = .seen ∧ (t.peer z.toNat).count = 1)
      ∧ ((s.peer z.toNat).presence = .seen → (s.peer z.toNat).spacing = none →
        (t.peer z.toNat).presence = .seen ∧ (t.peer z.toNat).count = 1)
      ∧ ((s.peer z.toNat).presence = .seen → (s.peer z.toNat).spacing.isSome = true → (s.peer z.toNat).count < 3 →
        (t.peer z.toNat).presence = .seen ∧ (t.peer z.toNat).count = (s.peer z.toNat).count + 1)
      ∧ ((s.peer z.toNat).presence = .seen → (s.peer z.toNat).spacing.isSome = true → (s.peer z.toNat).count = 3 →
        (t.peer z.toNat).presence = .present ∧ (t.peer z.toNat).count = 4)
      ∧ ((s.peer z.toNat).presence = .present → (t.peer z.toNat).presence = .present ∧ (t.peer z.toNat).count = 4)
      ∧ (∀ y : Station, y ≠ z → t.peer y.toNat = s.peer y.toNat) ∧ t.peers.listened = s.peers.listened
      ∧ (z.toNat ∈ s.cfg.neighbours → neighbourSilent z.toNat ∉ t.trouble.active)
      ∧ (z.toNat ∈ s.cfg.neighbours ∨ t.reg.records ≠ s.reg.records → t.role.role = deriveRole t
        ∧ t.role.assist = deriveAssist t.role.role t
        ∧ t.role.fireMode = deriveFireMode t)
      ∧ (z.toNat ∈ s.cfg.neighbours ∨ t.reg.records ≠ s.reg.records → ∀ c : ChannelNo, (s.chCfg c).kind ≠ .unused →
        (t.ch c).target =
          resolveEntry ((s.chCfg c).row.column t.role.role) t.role.role t.role.assist (s.ch c).target)
      ∧ (z.toNat ∉ s.cfg.neighbours → t.reg.records = s.reg.records → t.role = s.role
        ∧ ∀ c : ChannelNo, (t.ch c).target = (s.ch c).target)
      ∧ t.ctl = s.ctl ∧ t.meas = s.meas ∧ t.panel = s.panel ∧ t.role.override = s.role.override

/-- R16, R17, R22, R11: every STATUS under a station 1..63. -/
def Obligations.StatusViewAtTheRegister : Prop :=
  ∀ (z : Station) (w1 w2 w3 w4 : Word) (s : State), s.hears = true → s.ctl.mode.applies = true → z ≠ 0 →
    ListLaw s.reg.records →
    ∃ t, exec (.statusAccepted z w1 w2 w3 w4) s = .next t
      ∧ (field w2 13 8 = 0 → t.reg = s.reg)
      ∧ (∀ v, readView w2 w3 = some v → v.primary = field w2 13 8
        ∧ (∀ e, e ∈ v.extensions ↔ (e = field w2 5 0 ∨ e = field w3 13 8) ∧ e ≠ 0 ∧ e ≠ v.primary)
          ∧ v.extensions.Nodup
        ∧ v.extensions = (if field w2 5 0 ≠ 0 ∧ field w2 5 0 ≠ v.primary then [field w2 5 0] else [])
          ++ (if field w3 13 8 ≠ 0 ∧ field w3 13 8 ≠ v.primary
            ∧ field w3 13 8 ≠ field w2 5 0 then [field w3 13 8] else []))
      ∧ (∀ v, readView w2 w3 = some v → s.reg.records = [] →
        t.reg.records = { zone := v.primary, standing := .primary, source := .learned, neighbours := [] } ::
          v.extensions.map (fun e => { zone := e, standing := .extension, source := .learned, neighbours := [] })
        ∧ t.reg.splitLatch = s.reg.splitLatch ∧ t.reg.fullLatch = s.reg.fullLatch)
      ∧ (∀ v, readView w2 w3 = some v → s.reg.records ≠ [] → agrees v s.reg.records = true → t.reg = s.reg)
      ∧ (∀ v, readView w2 w3 = some v → s.reg.records ≠ [] → agrees v s.reg.records = false →
        t.reg.records = (mergeView v s.reg).records ∧ t.reg.splitLatch = (mergeView v s.reg).splitLatch
        ∧ t.reg.fullLatch = (mergeView v s.reg).fullLatch)
      ∧ t.reg.owed = s.reg.owed
      ∧ t.reg.isoTimer = (if holdsZone s.station s.reg.records = false
        ∧ holdsZone s.station t.reg.records = true then none
        else s.reg.isoTimer)
      ∧ (t.reg.splitLatch = true → s.reg.splitLatch = false → plainCond .incidentSplit ∈ t.trouble.active)
      ∧ (t.reg.records ≠ s.reg.records → t.role.role = deriveRole t ∧ t.role.fireMode = deriveFireMode t)

/-- R124, R125, R119, R152. -/
def Obligations.OwnStatusAcceptedRestartsThePeriod : Prop :=
  ∀ (z : Station) (w1 w2 w3 w4 : Word) (s : State), s.hears = true →
    s.link.attempt = some { kind := .status, frame := { cls := 5, station := z, words := [w1, w2, w3, w4] } } →
    s.ctl.mode.sends = true →
    ∃ t, exec (.statusAccepted z w1 w2 w3 w4) s = .next t
      ∧ t.status = { period := some 2000, earlyPending := false, captured := none }
      ∧ (s.status.earlyPending = true → t.link.queue.status = true)
      ∧ (s.status.earlyPending = false → (viewFrame s.station (readView w2 w3) s.reg = s.reg ∨ z = 0
        ∨ s.ctl.mode = .lockout) → ConditionLaw s → t.link.queue.status = false)
      ∧ t.link.line = .closed ∧ t.link.run = 0 ∧ t.link.attempt = none ∧ t.link.failCount = 0
        ∧ t.link.txFail = false ∧ plainCond .txFail ∉ t.trouble.active
      ∧ (∀ r, s.trouble.record = some r → r.acked = false → t.trouble.record = some
        (if (∃ c, s.status.captured = some c ∧ c.fresh = true
          ∧ c.filling = some r.filling) then { r with fresh := false } else r))
      ∧ t.peers = s.peers ∧ t.ctl = s.ctl ∧ t.meas = s.meas ∧ t.panel = s.panel ∧ t.role.override = s.role.override

/-- R142, R136, R171: a frame handed to no block. -/
def Obligations.OtherFramesReachTheConflictDetector : Prop :=
  ∀ (k : FrameClass) (z : Station) (ws : List Word) (s : State), s.hears = true → s.link.attempt = none →
    ∃ t, exec (.otherFrameAccepted k z ws) s = .next t
      ∧ t.reg = s.reg ∧ t.peers = s.peers ∧ t.meas = s.meas ∧ t.panel = s.panel
        ∧ t.role.override = s.role.override ∧ t.link.failCount = s.link.failCount
        ∧ t.link.txFail = s.link.txFail ∧ t.link.line = .closed ∧ t.link.run = 0
      ∧ (z.toNat ≠ s.station ∨ s.ctl.mode.applies = false → t.ctl = s.ctl ∧ t.role = s.role ∧ t.trouble = s.trouble
        ∧ t.contain = s.contain ∧ t.status = s.status ∧ (LinkLaw s → s.sequencing = false →
          t = s.withLink { s.link with line := .closed, run := 0, retryWait := false })
        ∧ (startTests s = s → t = s.withLink { s.link with line := .closed, run := 0, retryWait := false }))
      ∧ (z.toNat = s.station → s.ctl.mode = .listen ∨ s.ctl.mode = .active →
        t.ctl =
          { s.ctl with
            mode := .mute, listenTimer := none, quietTimer := some 20000
            origin := some (if s.ctl.mode = .listen then .listen else .active) }
        ∧ t.link.queue = .empty ∧ t.starts.claim = .absent
          ∧ t.status = { period := none, earlyPending := false, captured := none }
        ∧ plainCond .stationConflict ∈ t.trouble.active)
      ∧ (z.toNat = s.station → s.ctl.mode = .mute → t.ctl = { s.ctl with quietTimer := some 20000 })

/-- R13, R11. -/
def Obligations.IsolatedExpiryClassifiesOwnZone : Prop :=
  ∀ (s : State), s.inReset = false → s.reg.isoTimer.isSome = true → ListLaw s.reg.records →
    ∃ t, exec .isolatedDeclarationTimerExpiry s = .next t
      ∧ t.reg.records =
        (if holdsZone s.station s.reg.records then s.reg.records
         else if s.reg.records = [] then
           [{ zone := s.station, standing := .primary, source := .isolated, neighbours := s.cfg.neighbours }]
         else if 16 ≤ s.reg.records.length then s.reg.records
         else s.reg.records ++ [{ zone := s.station, source := .isolated, neighbours := s.cfg.neighbours
                                  standing := if (extensionsOf s.reg.records).length < 2
                                    ∧ (∃ x ∈ s.cfg.neighbours, x = primaryOf s.reg.records
                                      ∨ x ∈ extensionsOf s.reg.records)
                                    then .extension else .secondary }])
      ∧ t.reg.isoTimer = none ∧ t.reg.owed = s.reg.owed ∧ t.reg.splitLatch = s.reg.splitLatch
      ∧ t.reg.fullLatch = (s.reg.fullLatch || (!holdsZone s.station s.reg.records && decide (16 ≤ s.reg.records.length)))
      ∧ (s.ctl.mode.applies = true → t.reg.records ≠ s.reg.records → t.role.role = deriveRole t
        ∧ t.role.fireMode = true)
      ∧ t.ctl = s.ctl ∧ t.peers = s.peers ∧ t.meas = s.meas ∧ t.panel = s.panel
        ∧ t.link.queue.fireDeclare = s.link.queue.fireDeclare ∧ t.link.attempt = s.link.attempt
        ∧ t.role.override = s.role.override

/-- R154, R9, R169, R121; in reset the level alone changes. -/
def Obligations.AlarmChangeReachesItsBlocks : Prop :=
  ∀ (a : Bool) (s : State), s.panel.alarm.level ≠ a →
    ∃ t, exec (.alarmChange a) s = .next t
      ∧ t.panel = { s.panel with alarm := { level := a, raw := a, run := 0 } }
      ∧ (s.inReset = true → t = s.withPanel { s.panel with alarm := { level := a, raw := a, run := 0 } })
      ∧ (s.inReset = false → a = false → t.reg = s.reg ∧ t.ctl = s.ctl ∧ t.chans = s.chans ∧ t.role = s.role
        ∧ t.starts = s.starts
        ∧ t.trouble = s.trouble ∧ t.contain = s.contain)
      ∧ (s.inReset = false → a = true → s.ctl.mode.applies = true → holdsZone s.station s.reg.records = false →
        s.reg.owed = false →
        t.reg = { s.reg with owed := true, isoTimer := some 3000 }
        ∧ t.link.queue.fireDeclare = (s.link.queue.fireDeclare || decide (s.ctl.mode ≠ .mute)))
      ∧ (s.inReset = false → s.ctl.mode.applies = false ∨ holdsZone s.station s.reg.records = true
        ∨ s.reg.owed = true →
        t.reg = s.reg ∧ t.link.queue.fireDeclare = s.link.queue.fireDeclare)
      ∧ (s.inReset = false → a = true → s.ctl.mode = .listen →
        t.ctl = { s.ctl with mode := .active, listenTimer := none }
        ∧ t.peers.listened = true)
      ∧ (s.inReset = false → s.ctl.mode ≠ .listen → t.ctl = s.ctl ∧ t.chans = s.chans)
      ∧ (s.inReset = false → s.ctl.mode.sends = true → t.link.queue.status = true ∨ t.status.earlyPending = true)
      ∧ t.meas = s.meas ∧ t.peers.entries = s.peers.entries ∧ t.role.override = s.role.override
        ∧ t.reg.records = s.reg.records

/-- R155, R148: PANEL-RESET pulses and the return of either line; the whole next state. That a pulse on a line whose
pulse has been taken changes nothing, in place of not coming, is the model's reading (notes/assumptions/2.md,
DEDUCED). -/
def Obligations.PulsesAndTheirReturn : Prop :=
  ∀ s : State,
    (s.panel.panelReset.taken = false → s.inReset = false →
      exec .panelResetPulse s = .next
        { s with
          panel := { s.panel with panelReset := { s.panel.panelReset with raw := true, taken := true } }
          link := { s.link with queue := { s.link.queue with
            clear := s.link.queue.clear || decide (s.ctl.mode = .listen ∨ s.ctl.mode = .active) } } })
    ∧ (s.panel.panelReset.taken = false → s.inReset = true →
      exec .panelResetPulse s = .next
        { s with panel := { s.panel with panelReset := { s.panel.panelReset with raw := true, taken := true } } })
    ∧ (s.panel.panelReset.taken = true → exec .panelResetPulse s = .next s)
    ∧ exec (.pulseLineReturnInactive .panelReset) s = .next
        { s with panel := { s.panel with panelReset := { raw := false, run := 0, taken := false } } }
    ∧ exec (.pulseLineReturnInactive .ack) s = .next
        { s with panel := { s.panel with ack := { raw := false, run := 0, taken := false } } }

/-- R155, R160, R161. That a pulse on a line whose pulse has been taken changes nothing, in place of not coming, is
the model's reading (notes/assumptions/2.md, DEDUCED). That the pulse says whether the events up to the next
millisecond fall together with it is the model's choice (notes/assumptions/38.md). -/
def Obligations.AckPulseRefillsTheRecord : Prop :=
  (∀ (b : Bool) (s : State), s.panel.ack.taken = false → s.inReset = false →
    ∃ t, exec (.ackPulse b) s = .next t
      ∧ t.panel = { s.panel with ack := { s.panel.ack with raw := true, taken := true } }
      ∧ (s.trouble.record = none →
        t = s.withPanel { s.panel with ack := { s.panel.ack with raw := true, taken := true } })
      ∧ (s.trouble.record.isSome = true → s.trouble.active = [] → t.trouble.record = none
        ∧ (s.ctl.mode ≠ .start → s.ctl.mode ≠ .config → s.panel.reset.fiveSecs = false → t.trouble.output = true))
      ∧ (∀ (c : Cond) (cs : List Cond), s.trouble.record.isSome = true → s.trouble.active = c :: cs →
        t.trouble.record = some { cond := c, fresh := true, filling := s.trouble.fillings + 1, acked := b }
          ∧ t.trouble.output = false
        ∧ (TroubleLaw s → ∀ d ∈ cs, c.code.number < d.code.number ∨ (c.code = d.code ∧ c.qualifier < d.qualifier)))
      ∧ t.trouble.active = s.trouble.active
      ∧ (b = true → s.trouble.record.isSome = true → ∀ c ∈ s.trouble.active,
        (endCond c t).trouble.active = s.trouble.active.filter (fun d => decide (d ≠ c))
        ∧ (endCond c t).trouble.record.map (·.cond) = (s.trouble.active.filter (fun d => decide (d ≠ c))).head?
        ∧ (endCond c t).trouble.output = troubleLevel (endCond c t)
        ∧ (∀ u, exec (.ackPulse b) (endCond c s) = .next u →
          u.trouble.record.map (·.cond) = (endCond c t).trouble.record.map (·.cond)
            ∧ u.trouble.output = (endCond c t).trouble.output))
      ∧ (s.trouble.record.isSome = true → s.ctl.mode.sends = true → t.link.queue.status = true
        ∨ t.status.earlyPending = true)
      ∧ t.lessReports = (s.withPanel t.panel).lessReports)
    ∧ (∀ (b : Bool) (s : State), s.panel.ack.taken = false → s.inReset = true →
      exec (.ackPulse b) s =
        .next { s with panel := { s.panel with ack := { s.panel.ack with raw := true, taken := true } } })
    ∧ (∀ (b : Bool) (s : State), s.panel.ack.taken = true → exec (.ackPulse b) s = .next s)

/-- R119, R120; the whole next state. That an expiry while a STATUS is on the wire sets the early-pending mark is
the model's reading (notes/assumptions/25.md, DEDUCED). -/
def Obligations.PeriodExpiryQueuesStatus : Prop :=
  ∀ s : State, s.inReset = false → s.status.period.isSome = true →
    (s.onWire .status = false → exec .statusPeriodTimerExpiry s = .next
      { s with status := { s.status with period := none }
               link := { s.link with queue := { s.link.queue with status := true } } })
    ∧ (s.onWire .status = true → exec .statusPeriodTimerExpiry s = .next
      { s with status := { s.status with period := none, earlyPending := true } })

/-- R128, R129, R130, R132. -/
def Obligations.PeerTimersExpire : Prop :=
  ∀ (z : Station) (s : State), s.inReset = false → (s.peer z.toNat).silence.isSome = true →
    ∃ t, exec (.silenceTimerExpiry z) s = .next t
      ∧ exec (.spacingTimerExpiry z) s = .next (s.setPeer z.toNat { s.peer z.toNat with spacing := none })
      ∧ t.peer z.toNat = { presence := .lost, count := 0, spacing := none, silence := none, record := (s.peer z.toNat).record }
      ∧ (∀ y : Station, y ≠ z → t.peer y.toNat = s.peer y.toNat) ∧ t.peers.listened = s.peers.listened
      ∧ (z.toNat ∈ s.cfg.neighbours → neighbourSilent z.toNat ∈ t.trouble.active)
      ∧ (z.toNat ∈ s.cfg.neighbours → s.ctl.mode.applies = true →
        t.role.role = deriveRole t ∧ t.role.assist = deriveAssist t.role.role t
        ∧ (t.role.role = .adjacent → z.toNat ∈ extractZones s.reg.records → t.role.assist = true))
      ∧ (z.toNat ∉ s.cfg.neighbours → t = s.setPeer z.toNat (t.peer z.toNat))
      ∧ t.lessRoles = (s.withPeers t.peers).lessRoles

/-- R71, R72, R78. -/
def Obligations.HoldOffExpiryClaimsOrStarts : Prop :=
  ∀ (s : State), s.inReset = false → s.starts.holdOff.isSome = true →
    ∃ t, exec .holdOffExpiry s = .next t
      ∧ (s.ctl.mode = .active → s.link.txFail = false → s.starts.claim = .absent → lowestWaiting s ≠ none →
        s.meas.supply ≠ .fail →
        t = { s with starts := { holdOff := none, claim := .queued }
                     link := { s.link with queue := { s.link.queue with claim := true } } })
      ∧ (∀ c : ChannelNo, s.sequencing = true → s.ctl.mode = .mute ∨ s.link.txFail = true → lowestWaiting s = some c →
        s.meas.supply ≠ .fail → s.starts.claim = .absent →
        t.starts = { holdOff := some (s.cfg.holdOff * 500), claim := .absent } ∧ (t.ch c).output = true
        ∧ (t.ch c).seq = (if provingLevel s c then .fan .running none none
            else .fan .starting (some ((s.chCfg c).time1 * 1000)) none)
        ∧ ∀ d : ChannelNo, d ≠ c → t.ch d = s.ch d)
      ∧ (s.starts.claim = .absent → lowestWaiting s = none ∨ s.meas.supply = .fail ∨ (s.sequencing = false
        ∧ s.ctl.mode ≠ .active) →
        t = s.withStarts { s.starts with holdOff := none })
      ∧ t.lessSequencing = s.lessSequencing

/-- R71: the law of the device for start spacing, over every command. -/
def Obligations.NoFanIsEnergizedDuringHoldOff : Prop :=
  ∀ (i : Instr) (s t : State), ModeLaw s → LinkLaw s → ChannelsLaw s → RoleLaw s →
    s.starts.holdOff.isSome = true → i ≠ .holdOffExpiry → exec i s = .next t →
    ∀ c : ChannelNo, (t.chCfg c).kind.isFan = true → (s.ch c).output = false → (t.ch c).output = false

/-- R79, R83, R84, R67, R85. R84 says that the timer is frozen under FAIL; that a PROVING_TIMER_EXPIRY then leaves
the state as it is, in place of not coming, is the model's reading (notes/assumptions/2.md, DEDUCED). -/
def Obligations.FanTimersExpire : Prop :=
  ∀ (c : ChannelNo) (r : Nat) (d : Option Nat) (s : State), s.inReset = false →
    (s.ch c).seq = .fan .starting (some r) d →
    ∃ t, exec (.provingTimerExpiry c) s = .next t
      ∧ (s.meas.supply = .fail → t = s)
      ∧ (s.meas.supply ≠ .fail → s.role.role.incident = true →
        (t.ch c) = { s.ch c with seq := .fan .proveFail none none, output := true })
      ∧ (s.meas.supply ≠ .fail → s.role.role.incident = false →
        (t.ch c) = { s.ch c with seq := .fan (.failedOff .prove) none none, output := false })
      ∧ (s.meas.supply ≠ .fail → (s.chCfg c).troubleEnable = true → chanCond .fanProveFail c ∈ t.trouble.active)
      ∧ (s.meas.supply ≠ .fail → (s.chCfg c).troubleEnable = false → t.trouble = s.trouble)
      ∧ (∀ e : ChannelNo, e ≠ c → t.ch e = s.ch e)
      ∧ t.starts = s.starts ∧ t.lessReports = (s.withChans t.chans).lessReports

/-- R83, R67. -/
def Obligations.RunDownExpiryReturnsToStopped : Prop :=
  ∀ (c : ChannelNo) (r : Nat) (p : Option Nat) (s : State), s.inReset = false →
    (s.ch c).seq = .fan .stopping p (some r) →
    ∃ t, exec (.runDownTimerExpiry c) s = .next t
      ∧ ((s.ch c).target = .off → (t.ch c) = { s.ch c with seq := .fan .stopped none none, output := false })
      ∧ ((s.ch c).target = .on → interlockFaulted s c = true →
        (t.ch c) = { s.ch c with seq := .fan .blocked none none, output := false }
        ∧ ((s.chCfg c).troubleEnable = true → chanCond .fanBlocked c ∈ t.trouble.active))
      ∧ ((s.ch c).target = .on → interlockFaulted s c = false → interlocksAtTarget s c = false →
        (t.ch c) = { s.ch c with seq := .fan .awaitingInterlock none none, output := false })
      ∧ ((s.ch c).target = .on → interlockFaulted s c = false → interlocksAtTarget s c = true →
        s.starts.holdOff.isSome = true ∨ s.meas.supply = .fail ∨ (s.ctl.mode = .active ∧ s.link.txFail = false) →
        (t.ch c) = { s.ch c with seq := .fan .awaitingSlot none none, output := false })
      ∧ ((s.ch c).target = .on → interlockFaulted s c = false → interlocksAtTarget s c = true →
        s.starts.holdOff = none →
        s.meas.supply ≠ .fail → s.ctl.mode = .active → s.link.txFail = false → s.starts.claim = .absent →
        t.starts.claim = .queued ∧ t.link.queue.claim = true)
      ∧ t.lessSequencing = s.lessSequencing
      ∧ (s.link.txFail = false → s.ctl.mode ≠ .mute → ∀ e : ChannelNo, e ≠ c → t.ch e = s.ch e)

/-- R63, R79 to R82 for a switch-proved fan, every state; in reset the level alone. -/
def Obligations.ProvingSwitchMovesTheFan : Prop :=
  ∀ (c : ChannelNo) (m : Bool) (st : FanState) (p r : Option Nat) (s : State), (s.ch c).inA.level ≠ m →
    (s.ch c).seq = .fan st p r →
    ∃ t, exec (.provingSwitchChange c m) s = .next t
      ∧ (t.ch c).inA = { level := m, raw := m, run := 0 } ∧ (t.ch c).inB = (s.ch c).inB
        ∧ (t.ch c).target = (s.ch c).target
      ∧ (s.inReset = true ∨ (s.chCfg c).proving ≠ none →
        t = s.setCh c { s.ch c with inA := { level := m, raw := m, run := 0 } })
      ∧ (s.inReset = false → (s.chCfg c).proving = none → m = true → st = .starting ∨ st = .proveFail
        ∨ st = .runLost →
        (t.ch c).seq = .fan .running none none ∧ (t.ch c).output = true
        ∧ (st = .proveFail → chanCond .fanProveFail c ∉ t.trouble.active)
        ∧ (st = .runLost → chanCond .fanRunLost c ∉ t.trouble.active))
      ∧ (s.inReset = false → (s.chCfg c).proving = none → m = false → st = .running → s.role.role.incident = true →
        (t.ch c).seq = .fan .runLost none none ∧ (t.ch c).output = true
        ∧ ((s.chCfg c).troubleEnable = true → chanCond .fanRunLost c ∈ t.trouble.active))
      ∧ (s.inReset = false → (s.chCfg c).proving = none → m = false → st = .running → s.role.role.incident = false →
        (t.ch c).seq = .fan (.failedOff .run) none none ∧ (t.ch c).output = false
        ∧ ((s.chCfg c).troubleEnable = true → chanCond .fanRunLost c ∈ t.trouble.active))
      ∧ ((m = true ∧ st ≠ .starting ∧ st ≠ .proveFail ∧ st ≠ .runLost) ∨ (m = false ∧ st ≠ .running) →
        t = s.setCh c { s.ch c with inA := { level := m, raw := m, run := 0 } })
      ∧ (∀ e : ChannelNo, e ≠ c → t.ch e = s.ch e)
      ∧ t.starts = s.starts ∧ t.lessReports = (s.withChans t.chans).lessReports

/-- R51 to R54, R56 for every state and limit; R60 in reset. -/
def Obligations.DamperLimitTables : Prop :=
  ∀ (c : ChannelNo) (i : Input) (m : Bool) (st : TravelState) (tr : Option Nat) (u : State) (s : State),
    ((s.ch c).input i).level ≠ m → (s.ch c).seq = .damper st tr → u = storeInput c i m s →
    ∃ t, exec (.limitChange c i m) s = .next t
      ∧ (t.ch c).inA = (u.ch c).inA ∧ (t.ch c).inB = (u.ch c).inB ∧ (t.ch c).target = (s.ch c).target
        ∧ ((u.ch c).input i).level = m
      ∧ (s.inReset = true → t = u)
      ∧ (ChannelsLaw s → (t.ch c).output = decide ((s.ch c).target = .on))
      ∧ (s.inReset = false → (u.ch c).openLimit = true → (u.ch c).closedLimit = true →
        (t.ch c).seq = .damper .limitConflict none
        ∧ ((s.chCfg c).troubleEnable = true → st ≠ .limitConflict → chanCond .limitConflict c ∈ t.trouble.active)
        ∧ (st = .jammed → chanCond .damperJammed c ∉ t.trouble.active))
      ∧ (s.inReset = false → (u.ch c).ownLimit = true → (u.ch c).otherLimit = false →
        st = .opening ∨ st = .closing ∨ st = .jammed ∨ st = .limitConflict →
        (t.ch c).seq = .damper (if (s.ch c).target = .on then .atOpen else .atClosed) none
        ∧ (st = .jammed → chanCond .damperJammed c ∉ t.trouble.active)
        ∧ (st = .limitConflict → chanCond .limitConflict c ∉ t.trouble.active))
      ∧ (s.inReset = false → (u.ch c).ownLimit = false → st = .atOpen ∨ st = .atClosed ∨ st = .limitConflict →
        (t.ch c).seq = .damper (if (s.ch c).target = .on then .opening else .closing) (some ((s.chCfg c).time1 * 2000)))
      ∧ (s.inReset = false → (u.ch c).ownLimit = false → st = .opening ∨ st = .closing ∨ st = .jammed →
        (t.ch c).seq = (s.ch c).seq)
      ∧ (∀ e : ChannelNo, e ≠ c → (s.chCfg c).kind.isDamper = true → ¬ c ∈ (s.chCfg e).interlocks →
        (s.ch e).seq.fanState = none → t.ch e = s.ch e)
      ∧ t.lessSequencing = u.lessSequencing

/-- R56 to R59, R69. R57 says that a frozen timer cannot expire; that a TRAVEL_TIMER_EXPIRY of one changes neither
the channel nor the Trouble Unit, in place of not coming, is the model's reading (notes/assumptions/2.md,
DEDUCED). -/
def Obligations.TravelExpiryJams : Prop :=
  ∀ (c : ChannelNo) (st : TravelState) (r : Nat) (s : State), s.inReset = false →
    (s.ch c).seq = .damper st (some r) → st = .opening ∨ st = .closing →
    ∃ t, exec (.travelTimerExpiry c) s = .next t
      ∧ (travelRate (s.chCfg c).kind st s.meas.supply = 0 ↔ s.meas.supply = .fail
        ∧ ¬((s.chCfg c).kind = .curtain ∧ st = .closing))
      ∧ (travelRate (s.chCfg c).kind st s.meas.supply ≠ 0 →
        t.ch c = { s.ch c with seq := .damper .jammed none, output := decide ((s.ch c).target = .on) })
      ∧ (travelRate (s.chCfg c).kind st s.meas.supply ≠ 0 → (s.chCfg c).troubleEnable = true →
        chanCond .damperJammed c ∈ t.trouble.active)
      ∧ (∀ e : ChannelNo, travelRate (s.chCfg c).kind st s.meas.supply ≠ 0 → c ∈ (s.chCfg e).interlocks →
        (s.ch e).seq = .fan .awaitingInterlock none none ∨ (s.ch e).seq = .fan .awaitingSlot none none →
        t.ch e = { s.ch e with seq := .fan .blocked none none, output := false })
      ∧ (travelRate (s.chCfg c).kind st s.meas.supply = 0 → t.ch c = s.ch c ∧ t.trouble = s.trouble)
      ∧ t.lessSequencing = s.lessSequencing

/-- R114, R115, R116. -/
def Obligations.GraceExpiryLosesContainment : Prop :=
  ∀ (r : Nat) (s : State), s.inReset = false → s.contain = { state := .pending, grace := some r } →
    ∃ t, exec .graceTimerExpiry s = .next t
      ∧ t.contain = { state := .notAchieved, grace := none }
      ∧ plainCond .containmentNotAchieved ∈ t.trouble.active
      ∧ (s.ctl.mode.sends = true → t.link.queue.status = true ∨ t.status.earlyPending = true)
      ∧ (s.trouble.record.isSome = true → t.trouble.record = s.trouble.record)
      ∧ (TroubleLaw s → s.trouble.record = none →
        t.trouble.record.map (·.cond) = some (plainCond .containmentNotAchieved) ∧ t.trouble.output = false)
      ∧ t.lessReports = (s.withContain t.contain).lessReports

/-- R89, R90, R94 to R96, R101: both conversions of a pair. -/
def Obligations.PairMovesItsChannel : Prop :=
  (∀ (p : PressureNo) (a b : Code) (s : State), s.inReset = false → s.meas.scan = .convB p a →
    ∃ t, exec (.pairComplete b) s = .next t
      ∧ t.meas.scan = scanFrom s (p.val + 1) ∧ t.meas.supply = s.meas.supply
      ∧ (∀ q : PressureNo, q ≠ p → t.pressure q = s.pressure q)
      ∧ (saturatedPair a b = true ↔ a.toInt = -524288 ∨ a.toInt = 524287 ∨ b.toInt = -524288 ∨ b.toInt = 524287)
      ∧ (saturatedPair a b = true → (s.pressure p).fault = true → t.pressure p = { s.pressure p with recovery := 0 })
      ∧ (saturatedPair a b = true → (s.pressure p).fault = false → (s.pressure p).satCount < 3 →
        t.pressure p = { s.pressure p with satCount := (s.pressure p).satCount + 1, provenCount := 0, unprovenCount := 0 })
      ∧ (saturatedPair a b = true → (s.pressure p).fault = false → (s.pressure p).satCount = 3 →
        t.pressure p = { satCount := 4, recovery := 0, fault := true, proven := false, provenCount := 0, unprovenCount := 0 }
        ∧ sensorFault p ∈ t.trouble.active)
      ∧ (saturatedPair a b = false → (s.pressure p).fault = true → (s.pressure p).recovery < 3 →
        t.pressure p = { s.pressure p with recovery := (s.pressure p).recovery + 1 })
      ∧ (saturatedPair a b = false → (s.pressure p).fault = true → (s.pressure p).recovery = 3 →
        t.pressure p = { s.pressure p with fault := false, satCount := 0, recovery := 0 }
          ∧ sensorFault p ∉ t.trouble.active)
      ∧ (saturatedPair a b = false → (s.pressure p).fault = false →
        t.pressure p = applyBand (bandOf (s.prCfg p) (pressureOf (s.prCfg p) a b)) { s.pressure p with satCount := 0 })
      ∧ ((t.pressure p).proven = (s.pressure p).proven → t.chans = s.chans ∧ t.contain = s.contain)
      ∧ (∀ c : ChannelNo, (t.pressure p).proven ≠ (s.pressure p).proven → (s.prCfg p).role = .proving →
        (s.chCfg c).proving = some p →
        t.ch c = (provingEvent (t.pressure p).proven c s).ch c)
      ∧ (∀ c : ChannelNo, (s.chCfg c).proving ≠ some p → t.ch c = s.ch c)
      ∧ ((s.prCfg p).role ≠ .proving → t.chans = s.chans)
      ∧ ((s.prCfg p).role ≠ .boundary → t.contain = s.contain)
      ∧ ((t.pressure p).proven ≠ (s.pressure p).proven → (s.prCfg p).role = .boundary →
        t.contain = (match s.contain.state with
          | .pending => if boundaryTest t then { state := .achieved, grace := none } else s.contain
          | .achieved => if boundaryTest t then s.contain else { state := .notAchieved, grace := none }
          | .notAchieved => if boundaryTest t then { state := .achieved, grace := none } else s.contain
          | _ => s.contain))
      ∧ ((t.pressure p).proven = (s.pressure p).proven → (t.pressure p).fault = (s.pressure p).fault →
        t = s.withMeas t.meas)
      ∧ t.link = { s.link with queue := { s.link.queue with status := t.link.queue.status } }
      ∧ t.role = s.role ∧ t.starts = s.starts ∧ t.lessRoles = (s.withMeas t.meas).lessRoles)
    ∧ (∀ (p : PressureNo) (a : Code) (s : State), s.inReset = false → s.meas.scan = .convA p →
      exec (.conversionADone a) s = .next (s.withMeas { s.meas with scan := .convB p a }))

/-- R102 to R105, R84 with R72 and R78. -/
def Obligations.SupplySampleMovesTheSupply : Prop :=
  ∀ (k : Code) (v : Nat) (s : State), s.inReset = false → s.meas.scan = .supply →
    v = min 400 ((max 0 k.toInt).toNat * s.cfg.supplyGain / 65536) →
    ∃ t, exec (.supplySample k) s = .next t
      ∧ (v < 160 → t.meas.supply = .fail)
      ∧ (160 ≤ v → v < 170 → t.meas.supply = if s.meas.supply = .fail then .fail else .low)
      ∧ (170 ≤ v → v < 204 → t.meas.supply = .low)
      ∧ (204 ≤ v → v < 210 → t.meas.supply = if s.meas.supply = .normal then .normal else .low)
      ∧ (210 ≤ v → t.meas.supply = .normal)
      ∧ t.meas.scan = scanFrom s 0 ∧ t.meas.channels = s.meas.channels
      ∧ (t.meas.supply ≠ s.meas.supply →
        (plainCond .fieldSupplyFail ∈ t.trouble.active ↔ t.meas.supply = .fail)
        ∧ (plainCond .fieldSupplyLow ∈ t.trouble.active ↔ t.meas.supply ≠ .normal))
      ∧ (TroubleLaw s → t.meas.supply = .fail → s.meas.supply ≠ .fail → s.trouble.record = none →
        t.trouble.record.map (·.cond) = some (plainCond .fieldSupplyFail))
      ∧ (t.meas.supply = s.meas.supply → t = s.withMeas { s.meas with scan := scanFrom s 0 })
      ∧ (t.meas.supply = .fail → s.meas.supply ≠ .fail → t.starts.claim ≠ .queued ∧ t.chans = s.chans)
      ∧ (s.meas.supply = .fail → t.meas.supply ≠ .fail → s.ctl.mode = .active → s.link.txFail = false →
        s.starts = { holdOff := none, claim := .absent } →
        lowestWaiting s ≠ none → t.starts.claim = .queued ∧ t.link.queue.claim = true)
      ∧ (∀ c : ChannelNo, s.meas.supply = .fail → t.meas.supply ≠ .fail → s.sequencing = true →
        s.ctl.mode = .mute ∨ s.link.txFail = true → s.starts.holdOff = none → s.starts.claim.isSending = false →
        lowestWaiting s = some c →
        t.ch c = { s.ch c with
          output := true
          seq := if provingLevel s c then .fan .running none none else .fan .starting (some ((s.chCfg c).time1 * 1000)) none }
        ∧ (∀ d : ChannelNo, d ≠ c → t.ch d = s.ch d)
        ∧ t.starts = { holdOff := some (s.cfg.holdOff * 500), claim := .absent })
      ∧ t.lessSequencing = (s.withMeas t.meas).lessSequencing

/-- In reset no event of line, mode, timer or converter acts (R60, R87, R107, R117, R133, R153); a stopped timer
does not expire (00, Conventions): that such a command leaves the state as it is, in place of not coming, is the
model's reading (notes/assumptions/2.md, DEDUCED). THE MODEL'S READING too are the clauses on the inputs: that a
level already held is no change (notes/assumptions/2.md, DEDUCED), and that LIMIT_CHANGE of input A and
PROVING_SWITCH_CHANGE are one event on every channel, so that a PROVING_SWITCH_CHANGE of a damper or curtain is
a limit event and a LIMIT_CHANGE of a fan's input A a change of its proving switch, with what a fan's unread
input does (notes/assumptions/21.md, DEDUCED). A level that no running sequencer reads changes alone (R45, R63,
R64). -/
def Obligations.ResetAndStoppedTimersHoldEverything : Prop :=
  ∀ s : State,
    (s.inReset = true → ∀ i : Instr,
      i ∈ [.resetHeld, .listenTimerExpiry, .muteQuietTimerExpiry, .lineIdle, .attemptStart,
        .failedAttempt, .isolatedDeclarationTimerExpiry, .statusPeriodTimerExpiry, .holdOffExpiry,
        .graceTimerExpiry]
      ∨ (∃ l, i = .lineIdle l) ∨ (∃ n, i = .arbitrationLost n) ∨ (∃ n, i = .duplicateKeyStop n)
        ∨ (∃ b, i = .configReadDone b) ∨ (∃ b, i = .retryWaitEnd b) ∨ (∃ z w, i = .clearAccepted z w)
      ∨ (∃ z w, i = .overrideAccepted z w) ∨ (∃ z w, i = .fireDeclareAccepted z w)
        ∨ (∃ u z w, i = .startClaimAccepted u z w)
      ∨ (∃ z a b c d, i = .statusAccepted z a b c d) ∨ (∃ k z w, i = .otherFrameAccepted k z w)
      ∨ (∃ z, i = .spacingTimerExpiry z) ∨ (∃ z, i = .silenceTimerExpiry z) ∨ (∃ c, i = .provingTimerExpiry c)
      ∨ (∃ c, i = .runDownTimerExpiry c) ∨ (∃ c, i = .travelTimerExpiry c) ∨ (∃ k, i = .conversionADone k)
      ∨ (∃ k, i = .pairComplete k) ∨ (∃ k, i = .supplySample k) →
      exec i s = .next s)
    ∧ (s.ctl.listenTimer = none → exec .listenTimerExpiry s = .next s)
    ∧ (s.ctl.quietTimer = none → exec .muteQuietTimerExpiry s = .next s)
    ∧ (s.reg.isoTimer = none → exec .isolatedDeclarationTimerExpiry s = .next s)
    ∧ (s.status.period = none → exec .statusPeriodTimerExpiry s = .next s)
    ∧ (s.starts.holdOff = none → exec .holdOffExpiry s = .next s)
    ∧ (s.contain.grace = none → exec .graceTimerExpiry s = .next s)
    ∧ (∀ z : Station, (s.peer z.toNat).silence = none → exec (.silenceTimerExpiry z) s = .next s)
    ∧ (∀ (c : ChannelNo) (m : Bool),
      exec (.limitChange c .a m) s = exec (.provingSwitchChange c m) s
      ∧ ((s.ch c).inA.level = m → exec (.provingSwitchChange c m) s = .next s)
      ∧ ((s.ch c).inB.level = m → exec (.limitChange c .b m) s = .next s)
      ∧ ((s.ch c).inA.level ≠ m → (s.ch c).seq = .stopped ∨ s.inReset = true
          ∨ ((s.ch c).seq.fanState.isSome = true ∧ (s.chCfg c).proving ≠ none) →
        exec (.provingSwitchChange c m) s =
          .next (s.setCh c { s.ch c with inA := { level := m, raw := m, run := 0 } }))
      ∧ ((s.ch c).inB.level ≠ m → (s.ch c).seq = .stopped ∨ s.inReset = true ∨ (s.ch c).seq.fanState.isSome = true →
        exec (.limitChange c .b m) s =
          .next (s.setCh c { s.ch c with inB := { level := m, raw := m, run := 0 } })))
end

