-- ==== Sys2Proof/Laws/State.lean ====
section
/-! SUPPORT. The small lemmas of State and its updates: one per field per update, and reads after writes of a channel, a
pressure channel and a peer. -/

namespace Sys2Proof.Machine

variable (s : State)

@[simp] theorem State.withCtl_ctl (x : ModeCtl) : (s.withCtl x).ctl = x := rfl
@[simp] theorem State.withCtl_link (x : ModeCtl) : (s.withCtl x).link = s.link := rfl
@[simp] theorem State.withCtl_reg (x : ModeCtl) : (s.withCtl x).reg = s.reg := rfl
@[simp] theorem State.withCtl_role (x : ModeCtl) : (s.withCtl x).role = s.role := rfl
@[simp] theorem State.withCtl_chans (x : ModeCtl) : (s.withCtl x).chans = s.chans := rfl
@[simp] theorem State.withCtl_starts (x : ModeCtl) : (s.withCtl x).starts = s.starts := rfl
@[simp] theorem State.withCtl_meas (x : ModeCtl) : (s.withCtl x).meas = s.meas := rfl
@[simp] theorem State.withCtl_contain (x : ModeCtl) : (s.withCtl x).contain = s.contain := rfl
@[simp] theorem State.withCtl_peers (x : ModeCtl) : (s.withCtl x).peers = s.peers := rfl
@[simp] theorem State.withCtl_status (x : ModeCtl) : (s.withCtl x).status = s.status := rfl
@[simp] theorem State.withCtl_trouble (x : ModeCtl) : (s.withCtl x).trouble = s.trouble := rfl
@[simp] theorem State.withCtl_panel (x : ModeCtl) : (s.withCtl x).panel = s.panel := rfl
@[simp] theorem State.withCtl_freeTick (x : ModeCtl) : (s.withCtl x).freeTick = s.freeTick := rfl
@[simp] theorem State.withCtl_pending (x : ModeCtl) : (s.withCtl x).pending = s.pending := rfl
@[simp] theorem State.withLink_ctl (x : Link) : (s.withLink x).ctl = s.ctl := rfl
@[simp] theorem State.withLink_link (x : Link) : (s.withLink x).link = x := rfl
@[simp] theorem State.withLink_reg (x : Link) : (s.withLink x).reg = s.reg := rfl
@[simp] theorem State.withLink_role (x : Link) : (s.withLink x).role = s.role := rfl
@[simp] theorem State.withLink_chans (x : Link) : (s.withLink x).chans = s.chans := rfl
@[simp] theorem State.withLink_starts (x : Link) : (s.withLink x).starts = s.starts := rfl
@[simp] theorem State.withLink_meas (x : Link) : (s.withLink x).meas = s.meas := rfl
@[simp] theorem State.withLink_contain (x : Link) : (s.withLink x).contain = s.contain := rfl
@[simp] theorem State.withLink_peers (x : Link) : (s.withLink x).peers = s.peers := rfl
@[simp] theorem State.withLink_status (x : Link) : (s.withLink x).status = s.status := rfl
@[simp] theorem State.withLink_trouble (x : Link) : (s.withLink x).trouble = s.trouble := rfl
@[simp] theorem State.withLink_panel (x : Link) : (s.withLink x).panel = s.panel := rfl
@[simp] theorem State.withLink_freeTick (x : Link) : (s.withLink x).freeTick = s.freeTick := rfl
@[simp] theorem State.withLink_pending (x : Link) : (s.withLink x).pending = s.pending := rfl
@[simp] theorem State.withReg_ctl (x : IncidentRegister) : (s.withReg x).ctl = s.ctl := rfl
@[simp] theorem State.withReg_link (x : IncidentRegister) : (s.withReg x).link = s.link := rfl
@[simp] theorem State.withReg_reg (x : IncidentRegister) : (s.withReg x).reg = x := rfl
@[simp] theorem State.withReg_role (x : IncidentRegister) : (s.withReg x).role = s.role := rfl
@[simp] theorem State.withReg_chans (x : IncidentRegister) : (s.withReg x).chans = s.chans := rfl
@[simp] theorem State.withReg_starts (x : IncidentRegister) : (s.withReg x).starts = s.starts := rfl
@[simp] theorem State.withReg_meas (x : IncidentRegister) : (s.withReg x).meas = s.meas := rfl
@[simp] theorem State.withReg_contain (x : IncidentRegister) : (s.withReg x).contain = s.contain := rfl
@[simp] theorem State.withReg_peers (x : IncidentRegister) : (s.withReg x).peers = s.peers := rfl
@[simp] theorem State.withReg_status (x : IncidentRegister) : (s.withReg x).status = s.status := rfl
@[simp] theorem State.withReg_trouble (x : IncidentRegister) : (s.withReg x).trouble = s.trouble := rfl
@[simp] theorem State.withReg_panel (x : IncidentRegister) : (s.withReg x).panel = s.panel := rfl
@[simp] theorem State.withReg_freeTick (x : IncidentRegister) : (s.withReg x).freeTick = s.freeTick := rfl
@[simp] theorem State.withReg_pending (x : IncidentRegister) : (s.withReg x).pending = s.pending := rfl
@[simp] theorem State.withRole_ctl (x : Resolver) : (s.withRole x).ctl = s.ctl := rfl
@[simp] theorem State.withRole_link (x : Resolver) : (s.withRole x).link = s.link := rfl
@[simp] theorem State.withRole_reg (x : Resolver) : (s.withRole x).reg = s.reg := rfl
@[simp] theorem State.withRole_role (x : Resolver) : (s.withRole x).role = x := rfl
@[simp] theorem State.withRole_chans (x : Resolver) : (s.withRole x).chans = s.chans := rfl
@[simp] theorem State.withRole_starts (x : Resolver) : (s.withRole x).starts = s.starts := rfl
@[simp] theorem State.withRole_meas (x : Resolver) : (s.withRole x).meas = s.meas := rfl
@[simp] theorem State.withRole_contain (x : Resolver) : (s.withRole x).contain = s.contain := rfl
@[simp] theorem State.withRole_peers (x : Resolver) : (s.withRole x).peers = s.peers := rfl
@[simp] theorem State.withRole_status (x : Resolver) : (s.withRole x).status = s.status := rfl
@[simp] theorem State.withRole_trouble (x : Resolver) : (s.withRole x).trouble = s.trouble := rfl
@[simp] theorem State.withRole_panel (x : Resolver) : (s.withRole x).panel = s.panel := rfl
@[simp] theorem State.withRole_freeTick (x : Resolver) : (s.withRole x).freeTick = s.freeTick := rfl
@[simp] theorem State.withRole_pending (x : Resolver) : (s.withRole x).pending = s.pending := rfl
@[simp] theorem State.withChans_ctl (x : Vector Channel 12) : (s.withChans x).ctl = s.ctl := rfl
@[simp] theorem State.withChans_link (x : Vector Channel 12) : (s.withChans x).link = s.link := rfl
@[simp] theorem State.withChans_reg (x : Vector Channel 12) : (s.withChans x).reg = s.reg := rfl
@[simp] theorem State.withChans_role (x : Vector Channel 12) : (s.withChans x).role = s.role := rfl
@[simp] theorem State.withChans_chans (x : Vector Channel 12) : (s.withChans x).chans = x := rfl
@[simp] theorem State.withChans_starts (x : Vector Channel 12) : (s.withChans x).starts = s.starts := rfl
@[simp] theorem State.withChans_meas (x : Vector Channel 12) : (s.withChans x).meas = s.meas := rfl
@[simp] theorem State.withChans_contain (x : Vector Channel 12) : (s.withChans x).contain = s.contain := rfl
@[simp] theorem State.withChans_peers (x : Vector Channel 12) : (s.withChans x).peers = s.peers := rfl
@[simp] theorem State.withChans_status (x : Vector Channel 12) : (s.withChans x).status = s.status := rfl
@[simp] theorem State.withChans_trouble (x : Vector Channel 12) : (s.withChans x).trouble = s.trouble := rfl
@[simp] theorem State.withChans_panel (x : Vector Channel 12) : (s.withChans x).panel = s.panel := rfl
@[simp] theorem State.withChans_freeTick (x : Vector Channel 12) : (s.withChans x).freeTick = s.freeTick := rfl
@[simp] theorem State.withChans_pending (x : Vector Channel 12) : (s.withChans x).pending = s.pending := rfl
@[simp] theorem State.withStarts_ctl (x : StartLogic) : (s.withStarts x).ctl = s.ctl := rfl
@[simp] theorem State.withStarts_link (x : StartLogic) : (s.withStarts x).link = s.link := rfl
@[simp] theorem State.withStarts_reg (x : StartLogic) : (s.withStarts x).reg = s.reg := rfl
@[simp] theorem State.withStarts_role (x : StartLogic) : (s.withStarts x).role = s.role := rfl
@[simp] theorem State.withStarts_chans (x : StartLogic) : (s.withStarts x).chans = s.chans := rfl
@[simp] theorem State.withStarts_starts (x : StartLogic) : (s.withStarts x).starts = x := rfl
@[simp] theorem State.withStarts_meas (x : StartLogic) : (s.withStarts x).meas = s.meas := rfl
@[simp] theorem State.withStarts_contain (x : StartLogic) : (s.withStarts x).contain = s.contain := rfl
@[simp] theorem State.withStarts_peers (x : StartLogic) : (s.withStarts x).peers = s.peers := rfl
@[simp] theorem State.withStarts_status (x : StartLogic) : (s.withStarts x).status = s.status := rfl
@[simp] theorem State.withStarts_trouble (x : StartLogic) : (s.withStarts x).trouble = s.trouble := rfl
@[simp] theorem State.withStarts_panel (x : StartLogic) : (s.withStarts x).panel = s.panel := rfl
@[simp] theorem State.withStarts_freeTick (x : StartLogic) : (s.withStarts x).freeTick = s.freeTick := rfl
@[simp] theorem State.withStarts_pending (x : StartLogic) : (s.withStarts x).pending = s.pending := rfl
@[simp] theorem State.withMeas_ctl (x : Measurement) : (s.withMeas x).ctl = s.ctl := rfl
@[simp] theorem State.withMeas_link (x : Measurement) : (s.withMeas x).link = s.link := rfl
@[simp] theorem State.withMeas_reg (x : Measurement) : (s.withMeas x).reg = s.reg := rfl
@[simp] theorem State.withMeas_role (x : Measurement) : (s.withMeas x).role = s.role := rfl
@[simp] theorem State.withMeas_chans (x : Measurement) : (s.withMeas x).chans = s.chans := rfl
@[simp] theorem State.withMeas_starts (x : Measurement) : (s.withMeas x).starts = s.starts := rfl
@[simp] theorem State.withMeas_meas (x : Measurement) : (s.withMeas x).meas = x := rfl
@[simp] theorem State.withMeas_contain (x : Measurement) : (s.withMeas x).contain = s.contain := rfl
@[simp] theorem State.withMeas_peers (x : Measurement) : (s.withMeas x).peers = s.peers := rfl
@[simp] theorem State.withMeas_status (x : Measurement) : (s.withMeas x).status = s.status := rfl
@[simp] theorem State.withMeas_trouble (x : Measurement) : (s.withMeas x).trouble = s.trouble := rfl
@[simp] theorem State.withMeas_panel (x : Measurement) : (s.withMeas x).panel = s.panel := rfl
@[simp] theorem State.withMeas_freeTick (x : Measurement) : (s.withMeas x).freeTick = s.freeTick := rfl
@[simp] theorem State.withMeas_pending (x : Measurement) : (s.withMeas x).pending = s.pending := rfl
@[simp] theorem State.withContain_ctl (x : Containment) : (s.withContain x).ctl = s.ctl := rfl
@[simp] theorem State.withContain_link (x : Containment) : (s.withContain x).link = s.link := rfl
@[simp] theorem State.withContain_reg (x : Containment) : (s.withContain x).reg = s.reg := rfl
@[simp] theorem State.withContain_role (x : Containment) : (s.withContain x).role = s.role := rfl
@[simp] theorem State.withContain_chans (x : Containment) : (s.withContain x).chans = s.chans := rfl
@[simp] theorem State.withContain_starts (x : Containment) : (s.withContain x).starts = s.starts := rfl
@[simp] theorem State.withContain_meas (x : Containment) : (s.withContain x).meas = s.meas := rfl
@[simp] theorem State.withContain_contain (x : Containment) : (s.withContain x).contain = x := rfl
@[simp] theorem State.withContain_peers (x : Containment) : (s.withContain x).peers = s.peers := rfl
@[simp] theorem State.withContain_status (x : Containment) : (s.withContain x).status = s.status := rfl
@[simp] theorem State.withContain_trouble (x : Containment) : (s.withContain x).trouble = s.trouble := rfl
@[simp] theorem State.withContain_panel (x : Containment) : (s.withContain x).panel = s.panel := rfl
@[simp] theorem State.withContain_freeTick (x : Containment) : (s.withContain x).freeTick = s.freeTick := rfl
@[simp] theorem State.withContain_pending (x : Containment) : (s.withContain x).pending = s.pending := rfl
@[simp] theorem State.withPeers_ctl (x : PeerTable) : (s.withPeers x).ctl = s.ctl := rfl
@[simp] theorem State.withPeers_link (x : PeerTable) : (s.withPeers x).link = s.link := rfl
@[simp] theorem State.withPeers_reg (x : PeerTable) : (s.withPeers x).reg = s.reg := rfl
@[simp] theorem State.withPeers_role (x : PeerTable) : (s.withPeers x).role = s.role := rfl
@[simp] theorem State.withPeers_chans (x : PeerTable) : (s.withPeers x).chans = s.chans := rfl
@[simp] theorem State.withPeers_starts (x : PeerTable) : (s.withPeers x).starts = s.starts := rfl
@[simp] theorem State.withPeers_meas (x : PeerTable) : (s.withPeers x).meas = s.meas := rfl
@[simp] theorem State.withPeers_contain (x : PeerTable) : (s.withPeers x).contain = s.contain := rfl
@[simp] theorem State.withPeers_peers (x : PeerTable) : (s.withPeers x).peers = x := rfl
@[simp] theorem State.withPeers_status (x : PeerTable) : (s.withPeers x).status = s.status := rfl
@[simp] theorem State.withPeers_trouble (x : PeerTable) : (s.withPeers x).trouble = s.trouble := rfl
@[simp] theorem State.withPeers_panel (x : PeerTable) : (s.withPeers x).panel = s.panel := rfl
@[simp] theorem State.withPeers_freeTick (x : PeerTable) : (s.withPeers x).freeTick = s.freeTick := rfl
@[simp] theorem State.withPeers_pending (x : PeerTable) : (s.withPeers x).pending = s.pending := rfl
@[simp] theorem State.withStatus_ctl (x : Composer) : (s.withStatus x).ctl = s.ctl := rfl
@[simp] theorem State.withStatus_link (x : Composer) : (s.withStatus x).link = s.link := rfl
@[simp] theorem State.withStatus_reg (x : Composer) : (s.withStatus x).reg = s.reg := rfl
@[simp] theorem State.withStatus_role (x : Composer) : (s.withStatus x).role = s.role := rfl
@[simp] theorem State.withStatus_chans (x : Composer) : (s.withStatus x).chans = s.chans := rfl
@[simp] theorem State.withStatus_starts (x : Composer) : (s.withStatus x).starts = s.starts := rfl
@[simp] theorem State.withStatus_meas (x : Composer) : (s.withStatus x).meas = s.meas := rfl
@[simp] theorem State.withStatus_contain (x : Composer) : (s.withStatus x).contain = s.contain := rfl
@[simp] theorem State.withStatus_peers (x : Composer) : (s.withStatus x).peers = s.peers := rfl
@[simp] theorem State.withStatus_status (x : Composer) : (s.withStatus x).status = x := rfl
@[simp] theorem State.withStatus_trouble (x : Composer) : (s.withStatus x).trouble = s.trouble := rfl
@[simp] theorem State.withStatus_panel (x : Composer) : (s.withStatus x).panel = s.panel := rfl
@[simp] theorem State.withStatus_freeTick (x : Composer) : (s.withStatus x).freeTick = s.freeTick := rfl
@[simp] theorem State.withStatus_pending (x : Composer) : (s.withStatus x).pending = s.pending := rfl
@[simp] theorem State.withTrouble_ctl (x : Trouble) : (s.withTrouble x).ctl = s.ctl := rfl
@[simp] theorem State.withTrouble_link (x : Trouble) : (s.withTrouble x).link = s.link := rfl
@[simp] theorem State.withTrouble_reg (x : Trouble) : (s.withTrouble x).reg = s.reg := rfl
@[simp] theorem State.withTrouble_role (x : Trouble) : (s.withTrouble x).role = s.role := rfl
@[simp] theorem State.withTrouble_chans (x : Trouble) : (s.withTrouble x).chans = s.chans := rfl
@[simp] theorem State.withTrouble_starts (x : Trouble) : (s.withTrouble x).starts = s.starts := rfl
@[simp] theorem State.withTrouble_meas (x : Trouble) : (s.withTrouble x).meas = s.meas := rfl
@[simp] theorem State.withTrouble_contain (x : Trouble) : (s.withTrouble x).contain = s.contain := rfl
@[simp] theorem State.withTrouble_peers (x : Trouble) : (s.withTrouble x).peers = s.peers := rfl
@[simp] theorem State.withTrouble_status (x : Trouble) : (s.withTrouble x).status = s.status := rfl
@[simp] theorem State.withTrouble_trouble (x : Trouble) : (s.withTrouble x).trouble = x := rfl
@[simp] theorem State.withTrouble_panel (x : Trouble) : (s.withTrouble x).panel = s.panel := rfl
@[simp] theorem State.withTrouble_freeTick (x : Trouble) : (s.withTrouble x).freeTick = s.freeTick := rfl
@[simp] theorem State.withTrouble_pending (x : Trouble) : (s.withTrouble x).pending = s.pending := rfl
@[simp] theorem State.withPanel_ctl (x : Panel) : (s.withPanel x).ctl = s.ctl := rfl
@[simp] theorem State.withPanel_link (x : Panel) : (s.withPanel x).link = s.link := rfl
@[simp] theorem State.withPanel_reg (x : Panel) : (s.withPanel x).reg = s.reg := rfl
@[simp] theorem State.withPanel_role (x : Panel) : (s.withPanel x).role = s.role := rfl
@[simp] theorem State.withPanel_chans (x : Panel) : (s.withPanel x).chans = s.chans := rfl
@[simp] theorem State.withPanel_starts (x : Panel) : (s.withPanel x).starts = s.starts := rfl
@[simp] theorem State.withPanel_meas (x : Panel) : (s.withPanel x).meas = s.meas := rfl
@[simp] theorem State.withPanel_contain (x : Panel) : (s.withPanel x).contain = s.contain := rfl
@[simp] theorem State.withPanel_peers (x : Panel) : (s.withPanel x).peers = s.peers := rfl
@[simp] theorem State.withPanel_status (x : Panel) : (s.withPanel x).status = s.status := rfl
@[simp] theorem State.withPanel_trouble (x : Panel) : (s.withPanel x).trouble = s.trouble := rfl
@[simp] theorem State.withPanel_panel (x : Panel) : (s.withPanel x).panel = x := rfl
@[simp] theorem State.withPanel_freeTick (x : Panel) : (s.withPanel x).freeTick = s.freeTick := rfl
@[simp] theorem State.withPanel_pending (x : Panel) : (s.withPanel x).pending = s.pending := rfl
@[simp] theorem State.withFreeTick_ctl (x : Nat) : (s.withFreeTick x).ctl = s.ctl := rfl
@[simp] theorem State.withFreeTick_link (x : Nat) : (s.withFreeTick x).link = s.link := rfl
@[simp] theorem State.withFreeTick_reg (x : Nat) : (s.withFreeTick x).reg = s.reg := rfl
@[simp] theorem State.withFreeTick_role (x : Nat) : (s.withFreeTick x).role = s.role := rfl
@[simp] theorem State.withFreeTick_chans (x : Nat) : (s.withFreeTick x).chans = s.chans := rfl
@[simp] theorem State.withFreeTick_starts (x : Nat) : (s.withFreeTick x).starts = s.starts := rfl
@[simp] theorem State.withFreeTick_meas (x : Nat) : (s.withFreeTick x).meas = s.meas := rfl
@[simp] theorem State.withFreeTick_contain (x : Nat) : (s.withFreeTick x).contain = s.contain := rfl
@[simp] theorem State.withFreeTick_peers (x : Nat) : (s.withFreeTick x).peers = s.peers := rfl
@[simp] theorem State.withFreeTick_status (x : Nat) : (s.withFreeTick x).status = s.status := rfl
@[simp] theorem State.withFreeTick_trouble (x : Nat) : (s.withFreeTick x).trouble = s.trouble := rfl
@[simp] theorem State.withFreeTick_panel (x : Nat) : (s.withFreeTick x).panel = s.panel := rfl
@[simp] theorem State.withFreeTick_freeTick (x : Nat) : (s.withFreeTick x).freeTick = x := rfl
@[simp] theorem State.withFreeTick_pending (x : Nat) : (s.withFreeTick x).pending = s.pending := rfl
@[simp] theorem State.withPending_ctl (x : List Instr) : (s.withPending x).ctl = s.ctl := rfl
@[simp] theorem State.withPending_link (x : List Instr) : (s.withPending x).link = s.link := rfl
@[simp] theorem State.withPending_reg (x : List Instr) : (s.withPending x).reg = s.reg := rfl
@[simp] theorem State.withPending_role (x : List Instr) : (s.withPending x).role = s.role := rfl
@[simp] theorem State.withPending_chans (x : List Instr) : (s.withPending x).chans = s.chans := rfl
@[simp] theorem State.withPending_starts (x : List Instr) : (s.withPending x).starts = s.starts := rfl
@[simp] theorem State.withPending_meas (x : List Instr) : (s.withPending x).meas = s.meas := rfl
@[simp] theorem State.withPending_contain (x : List Instr) : (s.withPending x).contain = s.contain := rfl
@[simp] theorem State.withPending_peers (x : List Instr) : (s.withPending x).peers = s.peers := rfl
@[simp] theorem State.withPending_status (x : List Instr) : (s.withPending x).status = s.status := rfl
@[simp] theorem State.withPending_trouble (x : List Instr) : (s.withPending x).trouble = s.trouble := rfl
@[simp] theorem State.withPending_panel (x : List Instr) : (s.withPending x).panel = s.panel := rfl
@[simp] theorem State.withPending_freeTick (x : List Instr) : (s.withPending x).freeTick = s.freeTick := rfl
@[simp] theorem State.withPending_pending (x : List Instr) : (s.withPending x).pending = x := rfl

/-! ### Reads of one element -/

@[simp] theorem State.ch_setCh (c d : ChannelNo) (x : Channel) :
    (s.setCh c x).ch d = if c = d then x else s.ch d := by
  simp only [State.ch, State.setCh, State.withChans_chans, Vector.getElem_set, Fin.ext_iff]

@[simp] theorem State.pressure_setPressure (p q : PressureNo) (x : PressureState) :
    (s.setPressure p x).pressure q = if p = q then x else s.pressure q := by
  simp only [State.pressure, State.setPressure, State.withMeas_meas, Vector.getElem_set, Fin.ext_iff]

theorem State.peer_setPeer (y z : Nat) (x : Peer) :
    (s.setPeer y x).peer z = if y = z ∧ 1 ≤ y ∧ y ≤ 63 then x else s.peer z := by
  unfold State.peer State.setPeer
  by_cases hy : 1 ≤ y ∧ y ≤ 63 <;> by_cases hz : 1 ≤ z ∧ z ≤ 63 <;> simp [hy, hz, Vector.getElem_set]
  · congr 1; simp only [eq_iff_iff]; omega
  · intro h; omega

@[simp] theorem mapVec_getElem {α β : Type} {n : Nat} (f : α → β) (v : Vector α n) (i : Nat) (h : i < n) :
    (mapVec f v)[i] = f v[i] := by
  simp [mapVec]

theorem mem_allChannels (c : ChannelNo) : c ∈ allChannels := by revert c; decide

theorem mem_allZones {z : Nat} : z ∈ allZones ↔ 1 ≤ z ∧ z ≤ 63 := by
  unfold allZones
  rw [show (List.range 64).drop 1 = List.range' 1 63 by decide]
  simp only [List.mem_range']
  constructor
  · rintro ⟨i, hi, rfl⟩; omega
  · rintro ⟨h1, h2⟩; exact ⟨z - 1, by omega, by omega⟩

/-! ### What a fold keeps -/

/-- What every step of a fold keeps, the fold keeps. -/
theorem foldl_keeps {α β : Type} (g : State → β) (f : State → α → State) (h : ∀ s a, g (f s a) = g s) (l : List α) :
    g (l.foldl f s) = g s := by
  induction l generalizing s with
  | nil => rfl
  | cons a l ih => rw [List.foldl_cons, ih, h]

/-- What every step of a fold preserves, the fold preserves. -/
theorem foldl_preserves {α : Type} (P : State → Prop) (f : State → α → State) (h : ∀ s a, P s → P (f s a)) (l : List α)
    (hs : P s) : P (l.foldl f s) := by
  induction l generalizing s with
  | nil => exact hs
  | cons a l ih => exact ih _ (h _ _ hs)

end Sys2Proof.Machine
end

