-- ==== Sys2Proof/Laws/Frames.lean ====
section
/-! SUPPORT. What the shared operations leave alone, one lemma each: an operation that only reports keeps lessReports, one
that only sequences keeps lessSequencing, and so on. The fields a mask keeps are read off by the lemmas of the masks, and
a chain of operations is followed by rewriting. -/

namespace Sys2Proof.Machine

variable (s : State)

/-! ### The masks -/

@[simp] theorem lessReports_ctl : s.lessReports.ctl = s.ctl := rfl
@[simp] theorem lessReports_reg : s.lessReports.reg = s.reg := rfl
@[simp] theorem lessReports_role : s.lessReports.role = s.role := rfl
@[simp] theorem lessReports_chans : s.lessReports.chans = s.chans := rfl
@[simp] theorem lessReports_starts : s.lessReports.starts = s.starts := rfl
@[simp] theorem lessReports_meas : s.lessReports.meas = s.meas := rfl
@[simp] theorem lessReports_contain : s.lessReports.contain = s.contain := rfl
@[simp] theorem lessReports_peers : s.lessReports.peers = s.peers := rfl
@[simp] theorem lessReports_panel : s.lessReports.panel = s.panel := rfl
@[simp] theorem lessReports_pending : s.lessReports.pending = s.pending := rfl

/-- What equality less reports says of each block. -/
theorem lessReports_eq {s t : State} (h : t.lessReports = s.lessReports) :
    t.ctl = s.ctl ∧ t.reg = s.reg ∧ t.role = s.role ∧ t.chans = s.chans ∧ t.starts = s.starts ∧ t.meas = s.meas
      ∧ t.contain = s.contain ∧ t.peers = s.peers ∧ t.panel = s.panel ∧ t.pending = s.pending :=
  have e {α : Type} (g : State → α) : g t.lessReports = g s.lessReports := congrArg g h
  ⟨e State.ctl, e State.reg, e State.role, e State.chans, e State.starts, e State.meas, e State.contain, e
    State.peers, e State.panel, e State.pending⟩

/-- What equality less reports says of the link and the composer. -/
theorem lessReports_eq_link {s t : State} (h : t.lessReports = s.lessReports) :
    t.link.line = s.link.line ∧ t.link.attempt = s.link.attempt ∧ t.link.retryWait = s.link.retryWait
      ∧ t.link.failCount = s.link.failCount ∧ t.link.txFail = s.link.txFail ∧ t.link.queue.clear = s.link.queue.clear
      ∧ t.link.queue.fireDeclare = s.link.queue.fireDeclare ∧ t.link.queue.claim = s.link.queue.claim
      ∧ t.status.period = s.status.period ∧ t.status.captured = s.status.captured :=
  have e {α : Type} (g : State → α) : g t.lessReports = g s.lessReports := congrArg g h
  ⟨e (fun x => x.link.line), e (fun x => x.link.attempt), e (fun x => x.link.retryWait), e (fun x =>
    x.link.failCount), e (fun x => x.link.txFail), e (fun x => x.link.queue.clear), e (fun x =>
    x.link.queue.fireDeclare), e (fun x => x.link.queue.claim), e (fun x => x.status.period), e (fun x =>
    x.status.captured)⟩

@[simp] theorem lessReports_lessSequencing : s.lessReports.lessSequencing = s.lessSequencing := rfl

theorem mapVec_mapVec {α β γ : Type} {n : Nat} (g : β → γ) (f : α → β) (v : Vector α n) :
    mapVec g (mapVec f v) = mapVec (g ∘ f) v := by
  apply Vector.ext; intro i hi; simp

@[simp] theorem lessSequencing_lessRoles : s.lessSequencing.lessRoles = s.lessRoles := by
  have h : mapVec (fun x : Channel => { x with seq := .stopped, output := false, target := .off })
      (mapVec (fun x : Channel => { x with seq := .stopped, output := false }) s.chans)
      = mapVec (fun x : Channel => { x with seq := .stopped, output := false, target := .off }) s.chans := by
    rw [mapVec_mapVec]; rfl
  exact congrArg (fun v => s.lessRoles.withChans v) h

theorem lessSequencing_of_lessReports {s t : State} (h : t.lessReports = s.lessReports) :
    t.lessSequencing = s.lessSequencing := by
  rw [← lessReports_lessSequencing t, h, lessReports_lessSequencing]

theorem lessRoles_of_lessSequencing {s t : State} (h : t.lessSequencing = s.lessSequencing) :
    t.lessRoles = s.lessRoles := by
  rw [← lessSequencing_lessRoles t, h, lessSequencing_lessRoles]

/-- What equality less sequencing says of each block. -/
theorem lessSequencing_eq {s t : State} (h : t.lessSequencing = s.lessSequencing) :
    t.ctl = s.ctl ∧ t.reg = s.reg ∧ t.role = s.role ∧ t.meas = s.meas ∧ t.contain = s.contain ∧ t.peers = s.peers
      ∧ t.panel = s.panel ∧ t.pending = s.pending :=
  have e {α : Type} (g : State → α) : g t.lessSequencing = g s.lessSequencing := congrArg g h
  ⟨e State.ctl, e State.reg, e State.role, e State.meas, e State.contain, e State.peers, e State.panel, e
    State.pending⟩

/-- What equality less sequencing says of the link and the composer. -/
theorem lessSequencing_eq_link {s t : State} (h : t.lessSequencing = s.lessSequencing) :
    t.link.line = s.link.line ∧ t.link.attempt = s.link.attempt ∧ t.link.retryWait = s.link.retryWait
      ∧ t.link.failCount = s.link.failCount ∧ t.link.txFail = s.link.txFail ∧ t.link.queue.clear = s.link.queue.clear
      ∧ t.link.queue.fireDeclare = s.link.queue.fireDeclare ∧ t.status.period = s.status.period
      ∧ t.status.captured = s.status.captured :=
  have e {α : Type} (g : State → α) : g t.lessSequencing = g s.lessSequencing := congrArg g h
  ⟨e (fun x => x.link.line), e (fun x => x.link.attempt), e (fun x => x.link.retryWait), e (fun x =>
    x.link.failCount), e (fun x => x.link.txFail), e (fun x => x.link.queue.clear), e (fun x =>
    x.link.queue.fireDeclare), e (fun x => x.status.period), e (fun x => x.status.captured)⟩

/-- What equality less sequencing says of a channel: its target and its inputs. -/
theorem lessSequencing_eq_ch {s t : State} (h : t.lessSequencing = s.lessSequencing) (c : ChannelNo) :
    (t.ch c).target = (s.ch c).target ∧ (t.ch c).inA = (s.ch c).inA ∧ (t.ch c).inB = (s.ch c).inB := by
  have h' : (t.lessSequencing.ch c) = (s.lessSequencing.ch c) := congrArg (fun x => State.ch x c) h
  have e (u : State) : u.lessSequencing.ch c = { u.ch c with seq := .stopped, output := false } := by
    simp only [State.ch, State.lessSequencing, mapVec_getElem]
  rw [e, e] at h'
  have a := congrArg Channel.target h'
  have b := congrArg Channel.inA h'
  have d := congrArg Channel.inB h'
  exact ⟨a, b, d⟩

/-- What equality less a recompute says of each block. -/
theorem lessRoles_eq {s t : State} (h : t.lessRoles = s.lessRoles) :
    t.ctl = s.ctl ∧ t.reg = s.reg ∧ t.role.override = s.role.override ∧ t.meas = s.meas ∧ t.peers = s.peers
      ∧ t.panel = s.panel ∧ t.pending = s.pending :=
  have e {α : Type} (g : State → α) : g t.lessRoles = g s.lessRoles := congrArg g h
  ⟨e State.ctl, e State.reg, e (fun x => x.role.override), e State.meas, e State.peers, e State.panel, e
    State.pending⟩

/-- What equality less a recompute says of the link and the composer. -/
theorem lessRoles_eq_link {s t : State} (h : t.lessRoles = s.lessRoles) :
    t.link.line = s.link.line ∧ t.link.attempt = s.link.attempt ∧ t.link.retryWait = s.link.retryWait
      ∧ t.link.failCount = s.link.failCount ∧ t.link.txFail = s.link.txFail ∧ t.link.queue.clear = s.link.queue.clear
      ∧ t.link.queue.fireDeclare = s.link.queue.fireDeclare ∧ t.status.period = s.status.period
      ∧ t.status.captured = s.status.captured :=
  have e {α : Type} (g : State → α) : g t.lessRoles = g s.lessRoles := congrArg g h
  ⟨e (fun x => x.link.line), e (fun x => x.link.attempt), e (fun x => x.link.retryWait), e (fun x =>
    x.link.failCount), e (fun x => x.link.txFail), e (fun x => x.link.queue.clear), e (fun x =>
    x.link.queue.fireDeclare), e (fun x => x.status.period), e (fun x => x.status.captured)⟩

/-! ### Operations that only report -/

@[simp] theorem queueStatus_lessReports : (queueStatus s).lessReports = s.lessReports := by
  unfold queueStatus; split <;> rfl

@[simp] theorem statusNotice_lessReports : (statusNotice s).lessReports = s.lessReports := by
  unfold statusNotice; split <;> simp

@[simp] theorem refreshTrouble_lessReports : (refreshTrouble s).lessReports = s.lessReports := rfl

@[simp] theorem fillRecord_lessReports (c : Cond) : (fillRecord c s).lessReports = s.lessReports := by
  simp only [fillRecord, statusNotice_lessReports]; rfl

@[simp] theorem raise_lessReports (c : Cond) : (raise c s).lessReports = s.lessReports := by
  unfold raise
  split
  · rfl
  · dsimp only
    split
    · rw [fillRecord_lessReports]; rfl
    · rfl

@[simp] theorem endCond_lessReports (c : Cond) : (endCond c s).lessReports = s.lessReports := by
  unfold endCond; dsimp only; split <;> rfl

@[simp] theorem raiseOpt_lessReports (c : Option Cond) : (raiseOpt c s).lessReports = s.lessReports := by
  cases c <;> simp [raiseOpt]

@[simp] theorem endOpt_lessReports (c : Option Cond) : (endOpt c s).lessReports = s.lessReports := by
  cases c <;> simp [endOpt]

@[simp] theorem swapCond_lessReports (a b : Option Cond) : (swapCond a b s).lessReports = s.lessReports := by
  unfold swapCond; split <;> simp

@[simp] theorem followLatch_lessReports (c : Cond) (b : Bool) : (followLatch c b s).lessReports = s.lessReports := by
  unfold followLatch; split <;> simp

@[simp] theorem acknowledge_lessReports (b : Bool) : (acknowledge b s).lessReports = s.lessReports := by
  unfold acknowledge
  split
  · rfl
  · rw [statusNotice_lessReports]; rfl

@[simp] theorem settleRaises_lessReports (t : State) : (settleRaises s t).lessReports = t.lessReports := by
  unfold settleRaises
  split
  · dsimp only
    split <;> rfl
  · rfl

@[simp] theorem followSupply_lessReports (x : Supply) : (followSupply x s).lessReports = s.lessReports := by
  cases x <;> simp [followSupply]

@[simp] theorem raiseSilent_lessReports : (raiseSilent s).lessReports = s.lessReports :=
  foldl_keeps s State.lessReports _ (fun s z => by split <;> simp) allZones

/-! ### Operations that only sequence -/

/-- Less reports, setSeq writes one channel: state, timers and output. -/
theorem setSeq_lessReports (c : ChannelNo) (q : Sequencer) :
    (setSeq c q s).lessReports
      = (s.setCh c { s.ch c with seq := q, output := outputOf (s.ch c).target q }).lessReports := by
  simp only [setSeq, swapCond_lessReports]

/-- Writing state and output of one channel is sequencing. -/
theorem setCh_lessSequencing (c : ChannelNo) (q : Sequencer) (b : Bool) :
    (s.setCh c { s.ch c with seq := q, output := b }).lessSequencing = s.lessSequencing := by
  have h : mapVec (fun x : Channel => { x with seq := .stopped, output := false })
      (s.setCh c { s.ch c with seq := q, output := b }).chans
      = mapVec (fun x : Channel => { x with seq := .stopped, output := false }) s.chans := by
    apply Vector.ext
    intro i hi
    simp only [mapVec_getElem, State.setCh, State.withChans_chans, Vector.getElem_set, State.ch]
    split
    · next e => subst e; rfl
    · rfl
  exact congrArg (fun v => { s.lessSequencing with chans := v }) h

@[simp] theorem setSeq_lessSequencing (c : ChannelNo) (q : Sequencer) :
    (setSeq c q s).lessSequencing = s.lessSequencing :=
  (lessSequencing_of_lessReports (setSeq_lessReports s c q)).trans (setCh_lessSequencing s c _ _)

/-- setSeq writes its own channel alone. -/
theorem setSeq_ch (c d : ChannelNo) (q : Sequencer) :
    (setSeq c q s).ch d
      = if c = d then { s.ch c with seq := q, output := outputOf (s.ch c).target q } else s.ch d := by
  have h := (lessReports_eq (setSeq_lessReports s c q)).2.2.2.1
  rw [State.ch, h, ← State.ch, State.ch_setCh]

@[simp] theorem setSeq_starts (c : ChannelNo) (q : Sequencer) : (setSeq c q s).starts = s.starts :=
  (lessReports_eq (setSeq_lessReports s c q)).2.2.2.2.1

@[simp] theorem enterStopped_lessSequencing (c : ChannelNo) : (enterStopped c s).lessSequencing = s.lessSequencing := by
  unfold enterStopped; split <;> simp

@[simp] theorem enterStarting_lessSequencing (c : ChannelNo) : (enterStarting c s).lessSequencing = s.lessSequencing := by
  unfold enterStarting; split <;> simp

@[simp] theorem enterStopping_lessSequencing (c : ChannelNo) : (enterStopping c s).lessSequencing = s.lessSequencing := by
  unfold enterStopping; split <;> simp

@[simp] theorem fanTarget_lessSequencing (c : ChannelNo) : (fanTarget c s).lessSequencing = s.lessSequencing := by
  unfold fanTarget; split <;> simp

@[simp] theorem fanRole_lessSequencing (c : ChannelNo) : (fanRole c s).lessSequencing = s.lessSequencing := by
  unfold fanRole; split <;> (try split) <;> simp

@[simp] theorem fanNotice_lessSequencing (a b : Bool) (c : ChannelNo) :
    (fanNotice a b c s).lessSequencing = s.lessSequencing := by
  cases a <;> cases b <;> simp [fanNotice]

@[simp] theorem provingEvent_lessSequencing (b : Bool) (c : ChannelNo) :
    (provingEvent b c s).lessSequencing = s.lessSequencing := by
  unfold provingEvent; split <;> (try split) <;> simp

@[simp] theorem provingExpiry_lessSequencing (c : ChannelNo) : (provingExpiry c s).lessSequencing = s.lessSequencing := by
  unfold provingExpiry; split <;> (try split) <;> (try split) <;> simp

@[simp] theorem runDownExpiry_lessSequencing (c : ChannelNo) : (runDownExpiry c s).lessSequencing = s.lessSequencing := by
  unfold runDownExpiry; split <;> simp

@[simp] theorem interlockEvent_lessSequencing (d c : ChannelNo) :
    (interlockEvent d s c).lessSequencing = s.lessSequencing := by
  unfold interlockEvent; split <;> (try split) <;> (try split) <;> simp

@[simp] theorem interlockNotice_lessSequencing (d : ChannelNo) : (interlockNotice d s).lessSequencing = s.lessSequencing := by
  have h : ∀ (t : State) (c : ChannelNo), (interlockEvent d t c).lessSequencing = t.lessSequencing := by
    intro t c; simp
  exact foldl_keeps s State.lessSequencing (interlockEvent d) h allChannels

@[simp] theorem setTravel_lessSequencing (c : ChannelNo) (q : Sequencer) :
    (setTravel c q s).lessSequencing = s.lessSequencing := by
  have k (b : Bool) (t : State) : (if b = true then interlockNotice c t else t).lessSequencing = t.lessSequencing := by
    cases b <;> simp
  exact (k _ _).trans (setSeq_lessSequencing s c q)

@[simp] theorem damperTarget_lessSequencing (c : ChannelNo) : (damperTarget c s).lessSequencing = s.lessSequencing := by
  unfold damperTarget; split <;> (try split) <;> simp

@[simp] theorem limitEvent_lessSequencing (c : ChannelNo) : (limitEvent c s).lessSequencing = s.lessSequencing := by
  simp only [limitEvent]; split <;> (try split) <;> (try split) <;> (try split) <;> simp

@[simp] theorem travelExpiry_lessSequencing (c : ChannelNo) : (travelExpiry c s).lessSequencing = s.lessSequencing := by
  unfold travelExpiry; split <;> (try split) <;> simp

@[simp] theorem startDamper_lessSequencing (c : ChannelNo) : (startDamper c s).lessSequencing = s.lessSequencing := by
  unfold startDamper; split <;> simp

@[simp] theorem startFan_lessSequencing (c : ChannelNo) : (startFan c s).lessSequencing = s.lessSequencing := by
  unfold startFan; split <;> simp

@[simp] theorem resumeFan_lessSequencing (q : Sequencer) (c : ChannelNo) :
    (resumeFan q c s).lessSequencing = s.lessSequencing := by
  unfold resumeFan; split <;> (try split) <;> simp

@[simp] theorem startSequencers_lessSequencing : (startSequencers s).lessSequencing = s.lessSequencing := by
  unfold startSequencers
  rw [foldl_keeps _ State.lessSequencing _ (fun s c => startFan_lessSequencing s c),
    foldl_keeps _ State.lessSequencing _ (fun s c => startDamper_lessSequencing s c)]

@[simp] theorem resumeSequencers_lessSequencing (v : Vector Channel 12) :
    (resumeSequencers v s).lessSequencing = s.lessSequencing := by
  unfold resumeSequencers
  rw [foldl_keeps _ State.lessSequencing _ (fun s c => resumeFan_lessSequencing s _ c),
    foldl_keeps _ State.lessSequencing _ (fun s c => startDamper_lessSequencing s c)]

@[simp] theorem withStarts_lessSequencing (x : StartLogic) : (s.withStarts x).lessSequencing = s.lessSequencing := rfl

@[simp] theorem setQueued_claim_lessSequencing (b : Bool) : (s.setQueued .claim b).lessSequencing = s.lessSequencing := rfl

@[simp] theorem withdrawClaim_lessSequencing : (withdrawClaim s).lessSequencing = s.lessSequencing := by
  unfold withdrawClaim; split <;> simp

@[simp] theorem withdrawTest_lessSequencing : (withdrawTest s).lessSequencing = s.lessSequencing := by
  unfold withdrawTest; split <;> simp

@[simp] theorem claimTest_lessSequencing : (claimTest s).lessSequencing = s.lessSequencing := by
  unfold claimTest; split <;> simp

@[simp] theorem isolatedTest_lessSequencing : (isolatedTest s).lessSequencing = s.lessSequencing := by
  unfold isolatedTest; split <;> (try split) <;> simp

@[simp] theorem startTests_lessSequencing : (startTests s).lessSequencing = s.lessSequencing := by simp [startTests]

@[simp] theorem raiseHoldOff_lessSequencing (n : Nat) : (raiseHoldOff n s).lessSequencing = s.lessSequencing := rfl

@[simp] theorem peerClaim_lessSequencing (n : Nat) : (peerClaim n s).lessSequencing = s.lessSequencing := by
  simp [peerClaim]

@[simp] theorem ownClaim_lessSequencing : (ownClaim s).lessSequencing = s.lessSequencing := by
  unfold ownClaim; split
  · dsimp only; split <;> simp
  · rfl

@[simp] theorem claimRequeued_lessSequencing : (claimRequeued s).lessSequencing = s.lessSequencing := by
  unfold claimRequeued; split <;> simp

/-! ### Containment and roles -/

theorem setContain_lessReports (st : ContainState) (g : Option Nat) :
    (setContain st g s).lessReports = (s.withContain { state := st, grace := g }).lessReports := by
  simp only [setContain]; split <;> simp

/-- The monitor's work is no more than a recompute's. -/
theorem withContain_lessRoles (x : Containment) : (s.withContain x).lessRoles = s.lessRoles := rfl

@[simp] theorem setContain_lessRoles (st : ContainState) (g : Option Nat) :
    (setContain st g s).lessRoles = s.lessRoles :=
  (lessRoles_of_lessSequencing (lessSequencing_of_lessReports (setContain_lessReports s st g))).trans
    (withContain_lessRoles s _)

@[simp] theorem deriveContain_lessRoles : (deriveContain s).lessRoles = s.lessRoles := by
  unfold deriveContain; split <;> (try split) <;> simp

@[simp] theorem containRole_lessRoles (a b : ZoneRole) : (containRole a b s).lessRoles = s.lessRoles := by
  unfold containRole; split <;> (try split) <;> simp

@[simp] theorem containComparator_lessRoles : (containComparator s).lessRoles = s.lessRoles := by
  unfold containComparator; split <;> (try split) <;> simp

@[simp] theorem graceExpiry_lessRoles : (graceExpiry s).lessRoles = s.lessRoles := by
  unfold graceExpiry; split <;> (try split) <;> simp

@[simp] theorem graceStart_lessRoles : (graceStart s).lessRoles = s.lessRoles := by
  unfold graceStart; split <;> rfl

@[simp] theorem resumeContain_lessRoles : (resumeContain s).lessRoles = s.lessRoles := by
  unfold resumeContain; split <;> (try split) <;> simp

/-- Writing target and output of one channel is a recompute's work. -/
@[simp] theorem replaceTarget_lessRoles (c : ChannelNo) (t : Target) : (replaceTarget c t s).lessRoles = s.lessRoles := by
  have h : mapVec (fun x : Channel => { x with seq := .stopped, output := false, target := .off }) (replaceTarget c t s).chans
      = mapVec (fun x : Channel => { x with seq := .stopped, output := false, target := .off }) s.chans := by
    apply Vector.ext
    intro i hi
    simp only [mapVec_getElem, replaceTarget, State.setCh, State.withChans_chans, Vector.getElem_set, State.ch]
    split
    · next e => subst e; rfl
    · rfl
  exact congrArg (fun v => { s.lessRoles with chans := v }) h

theorem withRole_lessRoles (x : Resolver) (h : x.override = s.role.override) : (s.withRole x).lessRoles = s.lessRoles :=
  congrArg (fun o => { s.lessRoles with role := { State.reset.role with override := o } }) h

/-- A recompute leaves everything alone but role, assist flag, FIRE-MODE, targets, sequencing, containment, reports. -/
@[simp] theorem recompute_lessRoles : (recompute s).lessRoles = s.lessRoles := by
  unfold recompute
  split
  · dsimp only
    rw [lessRoles_of_lessSequencing (startTests_lessSequencing _),
      foldl_keeps _ State.lessRoles _ (fun s c => lessRoles_of_lessSequencing (fanNotice_lessSequencing s _ _ c)),
      foldl_keeps _ State.lessRoles _ (fun s c => lessRoles_of_lessSequencing (damperTarget_lessSequencing s c))]
    split
    · rw [containRole_lessRoles, lessRoles_of_lessSequencing (lessSequencing_of_lessReports (statusNotice_lessReports _)),
        foldl_keeps _ State.lessRoles _ (fun s c => replaceTarget_lessRoles s c _)]
      exact withRole_lessRoles s _ rfl
    · rw [foldl_keeps _ State.lessRoles _ (fun s c => replaceTarget_lessRoles s c _)]
      exact withRole_lessRoles s _ rfl
  · rfl

/-- A new register, its notice and its conditions: the register and reports alone. -/
@[simp] theorem storeRegister_lessReports (new : IncidentRegister) :
    (storeRegister new s).lessReports = (s.withReg new).lessReports := by
  unfold storeRegister; dsimp only; split <;> simp

/-- A register event leaves the new register, and what a recompute leaves. -/
theorem registerEvent_lessRoles (new : IncidentRegister) :
    (registerEvent new s).lessRoles = (s.withReg new).lessRoles := by
  have h := lessRoles_of_lessSequencing (lessSequencing_of_lessReports (storeRegister_lessReports s new))
  unfold registerEvent
  dsimp only
  split <;> simp only [recompute_lessRoles, h]

/-! ### Peers, measurement, modes -/

/-- A stored STATUS: its entry and reports alone. -/
theorem storeStatus_lessReports (z : Nat) (r : StatusRecord) :
    (storeStatus z r s).lessReports
      = (if z = 0 ∨ z = s.station then s else s.setPeer z (heardPeer s.silence r (s.peer z))).lessReports := by
  unfold storeStatus
  split
  · rfl
  · dsimp only
    split <;> simp

theorem silenceExpiry_lessRoles (z : Nat) :
    (silenceExpiry z s).lessRoles = (s.withPeers (silenceExpiry z s).peers).lessRoles := by
  unfold silenceExpiry
  split
  · dsimp only
    have h0 : (s.setPeer z (silentPeer (s.peer z))).lessRoles
        = (s.withPeers (s.setPeer z (silentPeer (s.peer z))).peers).lessRoles := by
      unfold State.setPeer; split <;> rfl
    split
    · rw [recompute_lessRoles, (lessRoles_eq (recompute_lessRoles _)).2.2.2.2.1]
      have hr := raise_lessReports (s.setPeer z (silentPeer (s.peer z))) (neighbourSilent z)
      rw [lessRoles_of_lessSequencing (lessSequencing_of_lessReports hr), (lessReports_eq hr).2.2.2.2.2.2.2.1]
      exact h0
    · exact h0
  · rfl

@[simp] theorem passComparator_lessRoles (p : PressureNo) (b : Bool) : (passComparator p b s).lessRoles = s.lessRoles := by
  unfold passComparator
  split
  · refine foldl_keeps s State.lessRoles _ (fun s c => ?_) allChannels
    split
    · exact lessRoles_of_lessSequencing (provingEvent_lessSequencing s b c)
    · rfl
  · simp
  · rfl

/-- A pair moves its own pressure channel, and what a comparator's change moves. -/
theorem pairEvent_lessRoles (p : PressureNo) (a b : Code) :
    (pairEvent p a b s).lessRoles = (s.setPressure p (applyPair (s.prCfg p) a b (s.pressure p))).lessRoles := by
  unfold pairEvent
  dsimp only
  have k (t : State) (x y : Bool) (c : Cond) : (if y = x then t else followLatch c y t).lessRoles = t.lessRoles := by
    split
    · rfl
    · exact lessRoles_of_lessSequencing (lessSequencing_of_lessReports (by simp))
  split <;> simp only [passComparator_lessRoles, k]

/-- A supply reading moves the supply state, and what the start tests and reports move. -/
theorem supplyEvent_lessSequencing (v : Nat) :
    (supplyEvent v s).lessSequencing = (s.withMeas { s.meas with supply := nextSupply s.meas.supply v }).lessSequencing := by
  unfold supplyEvent
  dsimp only
  split
  · next h => rw [h]; rfl
  · rw [startTests_lessSequencing, lessSequencing_of_lessReports (followSupply_lessReports _ _)]

theorem setMode_lessReports (m : Mode) : (setMode m s).lessReports = (s.withCtl { s.ctl with mode := m }).lessReports := rfl

end Sys2Proof.Machine
end

