-- ==== Sys2Proof/Laws/Specs.lean ====
section
/-! SUPPORT. What the shared operations do, one lemma each: raises and ends of conditions, notices to the composer, the
entries of a fan, the start tests and the recompute. -/

namespace Sys2Proof.Machine

variable (s : State)

/-! ### Reports -/

theorem mem_insertCond (c d : Cond) (l : List Cond) : d ∈ insertCond c l ↔ d = c ∨ d ∈ l := by
  induction l with
  | nil => simp [insertCond]
  | cons x xs ih =>
    unfold insertCond
    split
    · simp
    · simp only [List.mem_cons, ih]; tauto

@[simp] theorem queueStatus_trouble : (queueStatus s).trouble = s.trouble := by unfold queueStatus; split <;> rfl
@[simp] theorem statusNotice_trouble : (statusNotice s).trouble = s.trouble := by unfold statusNotice; split <;> simp

/-- A rule that queues a STATUS queues one, or marks one pending. -/
theorem queueStatus_queues : (queueStatus s).link.queue.status = true ∨ (queueStatus s).status.earlyPending = true := by
  unfold queueStatus; split
  · exact .inr rfl
  · exact .inl rfl

theorem statusNotice_queues (h : s.ctl.mode.sends = true) :
    (statusNotice s).link.queue.status = true ∨ (statusNotice s).status.earlyPending = true := by
  unfold statusNotice; rw [if_pos h]; exact queueStatus_queues s

@[simp] theorem fillRecord_trouble (c : Cond) :
    (fillRecord c s).trouble
      = { s.trouble with
          record := some { cond := c, fresh := true, filling := s.trouble.fillings + 1 }
          fillings := s.trouble.fillings + 1, output := false } := by
  simp [fillRecord, Trouble.filled, refreshTrouble, troubleLevel]

/-- A raise that is masked or finds its instance active changes nothing. -/
theorem raise_idle (c : Cond) (h : masked c s = true ∨ c ∈ s.trouble.active) : raise c s = s := by
  unfold raise; rw [if_pos (by simpa using h)]

/-- A raise that enters an instance fills an empty record and leaves a full one. -/
theorem raise_trouble (c : Cond) (h : masked c s = false) (h' : c ∉ s.trouble.active) :
    (raise c s).trouble
      = if s.trouble.record = none then
          { active := insertCond c s.trouble.active, fillings := s.trouble.fillings + 1, output := false
            record := some { cond := c, fresh := true, filling := s.trouble.fillings + 1 } }
        else { s.trouble with active := insertCond c s.trouble.active } := by
  unfold raise
  rw [if_neg (by simp [h, h'])]
  cases hr : s.trouble.record <;> simp [hr]

theorem mem_raise (c d : Cond) (h : masked c s = false) : d ∈ (raise c s).trouble.active ↔ d = c ∨ d ∈ s.trouble.active := by
  by_cases h' : c ∈ s.trouble.active
  · rw [raise_idle s c (.inr h')]
    constructor
    · exact .inr
    · rintro (rfl | h'')
      · exact h'
      · exact h''
  · rw [raise_trouble s c h h']
    split <;> exact mem_insertCond c d _

/-- A full record survives every raise. -/
theorem raise_record (c : Cond) (h : s.trouble.record.isSome = true) : (raise c s).trouble.record = s.trouble.record := by
  by_cases h' : masked c s = true ∨ c ∈ s.trouble.active
  · rw [raise_idle s c h']
  · have hm : masked c s = false := by simpa using fun e => h' (.inl e)
    rw [raise_trouble s c hm (fun e => h' (.inr e)), if_neg (by rintro e; rw [e] at h; cases h)]

@[simp] theorem refilled_active (b : Bool) (x : Trouble) : (x.refilled b).active = x.active := by
  unfold Trouble.refilled; split <;> rfl

/-- A refill takes the lowest instance, or leaves the record empty (R160). -/
theorem refilled_record (b : Bool) (x : Trouble) :
    (x.refilled b).record
      = x.active.head?.map fun c => { cond := c, fresh := true, filling := x.fillings + 1, acked := b } := by
  unfold Trouble.refilled; split <;> simp_all [Trouble.filled]

/-- An acknowledge of a full record refills it, or leaves it empty, and TROUBLE follows (R160, R161). -/
theorem acknowledge_trouble (b : Bool) (h : s.trouble.record.isSome = true) :
    (acknowledge b s).trouble = (refreshTrouble (s.withTrouble (s.trouble.refilled b))).trouble := by
  unfold acknowledge
  split
  · next e => rw [e] at h; cases h
  · exact statusNotice_trouble _

/-- The active set after an end (R157). -/
theorem endCond_active (c : Cond) :
    (endCond c s).trouble.active = s.trouble.active.filter (fun d => decide (d ≠ c)) := by
  unfold endCond
  dsimp only
  split
  · exact refilled_active true _
  · rfl

theorem mem_endCond (c d : Cond) : d ∈ (endCond c s).trouble.active ↔ d ∈ s.trouble.active ∧ d ≠ c := by
  simp [endCond_active]

/-- An end leaves the record (R159), but together with the ACK pulse that filled it with the instance (R160). -/
theorem endCond_trouble (c : Cond) (h : s.trouble.endsWithAck c = false) :
    (endCond c s).trouble
      = { s.trouble with active := s.trouble.active.filter (fun d => decide (d ≠ c)) } := by
  unfold endCond; simp [h]

/-- Together with that pulse the record holds the lowest of the instances that remain, or is empty (R160). -/
theorem endCond_record_together (c : Cond) (h : s.trouble.endsWithAck c = true) :
    (endCond c s).trouble.record.map (·.cond)
      = (s.trouble.active.filter (fun d => decide (d ≠ c))).head? := by
  unfold endCond
  rw [if_pos h]
  change Option.map _ (Trouble.refilled true _).record = _
  rw [refilled_record]
  simp [Function.comp_def]

/-! ### One fan -/

/-- Entry to STARTING writes its own channel alone (R79). -/
theorem enterStarting_ch (c d : ChannelNo) :
    (enterStarting c s).ch d
      = if c = d then
          { s.ch c with
            output := true
            seq :=
              if provingLevel s c then .fan .running none none
              else .fan .starting (some ((s.chCfg c).time1 * 1000)) none }
        else s.ch d := by
  unfold enterStarting
  split <;> rw [setSeq_ch] <;> split <;> rfl

/-- Entry to STOPPED writes its own channel alone (R67). -/
theorem enterStopped_ch (c d : ChannelNo) :
    (enterStopped c s).ch d
      = if c = d then
          { s.ch c with
            output := false
            seq := .fan (if (s.ch c).target = .off then .stopped else evaluateStopped s c) none none }
        else s.ch d := by
  have h : (evaluateStopped s c).outputOn = false := by unfold evaluateStopped; split <;> (try split) <;> rfl
  unfold enterStopped
  split <;> next ht =>
    rw [setSeq_ch]
    split
    · simp only [fanIn, outputOf, ht, h, reduceCtorEq, if_false] <;> rfl
    · rfl

@[simp] theorem enterStarting_starts (c : ChannelNo) : (enterStarting c s).starts = s.starts := by
  unfold enterStarting; split <;> simp

@[simp] theorem enterStopped_starts (c : ChannelNo) : (enterStopped c s).starts = s.starts := by
  unfold enterStopped; split <;> simp

@[simp] theorem provingEvent_starts (b : Bool) (c : ChannelNo) : (provingEvent b c s).starts = s.starts := by
  unfold provingEvent; split <;> (try split) <;> simp

/-- A proving event writes its own channel alone. -/
theorem provingEvent_ch (b : Bool) (c d : ChannelNo) (h : d ≠ c) : (provingEvent b c s).ch d = s.ch d := by
  unfold provingEvent
  split <;> (try split) <;> simp [setSeq_ch, Ne.symm h]

/-! ### The start logic -/

@[simp] theorem withdrawClaim_chans : (withdrawClaim s).chans = s.chans := by unfold withdrawClaim; split <;> rfl
@[simp] theorem withdrawTest_chans : (withdrawTest s).chans = s.chans := by unfold withdrawTest; split <;> simp
@[simp] theorem claimTest_chans : (claimTest s).chans = s.chans := by unfold claimTest; split <;> rfl

/-- The claim and its withdrawal leave the reports alone. -/
theorem claimTest_trouble : (claimTest (withdrawTest s)).trouble = s.trouble := by
  have h : (withdrawTest s).trouble = s.trouble := by
    unfold withdrawTest; split
    · unfold withdrawClaim; split <;> rfl
    · rfl
  have k (t : State) : (claimTest t).trouble = t.trouble := by unfold claimTest; split <;> rfl
  rw [k, h]

/-- The isolated-start test starts the lowest waiting fan, with the hold-off and no queued claim, or changes nothing. -/
theorem isolatedTest_cases :
    isolatedTest s = s
      ∨ ∃ c, lowestWaiting s = some c ∧ s.sequencing = true ∧ (s.ctl.mode = .mute ∨ s.link.txFail = true)
        ∧ s.starts.holdOff = none ∧ s.meas.supply ≠ .fail ∧ s.starts.claim.isSending = false
        ∧ (isolatedTest s).chans = (enterStarting c s).chans
        ∧ (isolatedTest s).starts.holdOff = some s.ownHoldOff := by
  unfold isolatedTest
  split
  · exact .inl rfl
  · next c hc =>
    split
    · next h =>
      obtain ⟨running, apart, stopped, supplied, unsent⟩ := h
      refine .inr ⟨c, hc, running, apart, stopped, supplied, unsent, ?_, ?_⟩
      · simp
      · have e : (withdrawClaim (enterStarting c s)).ctl = s.ctl :=
          (lessSequencing_eq (((withdrawClaim_lessSequencing _).trans (enterStarting_lessSequencing s c)))).1
        simp [State.ownHoldOff, State.cfg, e]
    · exact .inl rfl

/-- While the hold-off runs, the start tests move no channel. -/
theorem startTests_chans (h : s.starts.holdOff.isSome = true) : (startTests s).chans = s.chans := by
  have hw : (withdrawTest s).starts.holdOff = s.starts.holdOff := by
    unfold withdrawTest; split
    · unfold withdrawClaim; split <;> rfl
    · rfl
  have hc : (claimTest (withdrawTest s)).starts.holdOff = s.starts.holdOff := by
    unfold claimTest; split
    · exact hw
    · exact hw
  unfold startTests
  rcases isolatedTest_cases (claimTest (withdrawTest s)) with e | ⟨c, -, -, -, k, -⟩
  · rw [e]; simp
  · rw [hc] at k; rw [k] at h; cases h

/-! ### Containment and roles -/

/-- Containment moves nothing that the role, the register or a channel holds. -/
theorem setContain_keeps (st : ContainState) (g : Option Nat) :
    (setContain st g s).contain = { state := st, grace := g } ∧ (setContain st g s).role = s.role
      ∧ (setContain st g s).chans = s.chans ∧ (setContain st g s).reg = s.reg
      ∧ (setContain st g s).starts = s.starts := by
  obtain ⟨-, reg, role, chans, starts, -, contain, -⟩ := lessReports_eq (setContain_lessReports s st g)
  exact ⟨contain, role, chans, reg, starts⟩

theorem containRole_keeps (a b : ZoneRole) :
    (containRole a b s).role = s.role ∧ (containRole a b s).chans = s.chans ∧ (containRole a b s).starts = s.starts := by
  have k (st : ContainState) (g : Option Nat) : (setContain st g s).role = s.role
      ∧ (setContain st g s).chans = s.chans ∧ (setContain st g s).starts = s.starts := by
    obtain ⟨-, role, chans, -, starts⟩ := setContain_keeps s st g
    exact ⟨role, chans, starts⟩
  unfold containRole
  split
  · split
    · exact ⟨rfl, rfl, rfl⟩
    · unfold deriveContain
      split <;> (try split) <;> exact k _ _
  · exact k _ _

@[simp] theorem replaceTarget_role (c : ChannelNo) (t : Target) : (replaceTarget c t s).role = s.role := rfl

/-- What a recompute gives the Role Resolver (R28, R38, R41). -/
theorem recompute_role (h : s.ctl.mode.applies = true) :
    (recompute s).role
      = { s.role with
          role := deriveRole s, assist := deriveAssist (deriveRole s) s
          fireMode := deriveFireMode s } := by
  unfold recompute
  rw [if_pos h]
  dsimp only
  rw [(lessSequencing_eq (startTests_lessSequencing _)).2.2.1,
    foldl_keeps _ State.role _ (fun s c => (lessSequencing_eq (fanNotice_lessSequencing s _ _ c)).2.2.1),
    foldl_keeps _ State.role _ (fun s c => (lessSequencing_eq (damperTarget_lessSequencing s c)).2.2.1)]
  split
  · rw [(containRole_keeps _ _ _).1, (lessReports_eq (statusNotice_lessReports _)).2.2.1,
      foldl_keeps _ State.role _ (fun s c => replaceTarget_role s c _)]
    rfl
  · rw [foldl_keeps _ State.role _ (fun s c => replaceTarget_role s c _)]
    rfl

/-- A recompute outside LISTEN, ACTIVE and MUTE is none (R40). -/
theorem recompute_idle (h : s.ctl.mode.applies = false) : recompute s = s := by
  unfold recompute; rw [if_neg (by simp [h])]

end Sys2Proof.Machine
end

