-- ==== Sys2Proof/Laws/Wire.lean ====
section
/-! SUPPORT. What the line operations do, one lemma each: a judged line, a receiver's bits, the slots a station drives and
the acceptance of a frame. -/

namespace Sys2Proof.Machine

variable (s : State)

/-! ### A receiver's bits -/

@[simp] theorem Intake.bit_recessive (x : Intake) (b : Bool) :
    (x.bit b).recessive = if b then x.recessive + 1 else 0 := by
  unfold Intake.bit; dsimp only; split <;> (try split) <;> rfl

/-- A bit of the wire is at most one bit of the frame. -/
theorem Intake.bit_taken (x : Intake) (b : Bool) : (x.bit b).taken.length ≤ x.taken.length + 1 := by
  unfold Intake.bit; dsimp only; split
  · split
    · dsimp only; split <;> simp
    · simp
  · simp

/-- No frame is shorter than one of one payload word. -/
theorem Intake.not_atWindow (x : Intake) (h : x.taken.length < 47) : x.atWindow = false := by
  unfold Intake.atWindow
  split
  · rfl
  · simp only [Bool.and_eq_false_iff, decide_eq_false_iff_not]
    exact .inl (by unfold frameBits; omega)

/-- A receiver that has neither an idle nor the place of the window goes on. -/
theorem Intake.receive_next (x : Intake) (b : Bool) (bs : List Bool) (h : (x.bit b).has = .taking) :
    x.receive (b :: bs) = (x.bit b).receive bs := by
  rw [Intake.receive, h]

/-- A receiver that takes a bit more before any frame could end goes on. -/
theorem Intake.has_taking (x : Intake) (h : x.recessive < 10) (k : x.taken.length < 47) : x.has = .taking := by
  rw [Intake.has, if_neg (by unfold idleRun; omega), Intake.not_atWindow _ k]
  rfl

/-- Ten recessive bits in a row end the frame. -/
theorem Intake.has_ended (x : Intake) (h : 10 ≤ x.recessive) : x.has = .ended := by
  rw [Intake.has, if_pos (by unfold idleRun; omega)]

/-- A line that goes recessive well before the place of the window ends the frame at its tenth recessive bit, whatever the
receiver makes of the insertion violation at the ninth (R139, R141). -/
theorem Intake.receive_recessives (n : Nat) (x : Intake) (hn : x.recessive + n = 10) (h0 : 0 < n)
    (ht : x.taken.length + n ≤ 47) : x.receive (List.replicate n true) = .ended := by
  induction n generalizing x with
  | zero => omega
  | succ n ih =>
    have hr := Intake.bit_recessive x true
    have hl := Intake.bit_taken x true
    rw [if_pos rfl] at hr
    rw [List.replicate_succ]
    by_cases h : n = 0
    · rw [Intake.receive, Intake.has_ended _ (by omega)]
    · rw [Intake.receive_next x true _ (Intake.has_taking _ (by omega) (by omega))]
      exact ih _ (by omega) (by omega) (by omega)

/-! ### The line as judged -/

/-- Outside a frame a bit time counts the run on, or starts it again: at ten recessive bits the line is idle, and a dominant
bit on an idle line makes this station a receiver. -/
theorem LineWatch.bit_quiet (x : LineWatch) (b : Bool) (h : ∀ i, x.line ≠ .receiving i)
    (ha : x.line ≠ .ackSlot) (he : x.line ≠ .errorSlot) (hs : x.line ≠ .sending) : x.bit b = x.quiet b := by
  unfold LineWatch.bit
  split <;> simp_all

/-- A bit time keeps the law of the line: so does any stretch of levels. -/
theorem LineWatch.bit_law (x : LineWatch) (b : Bool) (h : LineLaw x) : LineLaw (x.bit b) := by
  obtain ⟨line, run, wait⟩ := x
  cases line with
  | receiving i =>
    cases e : (i.bit b).has <;> simp_all [LineLaw, LineWatch.bit, idleRun, waitRun]
  | ackSlot => simp_all [LineLaw, LineWatch.bit]
  | errorSlot => simp_all [LineLaw, LineWatch.bit, idleRun]
  | sending => exact h
  | awaitingIdle =>
    cases b <;> simp [LineLaw, LineWatch.bit, LineWatch.quiet, idleRun, waitRun] at h ⊢
    · exact h.2
    · by_cases k : run = 9
      · simp [k, h.2]
      · have := h.1
        simp [show ¬ 9 ≤ run by omega, h.2]; omega
  | closed =>
    cases b <;> simp [LineLaw, LineWatch.bit, LineWatch.quiet, idleRun, waitRun] at h ⊢
    by_cases k : run = 9
    · simp [k]
    · simp [show ¬ 9 ≤ run by omega]; omega
  | idle =>
    cases b <;> simp [LineLaw, LineWatch.bit, LineWatch.quiet, idleRun, waitRun] at h ⊢
    · decide
    · omega

theorem LineWatch.foldl_law (levels : List Bool) (x : LineWatch) (h : LineLaw x) :
    LineLaw (levels.foldl LineWatch.bit x) := by
  induction levels generalizing x with
  | nil => exact h
  | cons b bs ih => exact ih _ (x.bit_law b h)

/-- What a station has of its own frame's bits up to where it stopped driving keeps the law of the line. -/
theorem Frame.heardUntil_law (f : Frame) (n : Nat) : LineLaw (f.heardUntil n) :=
  LineWatch.foldl_law _ _ (by simp [LineLaw, idleRun, waitRun])

/-- No level starts a retry wait. -/
theorem LineWatch.foldl_wait (levels : List Bool) (x : LineWatch) (h : (levels.foldl LineWatch.bit x).wait = true) :
    x.wait = true := by
  induction levels generalizing x with
  | nil => exact h
  | cons b bs ih =>
    have q : (x.quiet b).wait = true → x.wait = true := by
      cases b <;> simp only [LineWatch.quiet]
      · rw [if_neg (by simp)]; split <;> simp
      · simp +contextual
    have k := ih _ h
    revert k
    unfold LineWatch.bit
    split <;> first | exact q | exact id | (dsimp only; split <;> exact id)

/-- A frame still on the wire moves nothing but the receiver's bits. -/
theorem LineWatch.foldl_taking (bits : List Bool) (i : Intake) (run : Nat) (wait : Bool) (k : i.receive bits = .taking) :
    bits.foldl LineWatch.bit { line := .receiving i, run := run, wait := wait }
      = { line := .receiving (bits.foldl Intake.bit i), run := run, wait := wait } := by
  induction bits generalizing i with
  | nil => rfl
  | cons b bs ih =>
    cases e : (i.bit b).has with
    | taking =>
      rw [Intake.receive_next i b bs e] at k
      simpa [LineWatch.bit, e] using ih _ k
    | ended => simp [Intake.receive, e] at k
    | window d => simp [Intake.receive, e] at k

/-- A frame that comes to its place of the window, and the two slots, close the window: idle is counted from there,
whatever the slots carried (R140, R145). -/
theorem LineWatch.foldl_window (bits : List Bool) (i : Intake) (run : Nat) (wait last ack error : Bool)
    (d : Option Frame) (k : i.receive bits = .taking) (h : i.receive (bits ++ [last]) = .window d) :
    (bits ++ [last, ack, error]).foldl LineWatch.bit { line := .receiving i, run := run, wait := wait }
      = { line := .closed, run := 0, wait := wait } := by
  have e : (Intake.bit (bits.foldl Intake.bit i) last).has = .window d := by
    induction bits generalizing i with
    | nil =>
      revert h
      simp only [List.nil_append, List.foldl_nil, Intake.receive]
      cases (i.bit last).has <;> simp
    | cons b bs ih =>
      cases e : (i.bit b).has with
      | taking =>
        rw [Intake.receive_next i b bs e] at k
        rw [List.cons_append, Intake.receive_next i b _ e] at h
        exact ih _ k h
      | ended => simp [Intake.receive, e] at k
      | window d => simp [Intake.receive, e] at k
  rw [List.foldl_append, LineWatch.foldl_taking bits i run wait k]
  simp [LineWatch.bit, e]

/-- Recessive bits on a line outside a frame count on from those before them (R140, R151). -/
theorem LineWatch.foldl_recessives (n : Nat) (x : LineWatch) (h : LineLaw x)
    (hl : x.line = .idle ∨ x.line = .closed ∨ x.line = .awaitingIdle) :
    (List.replicate n true).foldl LineWatch.bit x
      = { line := if idleRun ≤ x.run + n then .idle else x.line, run := min waitRun (x.run + n)
          wait := x.wait && decide (x.run + n < waitRun) } := by
  induction n generalizing x with
  | zero =>
    obtain ⟨line, run, wait⟩ := x
    rcases hl with e | e | e <;> simp [LineLaw, idleRun, waitRun] at h e ⊢ <;> subst e <;> simp at h ⊢
    · exact ⟨by omega, fun w => h.2 w⟩
    · exact ⟨by omega, by omega, fun w => by omega⟩
    · exact ⟨by omega, by omega, fun w => by simp_all⟩
  | succ n ih =>
    have hb : x.bit true = x.quiet true := by
      apply LineWatch.bit_quiet <;> rcases hl with e | e | e <;> simp [e]
    rw [List.replicate_succ, List.foldl_cons, ih (x.bit true) (x.bit_law true h)
      (by rw [hb]; simp only [LineWatch.quiet, if_pos]; split <;> simp [hl])]
    rw [hb]
    simp only [LineWatch.quiet, if_pos, LineWatch.mk.injEq]
    have hi : idleRun = 10 := rfl
    have hw : waitRun = 30 := rfl
    refine ⟨?_, by omega, ?_⟩
    · by_cases k : idleRun ≤ x.run + (n + 1)
      · rw [if_pos k]; split
        · rfl
        · rw [if_pos (by omega)]
      · rw [if_neg k, if_neg (by omega), if_neg (by omega)]
    · have e : ∀ r m : Nat, ((x.wait && decide (min waitRun (r + 1) < waitRun)) && decide (min waitRun (r + 1) + m < waitRun))
          = (x.wait && decide (r + (m + 1) < waitRun)) := by
        intro r m
        rw [Bool.and_assoc, ← Bool.decide_and]
        congr 2
        exact propext ⟨fun _ => by omega, fun _ => by omega⟩
      exact e x.run n

/-- Judging the line moves the line, the run by which it is judged and the retry wait alone, and starts no retry wait. -/
theorem judgeLine_cases (levels : List Bool) :
    ∃ (l : Line) (n : Nat) (w : Bool),
      judgeLine levels s = s.withLink { s.link with line := l, run := n, retryWait := w }
        ∧ (w = true → s.link.retryWait = true) :=
  ⟨_, _, _, rfl, LineWatch.foldl_wait levels s.lineWatch⟩

/-- Two stretches of the line judged one after the other are judged as one (R140). -/
theorem judgeLine_append (l m : List Bool) : judgeLine (l ++ m) s = judgeLine m (judgeLine l s) := by
  simp only [judgeLine, State.lineWatch, List.foldl_append]; rfl

/-! ### The window and acceptance -/

/-- What a station drives: neither slot, or the slots of what it received (R145). -/
theorem State.drives_cases (r : Reception) :
    (s.hears = true ∧ s.link.attempt = none ∧ s.drives r = r.drives)
      ∨ ((s.hears = false ∨ s.link.attempt ≠ none) ∧ s.drives r = .none) := by
  unfold State.drives
  split
  · next h => exact .inl ⟨h.1, h.2, rfl⟩
  · next h =>
    refine .inr ⟨?_, rfl⟩
    cases hh : s.hears
    · exact .inl rfl
    · exact .inr fun k => h ⟨hh, k⟩

/-- A frame in whose window ACK and no ERROR stands is accepted by every station that takes part in the link (R146). -/
@[simp] theorem State.accepts_eq (own : Bool) (f : Frame) : s.accepts own f = s.hears := by
  unfold State.accepts
  cases own
  · cases h : s.hears
    · have : (s.withLink { s.link with attempt := none }).hears = false := h
      simp [State.drives, this, receiverAccepts, Slots.none]
    · have : (s.withLink { s.link with attempt := none }).hears = true := h
      simp [State.drives, this, receiverAccepts, Reception.drives, acceptedSlots]
  · simp [transmitterAccepts, acceptedSlots]

end Sys2Proof.Machine
end

