-- ==== Sys2Proof/WellFormed.lean ====
section
/-! DEFINITION. Which commands the manual admits: the ranges of operands that their types do not already give. -/

namespace Sys2Proof

/-- An accepted frame carries 1..7 payload words: a count of 0 is a decoding error (R141), which is never accepted. -/
def WordCountOk (words : List Word) : Prop := 1 ≤ words.length ∧ words.length ≤ 7

/-- The frames that R142 hands to no block: class 6 and 7, and a class whose required word count is not met. A
FIRE-DECLARE is always handed to the Incident Register. -/
def NoBlockFrame (cls : FrameClass) (words : List Word) : Prop :=
  (cls = 6 ∨ cls = 7) ∨ ((cls = 0 ∨ cls = 1 ∨ cls = 3 ∨ cls = 4) ∧ words.length ≠ 1) ∨ (cls = 5 ∧ words.length ≠ 4)

/-- The well-formed commands. Arbitration is lost within the nine key bits, one inserted bit among them at most; a
duplicate-key stop comes after them (R139, R143, R144). -/
def Instr.WellFormed : Instr → Prop
  | .fireDeclareAccepted _ words => WordCountOk words
  | .otherFrameAccepted cls _ words => WordCountOk words ∧ NoBlockFrame cls words
  | .spacingTimerExpiry peer => peer ≠ 0
  | .silenceTimerExpiry peer => peer ≠ 0
  | .powerUp _ => True
  | .resetHeld => True
  | .resetHold5s => True
  | .warmReset => True
  | .coldReset _ => True
  | .configReadDone _ => True
  | .listenTimerExpiry => True
  | .muteQuietTimerExpiry => True
  | .lineIdle _ => True
  | .attemptStart => True
  | .arbitrationLost bit => 1 ≤ bit ∧ bit ≤ 10
  | .duplicateKeyStop bit => 10 ≤ bit
  | .failedAttempt => True
  | .retryWaitEnd _ => True
  | .clearAccepted _ _ => True
  | .overrideAccepted _ _ => True
  | .startClaimAccepted _ _ _ => True
  | .statusAccepted _ _ _ _ _ => True
  | .isolatedDeclarationTimerExpiry => True
  | .alarmChange _ => True
  | .panelResetPulse => True
  | .ackPulse _ => True
  | .statusPeriodTimerExpiry => True
  | .holdOffExpiry => True
  | .provingTimerExpiry _ => True
  | .runDownTimerExpiry _ => True
  | .provingSwitchChange _ _ => True
  | .limitChange _ _ _ => True
  | .travelTimerExpiry _ => True
  | .graceTimerExpiry => True
  | .conversionADone _ => True
  | .pairComplete _ => True
  | .supplySample _ => True
  | .pulseLineReturnInactive _ => True

end Sys2Proof
end

