-- ==== Sys2Proof/Tests/Slice0.lean ====
section
/-! SUPPORT. Tests: the operand checks refuse ill-formed commands, single steps and tables agree with the numbers the manual
prints, and every statement with hypotheses has a concrete state that meets them. -/

namespace Sys2Proof.Tests

set_option linter.unusedVariables false
set_option Elab.async false

open Sys2Proof Sys2Proof.Machine

/-! ### The operand checks -/

theorem test_wf_refuses_no_words (z : Station) : ¬ (Instr.fireDeclareAccepted z []).WellFormed := by
  simp [Instr.WellFormed, WordCountOk]

theorem test_wf_refuses_eight_words (z : Station) :
    ¬ (Instr.fireDeclareAccepted z [0, 0, 0, 0, 0, 0, 0, 0]).WellFormed := by
  simp [Instr.WellFormed, WordCountOk]

theorem test_wf_refuses_arbitration_outside_the_key :
    ¬ (Instr.arbitrationLost 0).WellFormed ∧ ¬ (Instr.arbitrationLost 11).WellFormed := by simp [Instr.WellFormed]

theorem test_wf_refuses_a_duplicate_key_within_the_key : ¬ (Instr.duplicateKeyStop 9).WellFormed := by
  simp [Instr.WellFormed]

theorem test_wf_refuses_other_without_words (z : Station) : ¬ (Instr.otherFrameAccepted 7 z []).WellFormed := by
  simp [Instr.WellFormed, WordCountOk]

theorem test_wf_refuses_a_status_as_other (z : Station) : ¬ (Instr.otherFrameAccepted 5 z [0, 0, 0, 0]).WellFormed := by
  simp [Instr.WellFormed, WordCountOk, NoBlockFrame]

theorem test_wf_refuses_a_declare_as_other (z : Station) : ¬ (Instr.otherFrameAccepted 2 z [0]).WellFormed := by
  simp [Instr.WellFormed, WordCountOk, NoBlockFrame]

theorem test_wf_refuses_spacing_of_station_0 : ¬ (Instr.spacingTimerExpiry 0).WellFormed := by
  simp [Instr.WellFormed]

theorem test_wf_refuses_silence_of_station_0 : ¬ (Instr.silenceTimerExpiry 0).WellFormed := by
  simp [Instr.WellFormed]

theorem test_wf_admits (z : Station) :
    (Instr.otherFrameAccepted 5 z [0]).WellFormed ∧ (Instr.fireDeclareAccepted z [0]).WellFormed
      ∧ (Instr.spacingTimerExpiry 1).WellFormed
        ∧ (Instr.powerUp { station := 0, miss := .one, rate := .low }).WellFormed := by
  simp [Instr.WellFormed, WordCountOk, NoBlockFrame]

/-! ### Tables and worked cases of the manual -/

/-- 8.9, one claim frame: key 204, word 1808, check 2013, parity bits 0 and 1. -/
theorem test_claim_frame :
    let f : Frame := { cls := claimClass true, station := 12, words := claimPayload 6 16 }
    f.key = 204 ∧ f.words = [1808] ∧ checkValue f.key f.count f.words = 2013 ∧ (wordBits 1808).getLast? = some false
      ∧ (wordBits 2013).getLast? = some true ∧ f.bits.length = 47 := by decide +kernel

/-- 8.9, two declarations at one idle: 140 beats 148; an URGENT-CLAIM of station 12 beats a CLAIM of station 13. -/
theorem test_arbitration :
    losesArbitration 148 140 = true ∧ losesArbitration 140 148 = false ∧ losesArbitration 269 204 = true
      ∧ losesArbitration 204 269 = false ∧ losesArbitration 140 140 = false := by decide

/-- 8.9: station 20 loses to station 12 at K4, the sixth bit of the wire, and has taken 12's frame up to there; it follows
that frame to the close of its window. -/
theorem test_the_loser_receives_the_winner :
    let own : Frame := { cls := 2, station := 20, words := [0x0102, 0x0B00] }
    let won : Frame := { cls := 2, station := 12, words := [0x0203, 0x0D14] }
    let x := own.heardUntil 5
    x.line = .receiving ((won.wire.take 6).foldl Intake.bit .begin)
      ∧ ((won.wire.drop 6 ++ [false, true]).foldl LineWatch.bit x).line = .closed := by decide +kernel

/-- R146: one receiver with an error keeps the frame from all; no receiver gives no acceptance. -/
theorem test_window :
    let f : Frame := { cls := 0, station := 1, words := [1] }
    let ok : Reception := .window (some f)
    let bad : Reception := .window none
    transmitterAccepts (readSlots [ok.drives, ok.drives]) = true
      ∧ transmitterAccepts (readSlots [ok.drives, bad.drives]) = false
      ∧ receiverAccepts ok.drives (readSlots [ok.drives, bad.drives]) = false
      ∧ transmitterAccepts (readSlots [ok.drives, Reception.ended.drives]) = true
      ∧ transmitterAccepts (readSlots [Reception.ended.drives]) = false ∧ transmitterAccepts (readSlots []) = false := by
  decide

/-- R140: nine recessive bits make no idle line, a dominant bit starts the count again, the tenth makes it idle, and a
dominant bit on the idle line is a start bit. -/
theorem test_idle :
    let judged (levels : List Bool) : Line := (judgeLine levels State.reset).link.line
    judged (List.replicate 9 true ++ false :: List.replicate 9 true) = .awaitingIdle
      ∧ judged (List.replicate 10 true) = .idle
      ∧ judged (List.replicate 10 true ++ [false]) = .receiving .start := by decide +kernel

/-- R140, R141: idle is counted from the close of the window, ACK and ERROR in it or not, and five recessive bits of one
command go on in the next. -/
theorem test_idle_after_the_window :
    let f : Frame := { cls := 0, station := 1, words := [1] }
    let five : List Bool := List.replicate 5 true
    let seen (slots : List Bool) : State :=
      judgeLine five (judgeLine (f.wire ++ slots) (judgeLine (List.replicate 10 true) State.reset))
    (seen [false, true]).link.line = .closed ∧ (seen [true, true]).link.line = .closed
      ∧ (judgeLine (List.replicate 4 true) (seen [true, true])).link.line = .closed
      ∧ (judgeLine five (seen [false, false])).link.line = .idle := by decide +kernel

/-- R141: a wrong parity bit, and a count of 0, which is placed as one payload word, give an error at the 47th bit. -/
theorem test_reception_errors :
    let f : Frame := { cls := 2, station := 21, words := [0x5555] }
    let zero := false :: (bitsOf 9 149 ++ bitsOf 3 0 ++ wordBits 0x5555 ++ wordBits (149 + 0x5555))
    f.wire = f.bits ∧ f.bits.length = 47
      ∧ receive (f.bits.set 29 (!(f.bits.getD 29 true))) = .window none
      ∧ insertFrom true 0 zero = zero ∧ receive zero = .window none ∧ receive (zero.take 46) = .taking := by
  decide +kernel

/-- R139, R141: a frame cut short leaves the line recessive; the ninth recessive bit is a violation, and at the tenth the
receiver ends the frame, whatever it makes of the violating bit. -/
theorem test_truncated_frame :
    receive (({ cls := 0, station := 0, words := [0] } : Frame).wire.take 2 ++ List.replicate 10 true) = .ended := by
  change Intake.begin.receive (false :: false :: List.replicate 10 true) = .ended
  rw [Intake.receive_next _ _ _ (by decide), Intake.receive_next _ _ _ (by decide)]
  exact Intake.receive_recessives 10 _ (by decide) (by decide) (by decide)

/-- 8.3 and R6: node 12 with neighbours 11, 13, 20 sends two words. -/
theorem test_declare_payload :
    declarePayload [11, 13, 20] = [BitVec.ofNat 16 (3 * 256 + 11), BitVec.ofNat 16 (13 * 256 + 20)]
      ∧ readDeclare 12 (declarePayload [11, 13, 20]) = some [11, 13, 20]
      ∧ readDeclare 12 [BitVec.ofNat 16 (3 * 256 + 11)] = none := by decide +kernel

/-- 1.3, worked case: 12, 20, 31, 21, 13 in that order. -/
theorem test_five_declarations :
    let reg := [(12, [11, 13, 20]), (20, [12, 21, 30]), (31, [30, 32, 40]), (21, [20, 22]), (13, [12, 14])].foldl
      (fun r x => classify x.1 .heard x.2 r) State.reset.reg
    reg.records.map (fun r => (r.zone, r.standing))
        = [(12, .primary), (20, .extension), (31, .secondary), (21, .extension), (13, .secondary)]
      ∧ viewOf reg.records = (12, 20, 21) := by decide +kernel

/-- 1.7, worked case: a South register merges the North view. -/
theorem test_merge_south :
    let r (z : Nat) (st : Standing) : Record := { zone := z, standing := st, source := .heard, neighbours := [] }
    let south := { State.reset.reg with
      records := [r 12 .primary, r 20 .extension, r 21 .extension, r 13 .secondary] }
    let out := mergeView { primary := 40, extensions := [41] } south
    out.records.map (fun r => (r.zone, r.standing))
        = [(12, .primary), (20, .extension), (21, .secondary), (13, .secondary), (40, .extension), (41, .secondary)]
      ∧ out.splitLatch = true := by decide +kernel

/-- 1.7, worked case: a North register merges the South view. -/
theorem test_merge_north :
    let r (z : Nat) (st : Standing) : Record := { zone := z, standing := st, source := .heard, neighbours := [] }
    let north := { State.reset.reg with records := [r 40 .primary, r 41 .extension, r 33 .secondary] }
    let out := mergeView { primary := 12, extensions := [20, 40] } north
    out.records.map (fun r => (r.zone, r.standing))
        = [(40, .extension), (41, .secondary), (33, .secondary), (12, .primary), (20, .extension)] := by decide +kernel

/-- 5.8, one pair through the pipeline and the limit cases. -/
theorem test_pipeline :
    let k (gain : Nat) (trim : Int) : PressureConfig :=
      { role := .proving, negative := false, gain := gain, trim := trim, threshold := 500, hysteresis := 50 }
    pressureOf (k 1640 30) 41250 (-38730) = 999 ∧ bandOf (k 1640 30) 999 = .high
      ∧ bandOf (k 1640 30) 450 = .dead ∧ bandOf (k 1640 30) 449 = .low
      ∧ scaled (k 65535 (-2047)) 524286 (-524287) = 526324 ∧ pressureOf (k 65535 (-2047)) 524286 (-524287) = 5000
      ∧ scaled (k 65535 2047) (-524287) 524286 = -526324 ∧ pressureOf (k 1640 30) 40 0 = 0
      ∧ pressureOf (k 1000 0) (-200) 0 = -1 := by decide +kernel

/-- R102, its table. -/
theorem test_supply_reading :
    supplyReading 39 400000 = 238 ∧ supplyReading 39 341130 = 203 ∧ supplyReading 39 270000 = 160
      ∧ supplyReading 39 (-1200) = 0 ∧ supplyReading 65535 524287 = 400 := by decide +kernel

/-- 5.8, the supply through a generator changeover. -/
theorem test_supply_changeover :
    [238, 205, 203, 165, 158, 168, 172, 207, 212].foldl (fun x v => x ++ [nextSupply (x.getLastD .normal) v]) []
      = [.normal, .normal, .low, .low, .fail, .fail, .low, .low, .normal] := by decide

/-- R129: 4.5 s for a miss limit of 1 and 8.5 s for 3. -/
theorem test_silence_time : silenceTime 1 = 4500 ∧ silenceTime 3 = 8500 := by decide

/-! ### A small node -/

def row (normal fire adjacent : Entry) : RoleRow :=
  { normal := normal, fire := fire, extend := fire, adjacent := adjacent, remote := normal, shutdown := .off }

/-- Station 12: a damper with 20 s, an extract fan behind it, a supply fan proved by P1, a curtain, P2 on the boundary. -/
def cfg : NodeConfig :=
  { blankConfig with
    neighbours := [13]
    channels := (((blankConfig.channels.set 0
        { kind := .damper, troubleEnable := true, proving := none, interlocks := [], time1 := 20, time2 := 0
          row := row .off .on .hold }).set 1
        { kind := .extractFan, troubleEnable := true, proving := none, interlocks := [0], time1 := 20, time2 := 30
          row := row .off .on .hold }).set 2
        { kind := .supplyFan, troubleEnable := false, proving := some 0, interlocks := [], time1 := 5, time2 := 0
          row := row .off .off .assist }).set 3
        { kind := .curtain, troubleEnable := true, proving := none, interlocks := [], time1 := 15, time2 := 0
          row := row .on .off .on }
    pressure := (blankConfig.pressure.set 0
        { role := .proving, negative := false, gain := 1640, trim := 30, threshold := 500, hysteresis := 50 }).set 1
        { role := .boundary, negative := true, gain := 1640, trim := 0, threshold := 80, hysteresis := 20 }
    supplyGain := 39
    holdOff := 16
    grace := 60 }

def made : Deglitched := { level := true, raw := true, run := 0 }

/-- Own zone as PRIMARY. -/
def ownRecord : Record := { zone := 12, standing := .primary, source := .heard, neighbours := [13] }

def straps : StrapPins := { station := 12, miss := .openPin, rate := .high }

/-- CONFIG, the straps sampled. -/
def conf : State :=
  { State.reset with
    ctl := { State.reset.ctl with mode := .config, straps := some { station := 12, missLimit := 3, rate := .high } }
    link := { State.reset.link with line := .idle, run := 10 } }

/-- LISTEN at its entry. -/
def lis : State :=
  { conf with
    ctl := { conf.ctl with mode := .listen, listenTimer := some 5000, config := some cfg }
    chans := State.reset.chans.set 3 { Channel.reset with target := .on, inA := made }
    meas := { State.reset.meas with scan := .convA 0 }
    status := { State.reset.status with period := some 372 }
    trouble := { State.reset.trouble with output := true } }

/-- ACTIVE in the role NORMAL, every channel at target. -/
def rest : State :=
  { lis with
    ctl := { lis.ctl with mode := .active, listenTimer := none }
    chans := ((((State.reset.chans.set 0 { Channel.reset with seq := .damper .atClosed none, inB := made }).set 1
      { Channel.reset with seq := .fan .stopped none none }).set 2
      { Channel.reset with seq := .fan .stopped none none }).set 3
      { Channel.reset with target := .on, seq := .damper .atOpen none, output := true, inA := made })
    peers := { State.reset.peers with listened := true }
    status := { State.reset.status with period := some 2000 } }

/-- ACTIVE in the role FIRE: the damper OPENING, its fan AWAITING-INTERLOCK, the curtain CLOSING, containment PENDING. -/
def node : State :=
  { rest with
    reg := { State.reset.reg with records := [ownRecord] }
    role := { State.reset.role with role := .fire, fireMode := true }
    chans := ((((State.reset.chans.set 0
      { Channel.reset with target := .on, seq := .damper .opening (some 40000), output := true }).set 1
      { Channel.reset with target := .on, seq := .fan .awaitingInterlock none none }).set 2
      { Channel.reset with seq := .fan .stopped none none }).set 3
      { Channel.reset with seq := .damper .closing (some 30000) })
    contain := { state := .pending, grace := some 60000 } }

/-- MUTE entered from a state. -/
def muted (o : Origin) (s : State) : State :=
  { s with
    ctl := { s.ctl with mode := .mute, listenTimer := none, quietTimer := some 20000, origin := some o }
    status := State.reset.status
    trouble := { s.trouble with active := [plainCond .stationConflict], output := false, fillings := 1
                                record := some { cond := plainCond .stationConflict, fresh := true, filling := 1 } } }

/-- LOCKOUT with CONFIG-BAD. -/
def lock : State :=
  { conf with
    ctl := { conf.ctl with mode := .lockout }
    trouble := { active := [plainCond .configBad], fillings := 1, output := false
                 record := some { cond := plainCond .configBad, fresh := true, filling := 1 } } }

/-- The damper at AT-OPEN, its fan AWAITING-SLOT. -/
def waiting : State :=
  { node with
    chans := ((node.chans.set 0
      { Channel.reset with target := .on, seq := .damper .atOpen none, output := true, inA := made }).set 1
      { Channel.reset with target := .on, seq := .fan .awaitingSlot none none }) }

/-- The node's fan in a state, its interlock as `waiting` has it. -/
def fanAt (st : FanState) (p r : Option Nat) (t : Target) : State :=
  { waiting with chans := waiting.chans.set 1 { Channel.reset with target := t, seq := .fan st p r, output := st.outputOn } }

/-- A claim queued. -/
def claiming : State :=
  { waiting with
    starts := { holdOff := none, claim := .queued }
    link := { waiting.link with queue := { TxQueue.empty with claim := true } } }

/-- The claim on the wire. -/
def sendingClaim : State :=
  { claiming with
    starts := { holdOff := none, claim := .sending 1 true 16 }
    link := { claiming.link with
      line := .sending, run := 0, attempt := some { kind := .claim, frame := ownFrame node 3 [BitVec.ofNat 16 528] } } }

/-- A STATUS on the wire. -/
def sendingStatus (s : State) : State :=
  { s with
    link := { s.link with
      line := .sending, run := 0, queue := { s.link.queue with status := true }
      attempt := some { kind := .status, frame := ownFrame s 5 (statusPayload (statusContent s)) } }
    status := { s.status with
      captured := some { fresh := s.trouble.record.any (·.fresh), filling := s.trouble.record.map (·.filling) } } }

/-- The node in reset, the hold below 5 s. -/
def held (s : State) : State :=
  { s with
    panel := { s.panel with reset := { raw := true, run := 0, held := true, hold := 20, fiveSecs := false } }
    link := State.reset.link
    starts := { s.starts with claim := .absent }
    status := { s.status with earlyPending := false, captured := none }
    meas := { s.meas with scan := .stopped }
    trouble := { s.trouble with active := [] } }

/-- The state after a command. -/
def after (i : Instr) (s : State) : State :=
  match exec i s with
  | .next t => t
  | _ => s

/-! ### The laws are decidable on a concrete state -/

@[reducible] def decAtMost (n : Nat) (t : Option Nat) : Decidable (AtMost n t) := by
  unfold AtMost
  infer_instance

@[reducible] def decNeighbourLaw (z : Nat) (zs : List Nat) : Decidable (NeighbourLaw z zs) := by
  unfold NeighbourLaw
  infer_instance

@[reducible] def decChannelLaw (k : NodeConfig) (c : ChannelConfig) : Decidable (ChannelLaw k c) := by
  unfold ChannelLaw
  infer_instance

@[reducible] def decPressureLaw (p : PressureConfig) : Decidable (PressureLaw p) := by
  unfold PressureLaw
  infer_instance

@[reducible] def decConfigLaw (o : Nat) (k : NodeConfig) : Decidable (ConfigLaw o k) := by
  letI := @decNeighbourLaw
  letI := @decChannelLaw
  letI := @decPressureLaw
  unfold ConfigLaw
  infer_instance

@[reducible] def decModeLaw (s : State) : Decidable (ModeLaw s) := by
  letI := @decAtMost
  letI := @decConfigLaw
  unfold ModeLaw
  infer_instance

@[reducible] def decRecordLaw (r : Record) : Decidable (RecordLaw r) := by
  letI := @decNeighbourLaw
  unfold RecordLaw
  infer_instance

@[reducible] def decListLaw (rs : List Record) : Decidable (ListLaw rs) := by
  letI := @decRecordLaw
  unfold ListLaw
  infer_instance

@[reducible] def decRegisterLaw (s : State) : Decidable (RegisterLaw s) := by
  letI := @decListLaw
  letI := @decAtMost
  unfold RegisterLaw
  infer_instance

@[reducible] def decRoleLaw (s : State) : Decidable (RoleLaw s) := by
  unfold RoleLaw
  infer_instance

@[reducible] def decTravelLaw (s : State) (c : ChannelNo) (st : TravelState) (t : Option Nat) : Decidable (TravelLaw s c st t) := by
  letI := @decAtMost
  unfold TravelLaw
  cases st <;> infer_instance

@[reducible] def decFanLaw (s : State) (c : ChannelNo) (st : FanState) (p r : Option Nat) : Decidable (FanLaw s c st p r) := by
  letI := @decAtMost
  unfold FanLaw
  cases st <;> infer_instance

@[reducible] def decSequencerLaw (s : State) (c : ChannelNo) : Decidable (SequencerLaw s c) := by
  letI := @decTravelLaw
  letI := @decFanLaw
  unfold SequencerLaw
  cases (s.ch c).seq <;> infer_instance

@[reducible] def decChannelsLaw (s : State) : Decidable (ChannelsLaw s) := by
  letI := @decSequencerLaw
  unfold ChannelsLaw
  infer_instance

@[reducible] def decAttemptLaw (s : State) : Decidable (AttemptLaw s) := by
  unfold AttemptLaw
  cases s.link.attempt <;> infer_instance

@[reducible] def decLineLaw (x : LineWatch) : Decidable (LineLaw x) := by
  unfold LineLaw
  cases x.line <;> infer_instance

@[reducible] def decClaimLaw (s : State) : Decidable (ClaimLaw s) := by
  unfold ClaimLaw
  cases s.starts.claim <;> infer_instance

@[reducible] def decQueueLaw (s : State) : Decidable (QueueLaw s) := by
  unfold QueueLaw
  cases s.ctl.mode <;> infer_instance

@[reducible] def decLinkLaw (s : State) : Decidable (LinkLaw s) := by
  letI := @decAttemptLaw
  letI := @decLineLaw
  letI := @decClaimLaw
  letI := @decQueueLaw
  letI := @decAtMost
  unfold LinkLaw
  infer_instance

@[reducible] def decPressureStateLaw (r : PressureRole) (x : PressureState) : Decidable (PressureStateLaw r x) := by
  unfold PressureStateLaw
  infer_instance

@[reducible] def decScanLaw (s : State) : Decidable (ScanLaw s) := by
  unfold ScanLaw
  cases s.meas.scan <;> infer_instance

@[reducible] def decMeasureLaw (s : State) : Decidable (MeasureLaw s) := by
  letI := @decPressureStateLaw
  letI := @decScanLaw
  unfold MeasureLaw
  infer_instance

@[reducible] def decContainLaw (s : State) : Decidable (ContainLaw s) := by
  letI := @decAtMost
  unfold ContainLaw
  cases s.contain.state <;> infer_instance

@[reducible] def decEntryLaw (n : Nat) (x : Peer) : Decidable (EntryLaw n x) := by
  letI := @decAtMost
  unfold EntryLaw
  cases x.presence <;> infer_instance

@[reducible] def decPeerLaw (s : State) : Decidable (PeerLaw s) := by
  letI := @decEntryLaw
  unfold PeerLaw
  infer_instance

@[reducible] def decQualifierLaw (c : Cond) : Decidable (QualifierLaw c) := by
  unfold QualifierLaw
  cases c.code <;> infer_instance

@[reducible] def decTroubleLaw (s : State) : Decidable (TroubleLaw s) := by
  letI := @decQualifierLaw
  unfold TroubleLaw
  infer_instance

@[reducible] def decCauseStands (s : State) (c : Cond) : Decidable (causeStands s c) := by
  unfold causeStands
  cases c.code <;> infer_instance

@[reducible] def decDeclarationLaw (s : State) : Decidable (DeclarationLaw s) := by
  unfold DeclarationLaw
  infer_instance

/-- ConditionLaw outside reset, over every code and every qualifier a code may carry. -/
def condOk (s : State) : Bool :=
  [CondCode.configBad, .stationConflict, .txFail, .fieldSupplyFail, .fieldSupplyLow, .damperJammed, .limitConflict,
    .fanBlocked, .fanProveFail, .fanRunLost, .sensorFault, .containmentNotAchieved, .neighbourSilent, .incidentSplit,
    .registerFull].all fun code => (List.range 64).all fun q =>
      let c : Cond := { code := code, qualifier := q }
      !(@decide _ (decQualifierLaw c))
        || decide (c ∈ s.trouble.active) == (@decide _ (decCauseStands s c) && !masked c s)

theorem condOk_spec {s : State} (hr : s.inReset = false) (ha : s.ctl.mode.applies = true) (h : condOk s = true) :
    ConditionLaw s := by
  refine ⟨by simp [hr], fun _ c hq => ?_, by simp [ha]⟩
  have hlt : c.qualifier < 64 := by
    revert hq
    unfold QualifierLaw
    split <;> omega
  have hc : (!(@decide _ (decQualifierLaw c))
        || decide (c ∈ s.trouble.active) == (@decide _ (decCauseStands s c) && !masked c s)) = true := by
    obtain ⟨code, q⟩ := c
    simp only [condOk, List.all_eq_true] at h
    exact h code (by cases code <;> simp) q (List.mem_range.2 hlt)
  simp only [Bool.or_eq_true, Bool.not_eq_true', decide_eq_false_iff_not, hq, not_true_eq_false, false_or,
    beq_iff_eq] at hc
  by_cases hm : c ∈ s.trouble.active <;> simp_all

/-- Every law at once. -/
def allLaws (s : State) : Bool :=
  @decide _ (decModeLaw s) && @decide _ (decRegisterLaw s) && @decide _ (decRoleLaw s) && @decide _ (decChannelsLaw s)
    && @decide _ (decLinkLaw s) && @decide _ (decMeasureLaw s) && @decide _ (decContainLaw s) && @decide _ (decPeerLaw s)
    && @decide _ (decTroubleLaw s)

theorem allLaws_spec {s : State} (h : allLaws s = true) :
    ModeLaw s ∧ RegisterLaw s ∧ RoleLaw s ∧ ChannelsLaw s ∧ LinkLaw s ∧ MeasureLaw s ∧ ContainLaw s ∧ PeerLaw s
      ∧ TroubleLaw s := by
  simp only [allLaws, Bool.and_eq_true, decide_eq_true_eq] at h
  tauto

theorem witness_laws :
    [conf, lis, rest, node, waiting, claiming, sendingClaim, sendingStatus node, lock, muted .active node,
      muted .listen lis].all allLaws = true := by decide +kernel

theorem witness_laws_in_reset :
    [State.reset, conf, lis, node, waiting, lock, muted .active node, muted .listen lis].all (fun s => allLaws (held s))
      = true := by decide +kernel

/-! ### States for the statements -/

theorem law {p : Prop} (d : Decidable p) (h : @decide p d = true) : p := of_decide_eq_true h

def alarmed (s : State) : State := { s with panel := { s.panel with alarm := made } }
def owing (s : State) : State := { s with reg := { s.reg with owed := true, isoTimer := some 1 } }
def forced (s : State) : State := after (.overrideAccepted 63 1) s
def failing (s : State) : State := { s with meas := { s.meas with supply := .fail } }
def holding (n : Nat) (s : State) : State := { s with starts := { holdOff := some n, claim := .absent } }
def failures (n : Nat) (s : State) : State := { s with link := { s.link with failCount := n, txFail := decide (n = 16) } }
def cut (s : State) : State := failures 16 s
def queued (s : State) (a b c d : Bool) : State :=
  { s with link := { s.link with queue := { clear := a, fireDeclare := b, claim := c, status := d } } }
def ownAttempt (s : State) : Attempt := s.link.attempt.getD { kind := .clear, frame := ownFrame s 0 [] }
def early (s : State) : State := { s with status := { s.status with earlyPending := true } }
def wordOf (s : State) (i : Nat) : Word := (statusPayload (statusContent s)).getD i 0
def sendingDeclare : State :=
  { rest with
    link := { rest.link with
      line := .sending, run := 0, queue := { TxQueue.empty with fireDeclare := true }
      attempt := some { kind := .fireDeclare, frame := ownFrame rest 2 (declarePayload [13]) } } }
/-- A register of n records, none for own zone or zone 63. -/
def crowded (n : Nat) : State :=
  { rest with
    reg := { rest.reg with
      records := ((List.range n).map fun i =>
        { zone := 20 + i, standing := if i = 0 then .primary else .secondary, source := .heard, neighbours := [] }) } }
def heard (p : Presence) (n : Nat) (spacing : Option Nat) (s : State) : State :=
  s.setPeer 13
    { presence := p, count := n, spacing := spacing, silence := if p = .lost then none else some 1
      record := some { mode := .active, contain := .achieved } }
def heardFrom (z : Nat) (s : State) : State :=
  s.setPeer z { presence := .seen, count := 1, spacing := none, silence := some 1
                record := some { mode := .active, contain := .achieved } }
def recorded (active : List Cond) (s : State) : State :=
  { s with
    trouble := { active := active, fillings := 1, output := false
                 record := some { cond := plainCond .txFail, fresh := false, filling := 1 } } }
/-- A node with the REGISTER-FULL latch set, its condition and NEIGHBOUR-SILENT active. -/
def latched : State :=
  let s := recorded [neighbourSilent 13, plainCond .registerFull] node
  s.withReg { s.reg with fullLatch := true }
/-- Zone 40 PRIMARY and the neighbour 13 EXTENSION; the supply fan's entry is ASSIST in ADJACENT and HOLD in REMOTE. -/
def besideThirteen : State :=
  let s := heard .present 4 none rest
  { s with
    ctl := { s.ctl with config := some { cfg with
      channels := cfg.channels.set 2 { cfg.channels[2] with row := { row .off .off .assist with remote := .hold } } } }
    reg := { s.reg with records := [learnedRecord 40 .primary, learnedRecord 13 .extension] }
    role := { s.role with role := .adjacent, fireMode := true } }
def calm (s : State) : State := { s with role := { s.role with role := .normal } }
def supplyFanAt (s : State) : State :=
  s.setCh 2 { s.ch 2 with target := .on, seq := .fan .starting (some 0) none, output := true }
def damperAt (st : TravelState) (t : Option Nat) (s : State) : State := s.setCh 0 { s.ch 0 with seq := .damper st t }
def damperMade (i : Input) (s : State) : State := s.setCh 0 ((s.ch 0).withInput i made)
def switchMade (s : State) : State := s.setCh 1 { s.ch 1 with inA := made }
def pstate (sat rec : Nat) (fault proven : Bool) (up down : Nat) : PressureState :=
  { satCount := sat, recovery := rec, fault := fault, proven := proven, provenCount := up, unprovenCount := down }
def paired (x : PressureState) (s : State) : State :=
  { s.setPressure 0 x with meas := { (s.setPressure 0 x).meas with scan := .convB 0 41250 } }
def boundaryPair : State :=
  let s := node.setPressure 1 { PressureState.reset with provenCount := 3 }
  { s with meas := { s.meas with scan := .convB 1 (-41250) } }
def supplyStep (s : State) : State := { s with meas := { s.meas with scan := .supply } }
/-- Marker, 134 bytes 0, and their sum 0x5A. -/
def goodBlock : ConfigBytes := ⟨⟨0x5A :: (List.replicate 135 0 ++ [0x5A])⟩, by simp⟩
def badBlock : ConfigBytes := ⟨⟨0x5A :: List.replicate 136 0⟩, by simp⟩

/-! ### Every statement about a command has states that meet its hypotheses and each of its clauses -/
theorem witness_PowerUpAndColdResetStartTheNode :
    (let s := node; let p : StrapPins := straps;
      p.station ≠ 0)
    ∧ (let s := node; let p : StrapPins := { straps with station := 0 };
      p.station = 0)
    ∧ (let s := node; let p : StrapPins := { straps with station := 63 };
      p.station ≠ 0) := by decide +kernel

theorem witness_WarmResetSetsTheMode :
    (let s := held State.reset;
      ModeLaw s ∧ s.inReset = true ∧ s.panel.reset.fiveSecs = false ∧ s.ctl.mode = .start)
    ∧ (let s := held conf;
      ModeLaw s ∧ s.inReset = true ∧ s.panel.reset.fiveSecs = false ∧ s.ctl.mode ≠ .start ∧ s.ctl.mode = .config)
    ∧ (let s := held lis;
      ModeLaw s ∧ s.inReset = true ∧ s.panel.reset.fiveSecs = false ∧ s.ctl.mode = .listen)
    ∧ (let s := alarmed (held lis);
      ModeLaw s ∧ s.inReset = true ∧ s.panel.reset.fiveSecs = false ∧ s.ctl.mode = .listen
        ∧ s.panel.alarm.level = true)
    ∧ (let s := held node;
      ModeLaw s ∧ s.inReset = true ∧ s.panel.reset.fiveSecs = false ∧ (s.ctl.mode = .active ∨ s.ctl.mode = .mute))
    ∧ (let s := held (muted .active node);
      ModeLaw s ∧ s.inReset = true ∧ s.panel.reset.fiveSecs = false ∧ (s.ctl.mode = .active
        ∨ s.ctl.mode = .mute) ∧ s.trouble.record.isSome = true)
    ∧ (let s := held (muted .listen lis);
      ModeLaw s ∧ s.inReset = true ∧ s.panel.reset.fiveSecs = false ∧ (s.ctl.mode = .active ∨ s.ctl.mode = .mute))
    ∧ (let s := held lock;
      ModeLaw s ∧ s.inReset = true ∧ s.panel.reset.fiveSecs = false ∧ s.ctl.mode = .lockout) :=
  ⟨⟨law (decModeLaw _) (by decide +kernel), by decide +kernel⟩,
    ⟨law (decModeLaw _) (by decide +kernel), by decide +kernel⟩,
    ⟨law (decModeLaw _) (by decide +kernel), by decide +kernel⟩,
    ⟨law (decModeLaw _) (by decide +kernel), by decide +kernel⟩,
    ⟨law (decModeLaw _) (by decide +kernel), by decide +kernel⟩,
    ⟨law (decModeLaw _) (by decide +kernel), by decide +kernel⟩,
    ⟨law (decModeLaw _) (by decide +kernel), by decide +kernel⟩,
    ⟨law (decModeLaw _) (by decide +kernel), by decide +kernel⟩⟩

theorem witness_WarmResetKeepsAndZeroes :
    (let s := owing (held rest);
      ModeLaw s ∧ RoleLaw s ∧ s.inReset = true ∧ s.panel.reset.fiveSecs = false ∧ s.ctl.mode.applies = true
        ∧ s.reg.owed = true ∧ holdsZone s.station s.reg.records = false)
    ∧ (let s := owing (held node);
      ModeLaw s ∧ RoleLaw s ∧ s.inReset = true ∧ s.panel.reset.fiveSecs = false ∧ s.ctl.mode.applies = true
        ∧ s.reg.owed = true ∧ holdsZone s.station s.reg.records = true)
    ∧ (let s := alarmed (held rest);
      ModeLaw s ∧ RoleLaw s ∧ s.inReset = true ∧ s.panel.reset.fiveSecs = false ∧ s.ctl.mode.applies = true
        ∧ s.reg.owed = false ∧ s.panel.alarm.level = true ∧ holdsZone s.station s.reg.records = false)
    ∧ (let s := held lis;
      ModeLaw s ∧ RoleLaw s ∧ s.inReset = true ∧ s.panel.reset.fiveSecs = false ∧ s.ctl.mode.applies = true) :=
  ⟨⟨law (decModeLaw _) (by decide +kernel), law (decRoleLaw _) (by decide +kernel), by decide +kernel⟩,
    ⟨law (decModeLaw _) (by decide +kernel), law (decRoleLaw _) (by decide +kernel), by decide +kernel⟩,
    ⟨law (decModeLaw _) (by decide +kernel), law (decRoleLaw _) (by decide +kernel), by decide +kernel⟩,
    ⟨law (decModeLaw _) (by decide +kernel), law (decRoleLaw _) (by decide +kernel), by decide +kernel⟩⟩

theorem witness_WarmResetLeavesOutputsAsTheyAre :
    (let s := held node; let c : ChannelNo := 0;
      ModeLaw s ∧ RoleLaw s ∧ ChannelsLaw s ∧ s.inReset = true ∧ s.panel.reset.fiveSecs = false
        ∧ s.sequencing = true ∧ (s.chCfg c).kind.isDamper = true)
    ∧ (let s := held (fanAt .running none none .on); let c : ChannelNo := 1;
      ModeLaw s ∧ RoleLaw s ∧ ChannelsLaw s ∧ s.inReset = true ∧ s.panel.reset.fiveSecs = false
        ∧ s.sequencing = true ∧ (s.chCfg c).kind.isFan = true ∧ (s.ch c).output = true)
    ∧ (let s := held (fanAt .stopping none (some 5) .on); let c : ChannelNo := 1; let p : Option Nat := none;
      let r : Option Nat := some 5
      ModeLaw s ∧ RoleLaw s ∧ ChannelsLaw s ∧ s.inReset = true ∧ s.panel.reset.fiveSecs = false
        ∧ s.sequencing = true ∧ (s.ch c).seq = .fan .stopping p r ∧ (s.chCfg c).time2 ≠ 0)
    ∧ (let s := held node; let c : ChannelNo := 1;
      ModeLaw s ∧ RoleLaw s ∧ ChannelsLaw s ∧ s.inReset = true ∧ s.panel.reset.fiveSecs = false
        ∧ s.sequencing = true ∧ (s.chCfg c).kind.isFan = true ∧ (s.ch c).output = false
        ∧ (s.ch c).seq.fanState ≠ some .stopping ∧ (s.ch c).target = .on) :=
  ⟨⟨law (decModeLaw _) (by decide +kernel), law (decRoleLaw _) (by decide +kernel),
      law (decChannelsLaw _) (by decide +kernel), by decide +kernel⟩,
    ⟨law (decModeLaw _) (by decide +kernel), law (decRoleLaw _) (by decide +kernel),
      law (decChannelsLaw _) (by decide +kernel), by decide +kernel⟩,
    ⟨law (decModeLaw _) (by decide +kernel), law (decRoleLaw _) (by decide +kernel),
      law (decChannelsLaw _) (by decide +kernel), by decide +kernel⟩,
    ⟨law (decModeLaw _) (by decide +kernel), law (decRoleLaw _) (by decide +kernel),
      law (decChannelsLaw _) (by decide +kernel), by decide +kernel⟩⟩

theorem witness_ConfigReadEntersListenOrLockout :
    (let s := conf; let b : ConfigBytes := goodBlock;
      ModeLaw s ∧ s.inReset = false ∧ s.ctl.mode = .config ∧ blockGood b = true ∧ s.panel.alarm.level = false)
    ∧ (let s := alarmed conf; let b : ConfigBytes := goodBlock;
      ModeLaw s ∧ s.inReset = false ∧ s.ctl.mode = .config ∧ blockGood b = true ∧ s.panel.alarm.level = true)
    ∧ (let s := conf; let b : ConfigBytes := badBlock;
      ModeLaw s ∧ TroubleLaw s ∧ s.inReset = false ∧ s.ctl.mode = .config ∧ blockGood b = false) :=
  ⟨⟨law (decModeLaw _) (by decide +kernel), by decide +kernel⟩,
    ⟨law (decModeLaw _) (by decide +kernel), by decide +kernel⟩,
    ⟨law (decModeLaw _) (by decide +kernel), law (decTroubleLaw _) (by decide +kernel), by decide +kernel⟩⟩

theorem witness_ModeTimersEnterTheirModes :
    (let s := lis; let c : ChannelNo := 0; let t := after .listenTimerExpiry s;
      ModeLaw s ∧ s.inReset = false ∧ s.ctl.mode = .listen ∧ s.ctl.listenTimer.isSome = true
        ∧ (t.chCfg c).kind.isDamper = true)
    ∧ (let s := lis; let c : ChannelNo := 1; let z : Nat := 13; let t := after .listenTimerExpiry s;
      ModeLaw s ∧ s.inReset = false ∧ s.ctl.mode = .listen ∧ s.ctl.listenTimer.isSome = true
        ∧ (t.chCfg c).kind.isFan = true ∧ (t.ch c).target = .off ∧ z ∈ s.cfg.neighbours ∧ z ≤ 63 ∧ 1 ≤ z
        ∧ (s.peer z).presence = .unknown ∧ s.peers.listened = false)
    ∧ (let s := forced lis; let c : ChannelNo := 1; let t := after .listenTimerExpiry s;
      ModeLaw s ∧ s.inReset = false ∧ s.ctl.mode = .listen ∧ s.ctl.listenTimer.isSome = true
        ∧ (t.chCfg c).kind.isFan = true ∧ (t.ch c).target = .on ∧ s.link.txFail = false
        ∧ t.contain.state = .pending)
    ∧ (let s := muted .active node; let c : ChannelNo := 0;
      ModeLaw s ∧ RoleLaw s ∧ ChannelsLaw s ∧ s.inReset = false ∧ s.ctl.mode = .mute ∧ s.ctl.origin = some .active
        ∧ (s.chCfg c).kind.isDamper = true)
    ∧ (let s := muted .listen lis;
      ModeLaw s ∧ s.inReset = false ∧ s.ctl.mode = .mute ∧ s.ctl.origin = some .listen ∧ s.panel.alarm.level = false)
    ∧ (let s := alarmed (muted .listen lis);
      ModeLaw s ∧ s.inReset = false ∧ s.ctl.mode = .mute ∧ s.ctl.origin = some .listen ∧ s.panel.alarm.level = true)
    ∧ (let s := owing (muted .active rest);
      ModeLaw s ∧ s.inReset = false ∧ s.ctl.mode = .mute ∧ s.reg.owed = true) :=
  ⟨⟨law (decModeLaw _) (by decide +kernel), by decide +kernel⟩,
    ⟨law (decModeLaw _) (by decide +kernel), by decide +kernel⟩,
    ⟨law (decModeLaw _) (by decide +kernel), by decide +kernel⟩,
    ⟨law (decModeLaw _) (by decide +kernel), law (decRoleLaw _) (by decide +kernel),
      law (decChannelsLaw _) (by decide +kernel), by decide +kernel⟩,
    ⟨law (decModeLaw _) (by decide +kernel), by decide +kernel⟩,
    ⟨law (decModeLaw _) (by decide +kernel), by decide +kernel⟩,
    ⟨law (decModeLaw _) (by decide +kernel), by decide +kernel⟩⟩

/-- An ACTIVE node with a declaration owed and NEIGHBOUR-SILENT active, and one millisecond of it. -/
theorem witness_StepKeepsConditionsAndDeclaration :
    let s := after (.alarmChange true) lis
    ((ModeLaw s ∧ RegisterLaw s ∧ RoleLaw s ∧ ChannelsLaw s ∧ LinkLaw s ∧ MeasureLaw s ∧ ContainLaw s ∧ PeerLaw s
        ∧ TroubleLaw s) ∧ (match step s with | .next _ => true | _ => false) = true)
      ∧ ConditionLaw s ∧ DeclarationLaw s
      ∧ (s.inReset = false ∧ s.ctl.mode = .active ∧ s.reg.owed = true ∧ neighbourSilent 13 ∈ s.trouble.active) :=
  ⟨⟨allLaws_spec (by decide +kernel), by decide +kernel⟩, condOk_spec (by decide +kernel) (by decide +kernel) (by decide +kernel),
    law (decDeclarationLaw _) (by decide +kernel), by decide +kernel⟩

theorem witness_AttemptTakesTheLowestClass :
    (let s := queued node true true true true; let k : FrameKind := .clear;
      let a : Attempt := { kind := .clear, frame := ownFrame node 0 [1] }; let t := after .attemptStart s
      s.inReset = false ∧ s.link.line = .idle ∧ s.link.attempt = none ∧ s.link.retryWait = false
        ∧ s.ctl.mode.sends = true ∧ s.link.queue.lowest = some k ∧ (k = .claim → lowestWaiting s ≠ none)
        ∧ k = .clear ∧ t.link.attempt = some a)
    ∧ (let s := queued waiting false true true true; let k : FrameKind := .fireDeclare;
      s.inReset = false ∧ s.link.line = .idle ∧ s.link.attempt = none ∧ s.link.retryWait = false
        ∧ s.ctl.mode.sends = true ∧ s.link.queue.lowest = some k ∧ (k = .claim → lowestWaiting s ≠ none)
        ∧ k = .fireDeclare)
    ∧ (let s := queued waiting false false true true; let k : FrameKind := .claim;
      s.inReset = false ∧ s.link.line = .idle ∧ s.link.attempt = none ∧ s.link.retryWait = false
        ∧ s.ctl.mode.sends = true ∧ s.link.queue.lowest = some k ∧ (k = .claim → lowestWaiting s ≠ none) ∧ k = .claim)
    ∧ (let s := queued node false false false true; let k : FrameKind := .status;
      s.inReset = false ∧ s.link.line = .idle ∧ s.link.attempt = none ∧ s.link.retryWait = false
        ∧ s.ctl.mode.sends = true ∧ s.link.queue.lowest = some k ∧ (k = .claim → lowestWaiting s ≠ none)
        ∧ k = .status) := by decide +kernel

theorem witness_LostArbitrationKeepsTheFrame :
    (let s := sendingClaim; let a : Attempt := ownAttempt s;
      s.inReset = false ∧ s.link.attempt = some a ∧ s.starts.claim.isSending = true ∧ lowestWaiting s ≠ none
        ∧ s.meas.supply ≠ .fail ∧ s.link.txFail = false ∧ s.ctl.mode = .active
        ∧ (receive (a.frame.wire.take 2 ++ [false]) = .taking ∧ (after (.arbitrationLost 2) s).link.line ≠ .sending))
    ∧ (let s := failing sendingClaim; let a : Attempt := ownAttempt s;
      s.inReset = false ∧ s.link.attempt = some a ∧ s.starts.claim.isSending = true
        ∧ s.meas.supply = .fail) := by decide +kernel

theorem witness_DuplicateKeyStopMutesTheNode :
    (let s := sendingStatus node; let a : Attempt := ownAttempt s;
      s.inReset = false ∧ s.link.attempt = some a ∧ (s.ctl.mode = .listen ∨ s.ctl.mode = .active))
    ∧ (let s := sendingStatus lis; let a : Attempt := ownAttempt s;
      s.inReset = false ∧ s.link.attempt = some a ∧ (s.ctl.mode = .listen ∨ s.ctl.mode = .active))
    ∧ (let s := sendingStatus lock; let a : Attempt := ownAttempt s;
      s.inReset = false ∧ s.link.attempt = some a ∧ s.ctl.mode = .lockout)
    ∧ (let s := holding 1 (sendingStatus node); let a : Attempt := ownAttempt s;
      RoleLaw s ∧ s.inReset = false ∧ s.link.attempt = some a ∧ s.ctl.mode = .active
        ∧ s.starts.holdOff.isSome = true) :=
  ⟨by decide +kernel,
    by decide +kernel,
    by decide +kernel,
    ⟨law (decRoleLaw _) (by decide +kernel), by decide +kernel⟩⟩

theorem witness_FailedAttemptCounts :
    (let s := failures 14 (sendingStatus node); let a : Attempt := ownAttempt s;
      s.inReset = false ∧ s.link.attempt = some a ∧ s.link.failCount < 15 ∧ s.link.txFail = false
        ∧ s.ctl.mode ≠ .mute)
    ∧ (let s := failures 15 sendingClaim; let a : Attempt := ownAttempt s; let c : ChannelNo := 1;
      s.inReset = false ∧ s.link.attempt = some a ∧ 15 ≤ s.link.failCount ∧ s.starts.claim.isSending = true
        ∧ s.ctl.mode = .active ∧ lowestWaiting s = some c ∧ s.starts.holdOff = none ∧ s.meas.supply ≠ .fail)
    ∧ (let s := failures 16 (sendingStatus node); let a : Attempt := ownAttempt s;
      s.inReset = false ∧ s.link.attempt = some a ∧ 15 ≤ s.link.failCount)
    ∧ (let s := failures 14 sendingClaim; let a : Attempt := ownAttempt s;
      LinkLaw s ∧ s.inReset = false ∧ s.link.attempt = some a ∧ s.starts.claim.isSending = true ∧ s.link.failCount < 15
        ∧ s.link.txFail = false ∧ s.ctl.mode = .active ∧ lowestWaiting s ≠ none ∧ s.meas.supply ≠ .fail) :=
  ⟨by decide +kernel, by decide +kernel, by decide +kernel, law (decLinkLaw _) (by decide +kernel), by decide +kernel⟩

theorem witness_ClearEmptiesTheRegister :
    (let s := owing node; let z : Station := 0; let w : Word := 1;
      RoleLaw s ∧ s.hears = true ∧ s.ctl.mode.applies = true ∧ s.reg.owed = true ∧ s.role.override = .auto)
    ∧ (let s := alarmed node; let z : Station := 13; let w : Word := 1;
      s.hears = true ∧ s.ctl.mode.applies = true ∧ s.reg.owed = false ∧ s.panel.alarm.level = true
        ∧ s.ctl.mode ≠ .mute ∧ z.toNat ≠ s.station)
    ∧ (let s := node; let z : Station := 12; let w : Word := 0;
      s.hears = true ∧ s.ctl.mode.applies = true ∧ s.reg.owed = false ∧ s.panel.alarm.level = false)
    ∧ (let s := queued node false true false false; let z : Station := 13; let w : Word := 2;
      LinkLaw s ∧ s.hears = true ∧ s.ctl.mode.applies = true ∧ z.toNat ≠ s.station ∧ s.link.queue.fireDeclare = true)
    ∧ (let s := muted .active node; let z : Station := 13; let w : Word := 1;
      s.hears = true ∧ s.ctl.mode.applies = true ∧ s.trouble.record.isSome = true
        ∧ s.trouble.record.any (·.acked) = false)
    ∧ (let s := after .attemptStart (queued node true true false false); let z : Station := 12; let w : Word := 1;
      LinkLaw s ∧ s.hears = true ∧ s.ctl.mode.applies = true
        ∧ isOwnFrame { cls := 0, station := z, words := [w] } s = true ∧ s.link.queue.fireDeclare = true) :=
  ⟨⟨law (decRoleLaw _) (by decide +kernel), by decide +kernel⟩,
    by decide +kernel,
    by decide +kernel,
    ⟨law (decLinkLaw _) (by decide +kernel), by decide +kernel⟩,
    by decide +kernel,
    ⟨law (decLinkLaw _) (by decide +kernel), by decide +kernel⟩⟩

theorem witness_OverrideTable :
    (let s := node; let z : Station := 0; let w : Word := BitVec.ofNat 16 (13 * 4 + 1);
      let t := after (.overrideAccepted z w) s
      s.hears = true ∧ s.ctl.mode.applies = true ∧ field w 7 2 ≠ s.station ∧ field w 7 2 ≠ 0
        ∧ t.role.override = s.role.override ∧ z.toNat ≠ s.station)
    ∧ (let s := node; let z : Station := 0; let w : Word := BitVec.ofNat 16 (12 * 4 + 1);
      let t := after (.overrideAccepted z w) s
      s.hears = true ∧ s.ctl.mode.applies = true ∧ (field w 7 2 = s.station ∨ field w 7 2 = 0)
        ∧ t.role.override ≠ s.role.override ∧ z.toNat ≠ s.station ∧ s.ctl.mode ≠ .mute)
    ∧ (let s := node; let z : Station := 63; let w : Word := 2; let t := after (.overrideAccepted z w) s;
      s.hears = true ∧ s.ctl.mode.applies = true ∧ (field w 7 2 = s.station ∨ field w 7 2 = 0)
        ∧ t.role.override ≠ s.role.override ∧ z.toNat ≠ s.station ∧ s.ctl.mode ≠ .mute)
    ∧ (let s := forced node; let z : Station := 63; let w : Word := 3;
      let t := after (.overrideAccepted z w) s
      s.hears = true ∧ s.ctl.mode.applies = true ∧ (field w 7 2 = s.station ∨ field w 7 2 = 0)
        ∧ t.role.override ≠ s.role.override ∧ z.toNat ≠ s.station ∧ s.ctl.mode ≠ .mute)
    ∧ (let s := node; let z : Station := 1; let w : Word := 3; let t := after (.overrideAccepted z w) s;
      s.hears = true ∧ s.ctl.mode.applies = true ∧ (field w 7 2 = s.station ∨ field w 7 2 = 0)
        ∧ t.role.override = s.role.override ∧ z.toNat ≠ s.station)
    ∧ (let s := node; let z : Station := 12; let w : Word := 0;
      s.hears = true ∧ s.ctl.mode.applies = true ∧ z.toNat = s.station) := by decide +kernel

theorem witness_DeclareCaseTable :
    (let s := node; let z : Station := 0; let ws : List Word := [0];
      ListLaw s.reg.records ∧ s.hears = true ∧ s.ctl.mode.applies = true ∧ (z = 0 ∨ readDeclare z.toNat ws = none))
    ∧ (let s := node; let z : Station := 13; let ws : List Word := [0, 0];
      ListLaw s.reg.records ∧ s.hears = true ∧ s.ctl.mode.applies = true ∧ (z = 0 ∨ readDeclare z.toNat ws = none))
    ∧ (let s := rest; let z : Station := 13; let ws : List Word := [0]; let ns : List Nat := [];
      let t := after (.fireDeclareAccepted z ws) s
      ListLaw s.reg.records ∧ s.hears = true ∧ s.ctl.mode.applies = true ∧ z ≠ 0
        ∧ readDeclare z.toNat ws = some ns ∧ t.reg.records ≠ s.reg.records)
    ∧ (let s := node; let z : Station := 13; let ws : List Word := [BitVec.ofNat 16 (256 + 12)];
      let ns : List Nat := [12]; let t := after (.fireDeclareAccepted z ws) s
      ListLaw s.reg.records ∧ s.hears = true ∧ s.ctl.mode.applies = true ∧ z ≠ 0
        ∧ readDeclare z.toNat ws = some ns ∧ t.reg.records ≠ s.reg.records)
    ∧ (let s := crowded 15; let z : Station := 63; let ws : List Word := [0]; let ns : List Nat := [];
      let t := after (.fireDeclareAccepted z ws) s
      ListLaw s.reg.records ∧ s.hears = true ∧ s.ctl.mode.applies = true ∧ z ≠ 0
        ∧ readDeclare z.toNat ws = some ns ∧ t.reg.records ≠ s.reg.records)
    ∧ (let s := crowded 16; let z : Station := 63; let ws : List Word := [0]; let ns : List Nat := [];
      ListLaw s.reg.records ∧ s.hears = true ∧ s.ctl.mode.applies = true ∧ z ≠ 0 ∧ readDeclare z.toNat ws = some ns)
    ∧ (let s := sendingDeclare; let z : Station := 12; let ws : List Word := [BitVec.ofNat 16 (256 + 13)];
      ListLaw s.reg.records ∧ s.hears = true ∧ s.ctl.mode.applies = true
        ∧ isOwnFrame { cls := 2, station := z, words := ws } s = true) :=
  ⟨⟨law (decListLaw _) (by decide +kernel), by decide +kernel⟩,
    ⟨law (decListLaw _) (by decide +kernel), by decide +kernel⟩,
    ⟨law (decListLaw _) (by decide +kernel), by decide +kernel⟩,
    ⟨law (decListLaw _) (by decide +kernel), by decide +kernel⟩,
    ⟨law (decListLaw _) (by decide +kernel), by decide +kernel⟩,
    ⟨law (decListLaw _) (by decide +kernel), by decide +kernel⟩,
    ⟨law (decListLaw _) (by decide +kernel), by decide +kernel⟩⟩

theorem witness_PeerClaimRaisesTheHoldOff :
    (let s := lock; let u : Bool := true; let z : Station := 13; let w : Word := 5;
      LinkLaw s ∧ s.hears = true
        ∧ isOwnFrame { cls := if u then 3 else 4, station := z, words := [w] } s = false ∧ s.ctl.mode.applies = false)
    ∧ (let s := node; let u : Bool := false; let z : Station := 13; let w : Word := 0;
      LinkLaw s ∧ RoleLaw s ∧ s.hears = true
        ∧ isOwnFrame { cls := if u then 3 else 4, station := z, words := [w] } s = false
        ∧ s.ctl.mode.applies = true ∧ z.toNat ≠ s.station)
    ∧ (let s := claiming; let u : Bool := true; let z : Station := 13; let w : Word := 63;
      LinkLaw s ∧ s.hears = true
        ∧ isOwnFrame { cls := if u then 3 else 4, station := z, words := [w] } s = false
        ∧ s.ctl.mode.applies = true ∧ s.starts.claim ≠ .absent)
    ∧ (let s := node; let u : Bool := true; let z : Station := 12; let w : Word := 60;
      LinkLaw s ∧ s.hears = true
        ∧ isOwnFrame { cls := if u then 3 else 4, station := z, words := [w] } s = false ∧ z.toNat = s.station
        ∧ s.ctl.mode.applies = true) :=
  ⟨⟨law (decLinkLaw _) (by decide +kernel), by decide +kernel⟩,
    ⟨law (decLinkLaw _) (by decide +kernel), law (decRoleLaw _) (by decide +kernel), by decide +kernel⟩,
    ⟨law (decLinkLaw _) (by decide +kernel), by decide +kernel⟩,
    ⟨law (decLinkLaw _) (by decide +kernel), by decide +kernel⟩⟩

theorem witness_OwnClaimStartsTheCapturedFan :
    (let s := sendingClaim; let u : Bool := true; let v : Bool := true; let z : Station := 12;
      let w : Word := 528; let c : ChannelNo := 1; let h : Nat := 16; let d : ChannelNo := 0
      s.hears = true
        ∧ s.link.attempt = some { kind := .claim, frame := { cls := if u then 3 else 4, station := z, words := [w] } }
          ∧ s.starts.claim = .sending c v h ∧ waitsForSlot s c = true ∧ (s.ch c).target = .on ∧ s.meas.supply ≠ .fail
            ∧ d ≠ c)
    ∧ (let s := failing sendingClaim; let u : Bool := true; let v : Bool := true; let z : Station := 12;
      let w : Word := 528; let c : ChannelNo := 1; let h : Nat := 16
      s.hears = true
        ∧ s.link.attempt = some { kind := .claim, frame := { cls := if u then 3 else 4, station := z, words := [w] } }
          ∧ s.starts.claim = .sending c v h
            ∧ (waitsForSlot s c = false ∨ s.meas.supply = .fail ∨ (s.ch c).target = .off)) := by decide +kernel

theorem witness_PeerStatusMovesItsEntry :
    (let s := node; let z : Station := 13; let w1 : Word := 0x4000; let w2 : Word := 0; let w3 : Word := 0;
      let w4 : Word := 0
      s.hears = true ∧ s.ctl.mode.applies = true ∧ z ≠ 0 ∧ z.toNat ≠ s.station
        ∧ isOwnFrame { cls := 5, station := z, words := [w1, w2, w3, w4] } s = false
        ∧ ((s.peer z.toNat).presence = .unknown ∨ (s.peer z.toNat).presence = .lost) ∧ z.toNat ∈ s.cfg.neighbours)
    ∧ (let s := heard .lost 0 none node; let z : Station := 13; let w1 : Word := 0x4000; let w2 : Word := 0;
      let w3 : Word := 0; let w4 : Word := 0
      s.hears = true ∧ s.ctl.mode.applies = true ∧ z ≠ 0 ∧ z.toNat ≠ s.station
        ∧ isOwnFrame { cls := 5, station := z, words := [w1, w2, w3, w4] } s = false
        ∧ ((s.peer z.toNat).presence = .unknown ∨ (s.peer z.toNat).presence = .lost))
    ∧ (let s := heard .seen 3 none node; let z : Station := 13; let w1 : Word := 0x4000; let w2 : Word := 0;
      let w3 : Word := 0; let w4 : Word := 0
      s.hears = true ∧ s.ctl.mode.applies = true ∧ z ≠ 0 ∧ z.toNat ≠ s.station
        ∧ isOwnFrame { cls := 5, station := z, words := [w1, w2, w3, w4] } s = false
        ∧ (s.peer z.toNat).presence = .seen ∧ (s.peer z.toNat).spacing = none)
    ∧ (let s := heard .seen 2 (some 1) node; let z : Station := 13; let w1 : Word := 0x4000;
      let w2 : Word := 0; let w3 : Word := 0; let w4 : Word := 0
      s.hears = true ∧ s.ctl.mode.applies = true ∧ z ≠ 0 ∧ z.toNat ≠ s.station
        ∧ isOwnFrame { cls := 5, station := z, words := [w1, w2, w3, w4] } s = false
        ∧ (s.peer z.toNat).presence = .seen ∧ (s.peer z.toNat).spacing.isSome = true ∧ (s.peer z.toNat).count < 3)
    ∧ (let s := heard .seen 3 (some 1) node; let z : Station := 13; let w1 : Word := 0x4000;
      let w2 : Word := 0; let w3 : Word := 0; let w4 : Word := 0
      s.hears = true ∧ s.ctl.mode.applies = true ∧ z ≠ 0 ∧ z.toNat ≠ s.station
        ∧ isOwnFrame { cls := 5, station := z, words := [w1, w2, w3, w4] } s = false
        ∧ (s.peer z.toNat).presence = .seen ∧ (s.peer z.toNat).spacing.isSome = true ∧ (s.peer z.toNat).count = 3)
    ∧ (let s := heard .present 4 none node; let z : Station := 13; let w1 : Word := 0x4000;
      let w2 : Word := 0; let w3 : Word := 0; let w4 : Word := 0
      s.hears = true ∧ s.ctl.mode.applies = true ∧ z ≠ 0 ∧ z.toNat ≠ s.station
        ∧ isOwnFrame { cls := 5, station := z, words := [w1, w2, w3, w4] } s = false
        ∧ (s.peer z.toNat).presence = .present)
    ∧ (let s := besideThirteen; let z : Station := 13; let w1 : Word := 0x4080; let w2 : Word := BitVec.ofNat 16 (5 * 256 + 6);
      let w3 : Word := 0; let w4 : Word := 0; let c : ChannelNo := 2
      s.hears = true ∧ s.ctl.mode.applies = true ∧ z ≠ 0 ∧ z.toNat ≠ s.station
        ∧ isOwnFrame { cls := 5, station := z, words := [w1, w2, w3, w4] } s = false
        ∧ z.toNat ∈ s.cfg.neighbours ∧ (s.chCfg c).kind ≠ .unused)
    ∧ (let s := node; let z : Station := 14; let w1 : Word := 0x4000; let w2 : Word := 0; let w3 : Word := 0;
      let w4 : Word := 0; let t := after (.statusAccepted z w1 w2 w3 w4) s
      s.hears = true ∧ s.ctl.mode.applies = true ∧ z ≠ 0 ∧ z.toNat ≠ s.station
        ∧ isOwnFrame { cls := 5, station := z, words := [w1, w2, w3, w4] } s = false
        ∧ z.toNat ∉ s.cfg.neighbours ∧ t.reg.records = s.reg.records)
    ∧ (let s := rest; let z : Station := 14; let w1 : Word := 0x4000; let w2 : Word := BitVec.ofNat 16 (13 * 256);
      let w3 : Word := 0; let w4 : Word := 0; let t := after (.statusAccepted z w1 w2 w3 w4) s
      s.hears = true ∧ s.ctl.mode.applies = true ∧ z ≠ 0 ∧ z.toNat ≠ s.station
        ∧ isOwnFrame { cls := 5, station := z, words := [w1, w2, w3, w4] } s = false
        ∧ z.toNat ∉ s.cfg.neighbours ∧ t.reg.records ≠ s.reg.records ∧ t.role.assist = true) := by
  iterate 8 refine ⟨by decide +kernel, ?_⟩
  decide +kernel

theorem witness_StatusViewAtTheRegister :
    (let s := node; let z : Station := 13; let w1 : Word := 0; let w2 : Word := 0; let w3 : Word := 0;
      let w4 : Word := 0
      ListLaw s.reg.records ∧ s.hears = true ∧ s.ctl.mode.applies = true ∧ z ≠ 0 ∧ field w2 13 8 = 0)
    ∧ (let s := rest; let z : Station := 13; let w1 : Word := 0;
      let w2 : Word := BitVec.ofNat 16 (40 * 256 + 41); let w3 : Word := 0; let w4 : Word := 0
      let v : View := { primary := 40, extensions := [41] }
      let t := after (.statusAccepted z w1 w2 w3 w4) s
      ListLaw s.reg.records ∧ s.hears = true ∧ s.ctl.mode.applies = true ∧ z ≠ 0 ∧ readView w2 w3 = some v
        ∧ s.reg.records = [] ∧ t.reg.records ≠ s.reg.records)
    ∧ (let s := node; let z : Station := 12; let w1 : Word := 0; let w2 : Word := BitVec.ofNat 16 (12 * 256);
      let w3 : Word := 0; let w4 : Word := 0; let v : View := { primary := 12, extensions := [] }
      ListLaw s.reg.records ∧ s.hears = true ∧ s.ctl.mode.applies = true ∧ z ≠ 0 ∧ readView w2 w3 = some v
        ∧ s.reg.records ≠ [] ∧ agrees v s.reg.records = true)
    ∧ (let s := node; let z : Station := 63; let w1 : Word := 0;
      let w2 : Word := BitVec.ofNat 16 (40 * 256 + 41); let w3 : Word := BitVec.ofNat 16 (63 * 256)
      let w4 : Word := 0; let v : View := { primary := 40, extensions := [41, 63] }
      let t := after (.statusAccepted z w1 w2 w3 w4) s
      ListLaw s.reg.records ∧ s.hears = true ∧ s.ctl.mode.applies = true ∧ z ≠ 0 ∧ readView w2 w3 = some v
        ∧ s.reg.records ≠ [] ∧ agrees v s.reg.records = false ∧ t.reg.splitLatch = true ∧ s.reg.splitLatch = false) :=
  ⟨⟨law (decListLaw _) (by decide +kernel), by decide +kernel⟩,
    ⟨law (decListLaw _) (by decide +kernel), by decide +kernel⟩,
    ⟨law (decListLaw _) (by decide +kernel), by decide +kernel⟩,
    ⟨law (decListLaw _) (by decide +kernel), by decide +kernel⟩⟩

theorem witness_OwnStatusAcceptedRestartsThePeriod :
    (let s := sendingStatus latched; let z : Station := 12; let w1 : Word := wordOf latched 0;
      let w2 : Word := wordOf latched 1; let w3 : Word := wordOf latched 2; let w4 : Word := wordOf latched 3
      ConditionLaw s ∧ s.hears = true
        ∧ s.link.attempt = some { kind := .status, frame := { cls := 5, station := z, words := [w1, w2, w3, w4] } }
          ∧ s.ctl.mode.sends = true ∧ s.status.earlyPending = false
            ∧ (viewFrame s.station (readView w2 w3) s.reg = s.reg ∨ z = 0 ∨ s.ctl.mode = .lockout)
              ∧ s.reg.fullLatch = true)
    ∧ (let s := early (sendingStatus node); let z : Station := 12; let w1 : Word := wordOf node 0;
      let w2 : Word := wordOf node 1; let w3 : Word := wordOf node 2; let w4 : Word := wordOf node 3
      s.hears = true
        ∧ s.link.attempt = some { kind := .status, frame := { cls := 5, station := z, words := [w1, w2, w3, w4] } }
          ∧ s.ctl.mode.sends = true ∧ s.status.earlyPending = true)
    ∧ (let s := sendingStatus lock; let z : Station := 12; let w1 : Word := wordOf lock 0;
      let w2 : Word := wordOf lock 1; let w3 : Word := wordOf lock 2; let w4 : Word := wordOf lock 3
      let r : FirstFault := { cond := plainCond .configBad, fresh := true, filling := 1 }
      s.hears = true
        ∧ s.link.attempt = some { kind := .status, frame := { cls := 5, station := z, words := [w1, w2, w3, w4] } }
          ∧ s.ctl.mode.sends = true ∧ s.trouble.record = some r ∧ r.acked = false) :=
  ⟨⟨condOk_spec (by decide +kernel) (by decide +kernel) (by decide +kernel), by decide +kernel⟩, by decide +kernel,
    by decide +kernel⟩

theorem witness_OtherFramesReachTheConflictDetector :
    (let s := node; let k : FrameClass := 6; let z : Station := 13; let ws : List Word := [0];
      s.hears = true ∧ s.link.attempt = none ∧ (z.toNat ≠ s.station ∨ s.ctl.mode.applies = false)
        ∧ startTests s = s ∧ s.sequencing = true)
    ∧ (let s := lock; let k : FrameClass := 7; let z : Station := 12; let ws : List Word := [0];
      s.hears = true ∧ s.link.attempt = none ∧ (z.toNat ≠ s.station ∨ s.ctl.mode.applies = false))
    ∧ (let s := node; let k : FrameClass := 0; let z : Station := 12; let ws : List Word := [0, 0];
      s.hears = true ∧ s.link.attempt = none ∧ z.toNat = s.station ∧ (s.ctl.mode = .listen ∨ s.ctl.mode = .active))
    ∧ (let s := lis; let k : FrameClass := 5; let z : Station := 12; let ws : List Word := [0];
      s.hears = true ∧ s.link.attempt = none ∧ z.toNat = s.station ∧ (s.ctl.mode = .listen ∨ s.ctl.mode = .active))
    ∧ (let s := muted .active node; let k : FrameClass := 7; let z : Station := 12; let ws : List Word := [0];
      s.hears = true ∧ s.link.attempt = none ∧ z.toNat = s.station ∧ s.ctl.mode = .mute) := by decide +kernel

theorem witness_IsolatedExpiryClassifiesOwnZone :
    (let s := owing rest; let t := after .isolatedDeclarationTimerExpiry s;
      ListLaw s.reg.records ∧ s.inReset = false ∧ s.reg.isoTimer.isSome = true ∧ s.ctl.mode.applies = true
        ∧ t.reg.records ≠ s.reg.records)
    ∧ (let s := owing (crowded 16);
      ListLaw s.reg.records ∧ s.inReset = false ∧ s.reg.isoTimer.isSome = true) :=
  ⟨⟨law (decListLaw _) (by decide +kernel), by decide +kernel⟩,
    ⟨law (decListLaw _) (by decide +kernel), by decide +kernel⟩⟩

theorem witness_AlarmChangeReachesItsBlocks :
    (let s := held node; let a : Bool := true;
      s.panel.alarm.level ≠ a ∧ s.inReset = true)
    ∧ (let s := alarmed node; let a : Bool := false;
      s.panel.alarm.level ≠ a ∧ s.inReset = false ∧ a = false ∧ (s.ctl.mode.applies = false
        ∨ holdsZone s.station s.reg.records = true ∨ s.reg.owed = true) ∧ s.ctl.mode ≠ .listen
        ∧ s.ctl.mode.sends = true)
    ∧ (let s := rest; let a : Bool := true;
      s.panel.alarm.level ≠ a ∧ s.inReset = false ∧ a = true ∧ s.ctl.mode.applies = true
        ∧ holdsZone s.station s.reg.records = false ∧ s.reg.owed = false)
    ∧ (let s := muted .active rest; let a : Bool := true;
      s.panel.alarm.level ≠ a ∧ s.inReset = false ∧ a = true ∧ s.ctl.mode.applies = true
        ∧ holdsZone s.station s.reg.records = false ∧ s.reg.owed = false)
    ∧ (let s := conf; let a : Bool := true;
      s.panel.alarm.level ≠ a ∧ s.inReset = false ∧ (s.ctl.mode.applies = false
        ∨ holdsZone s.station s.reg.records = true ∨ s.reg.owed = true))
    ∧ (let s := lis; let a : Bool := true;
      s.panel.alarm.level ≠ a ∧ s.inReset = false ∧ a = true ∧ s.ctl.mode.applies = true
        ∧ holdsZone s.station s.reg.records = false ∧ s.reg.owed = false ∧ s.ctl.mode = .listen) := by decide +kernel

theorem witness_AckPulseRefillsTheRecord :
    (let s := node; let b : Bool := false
      s.panel.ack.taken = false ∧ s.inReset = false ∧ s.trouble.record = none)
    ∧ (let s := recorded [] node; let b : Bool := true
      s.panel.ack.taken = false ∧ s.inReset = false ∧ s.trouble.record.isSome = true ∧ s.trouble.active = [])
    ∧ (let s := recorded [plainCond .txFail, plainCond .registerFull] node; let b : Bool := true
      let c : Cond := plainCond .txFail; let cs : List Cond := [plainCond .registerFull];
      s.panel.ack.taken = false ∧ s.inReset = false ∧ s.trouble.record.isSome = true
        ∧ s.trouble.active = c :: cs ∧ s.ctl.mode.sends = true ∧ b = true ∧ c ∈ s.trouble.active)
    ∧ (let s := held (recorded [] node);
      s.panel.ack.taken = false ∧ s.inReset = true ∧ s.trouble.record.isSome = true)
    ∧ (let s := after .ackPulse (recorded [] node);
      s.panel.ack.taken = true ∧ s.inReset = false) := by decide +kernel

theorem witness_PeerTimersExpire :
    (let s := heard .seen 1 (some 1) node; let z : Station := 13;
      s.inReset = false ∧ (s.peer z.toNat).silence.isSome = true ∧ z.toNat ∈ s.cfg.neighbours
        ∧ s.ctl.mode.applies = true)
    ∧ (let s := heardFrom 63 node; let z : Station := 63;
      s.inReset = false ∧ (s.peer z.toNat).silence.isSome = true ∧ z.toNat ∉ s.cfg.neighbours) := by decide +kernel

theorem witness_HoldOffExpiryClaimsOrStarts :
    (let s := holding 0 waiting;
      s.inReset = false ∧ s.starts.holdOff.isSome = true ∧ s.ctl.mode = .active ∧ s.link.txFail = false
        ∧ s.starts.claim = .absent ∧ lowestWaiting s ≠ none ∧ s.meas.supply ≠ .fail)
    ∧ (let s := cut (holding 0 waiting); let c : ChannelNo := 1;
      s.inReset = false ∧ s.starts.holdOff.isSome = true ∧ s.sequencing = true ∧ (s.ctl.mode = .mute
        ∨ s.link.txFail = true) ∧ lowestWaiting s = some c ∧ s.meas.supply ≠ .fail ∧ s.starts.claim = .absent)
    ∧ (let s := holding 0 (muted .active waiting); let c : ChannelNo := 1;
      s.inReset = false ∧ s.starts.holdOff.isSome = true ∧ s.sequencing = true ∧ (s.ctl.mode = .mute
        ∨ s.link.txFail = true) ∧ lowestWaiting s = some c ∧ s.meas.supply ≠ .fail ∧ s.starts.claim = .absent)
    ∧ (let s := holding 0 node;
      s.inReset = false ∧ s.starts.holdOff.isSome = true ∧ s.starts.claim = .absent ∧ (lowestWaiting s = none
        ∨ s.meas.supply = .fail ∨ (s.sequencing = false ∧ s.ctl.mode ≠ .active))) := by decide +kernel

theorem witness_FanTimersExpire :
    (let s := failing (fanAt .starting (some 0) none .on); let c : ChannelNo := 1; let r : Nat := 0;
      let d : Option Nat := none
      s.inReset = false ∧ (s.ch c).seq = .fan .starting (some r) d ∧ s.meas.supply = .fail)
    ∧ (let s := fanAt .starting (some 0) none .on; let c : ChannelNo := 1; let r : Nat := 0;
      let d : Option Nat := none; let e : ChannelNo := 0
      s.inReset = false ∧ (s.ch c).seq = .fan .starting (some r) d ∧ s.meas.supply ≠ .fail
        ∧ s.role.role.incident = true ∧ (s.chCfg c).troubleEnable = true ∧ e ≠ c)
    ∧ (let s := calm (fanAt .starting (some 0) none .on); let c : ChannelNo := 1; let r : Nat := 0;
      let d : Option Nat := none
      s.inReset = false ∧ (s.ch c).seq = .fan .starting (some r) d ∧ s.meas.supply ≠ .fail
        ∧ s.role.role.incident = false)
    ∧ (let s := supplyFanAt node; let c : ChannelNo := 2; let r : Nat := 0; let d : Option Nat := none;
      s.inReset = false ∧ (s.ch c).seq = .fan .starting (some r) d ∧ s.meas.supply ≠ .fail
        ∧ (s.chCfg c).troubleEnable = false) := by decide +kernel

theorem witness_RunDownExpiryReturnsToStopped :
    (let s := fanAt .stopping none (some 0) .off; let c : ChannelNo := 1; let r : Nat := 0;
      let p : Option Nat := none
      s.inReset = false ∧ (s.ch c).seq = .fan .stopping p (some r) ∧ (s.ch c).target = .off)
    ∧ (let s := damperAt .jammed none (fanAt .stopping none (some 0) .on); let c : ChannelNo := 1;
      let r : Nat := 0; let p : Option Nat := none
      s.inReset = false ∧ (s.ch c).seq = .fan .stopping p (some r) ∧ (s.ch c).target = .on
        ∧ interlockFaulted s c = true)
    ∧ (let s := damperAt .opening (some 1) (fanAt .stopping none (some 0) .on); let c : ChannelNo := 1;
      let r : Nat := 0; let p : Option Nat := none
      s.inReset = false ∧ (s.ch c).seq = .fan .stopping p (some r) ∧ (s.ch c).target = .on
        ∧ interlockFaulted s c = false ∧ interlocksAtTarget s c = false)
    ∧ (let s := fanAt .stopping none (some 0) .on; let c : ChannelNo := 1; let r : Nat := 0;
      let p : Option Nat := none; let e : ChannelNo := 0
      s.inReset = false ∧ (s.ch c).seq = .fan .stopping p (some r) ∧ (s.ch c).target = .on
        ∧ interlockFaulted s c = false ∧ interlocksAtTarget s c = true ∧ (s.starts.holdOff.isSome = true
        ∨ s.meas.supply = .fail ∨ (s.ctl.mode = .active ∧ s.link.txFail = false)) ∧ s.starts.holdOff = none
        ∧ s.meas.supply ≠ .fail ∧ s.ctl.mode = .active ∧ s.link.txFail = false ∧ s.starts.claim = .absent
        ∧ s.ctl.mode ≠ .mute ∧ e ≠ c) := by decide +kernel

theorem witness_ProvingSwitchMovesTheFan :
    (let s := held (fanAt .running none none .on); let c : ChannelNo := 1; let m : Bool := true;
      let st : FanState := .running; let p : Option Nat := none; let r : Option Nat := none
      (s.ch c).inA.level ≠ m ∧ (s.ch c).seq = .fan st p r ∧ (s.inReset = true ∨ (s.chCfg c).proving ≠ none))
    ∧ (let s := supplyFanAt node; let c : ChannelNo := 2; let m : Bool := true;
      let st : FanState := .starting; let p : Option Nat := some 0; let r : Option Nat := none
      (s.ch c).inA.level ≠ m ∧ (s.ch c).seq = .fan st p r ∧ (s.inReset = true ∨ (s.chCfg c).proving ≠ none))
    ∧ (let s := fanAt .starting (some 1) none .on; let c : ChannelNo := 1; let m : Bool := true;
      let st : FanState := .starting; let p : Option Nat := some 1; let r : Option Nat := none
      let e : ChannelNo := 0
      (s.ch c).inA.level ≠ m ∧ (s.ch c).seq = .fan st p r ∧ s.inReset = false ∧ (s.chCfg c).proving = none
        ∧ m = true ∧ (st = .starting ∨ st = .proveFail ∨ st = .runLost) ∧ e ≠ c)
    ∧ (let s := switchMade (fanAt .running none none .on); let c : ChannelNo := 1; let m : Bool := false;
      let st : FanState := .running; let p : Option Nat := none; let r : Option Nat := none
      (s.ch c).inA.level ≠ m ∧ (s.ch c).seq = .fan st p r ∧ s.inReset = false ∧ (s.chCfg c).proving = none
        ∧ m = false ∧ st = .running ∧ s.role.role.incident = true)
    ∧ (let s := calm (switchMade (fanAt .running none none .on)); let c : ChannelNo := 1;
      let m : Bool := false; let st : FanState := .running; let p : Option Nat := none
      let r : Option Nat := none
      (s.ch c).inA.level ≠ m ∧ (s.ch c).seq = .fan st p r ∧ s.inReset = false ∧ (s.chCfg c).proving = none
        ∧ m = false ∧ st = .running ∧ s.role.role.incident = false)
    ∧ (let s := switchMade (fanAt .proveFail none none .on); let c : ChannelNo := 1; let m : Bool := false;
      let st : FanState := .proveFail; let p : Option Nat := none; let r : Option Nat := none
      (s.ch c).inA.level ≠ m ∧ (s.ch c).seq = .fan st p r ∧ ((m = true ∧ st ≠ .starting ∧ st ≠ .proveFail
        ∧ st ≠ .runLost) ∨ (m = false ∧ st ≠ .running))) := by decide +kernel

theorem witness_DamperLimitTables :
    (let s := held node; let c : ChannelNo := 0; let i : Input := .a; let m : Bool := true;
      let st : TravelState := .opening; let tr : Option Nat := some 40000
      let u : State := storeInput 0 .a true s
      ((s.ch c).input i).level ≠ m ∧ (s.ch c).seq = .damper st tr ∧ u = storeInput c i m s ∧ s.inReset = true)
    ∧ (let s := damperMade .b (damperAt .opening (some 40000) node); let c : ChannelNo := 0;
      let i : Input := .a; let m : Bool := true; let st : TravelState := .opening
      let tr : Option Nat := some 40000; let u : State := storeInput 0 .a true s
      ((s.ch c).input i).level ≠ m ∧ (s.ch c).seq = .damper st tr ∧ u = storeInput c i m s ∧ s.inReset = false
        ∧ (u.ch c).openLimit = true ∧ (u.ch c).closedLimit = true)
    ∧ (let s := node; let c : ChannelNo := 0; let i : Input := .a; let m : Bool := true;
      let st : TravelState := .opening; let tr : Option Nat := some 40000
      let u : State := storeInput 0 .a true s
      ChannelsLaw s ∧ ((s.ch c).input i).level ≠ m ∧ (s.ch c).seq = .damper st tr ∧ u = storeInput c i m s
        ∧ s.inReset = false ∧ (u.ch c).ownLimit = true ∧ (u.ch c).otherLimit = false ∧ (st = .opening
        ∨ st = .closing ∨ st = .jammed ∨ st = .limitConflict))
    ∧ (let s := waiting; let c : ChannelNo := 0; let i : Input := .a; let m : Bool := false;
      let st : TravelState := .atOpen; let tr : Option Nat := none; let u : State := storeInput 0 .a false s
      ((s.ch c).input i).level ≠ m ∧ (s.ch c).seq = .damper st tr ∧ u = storeInput c i m s ∧ s.inReset = false
        ∧ (u.ch c).ownLimit = false ∧ (st = .atOpen ∨ st = .atClosed ∨ st = .limitConflict))
    ∧ (let s := node; let c : ChannelNo := 0; let i : Input := .b; let m : Bool := true;
      let st : TravelState := .opening; let tr : Option Nat := some 40000
      let u : State := storeInput 0 .b true s; let e : ChannelNo := 3
      ((s.ch c).input i).level ≠ m ∧ (s.ch c).seq = .damper st tr ∧ u = storeInput c i m s ∧ s.inReset = false
        ∧ (u.ch c).ownLimit = false ∧ (st = .opening ∨ st = .closing ∨ st = .jammed) ∧ e ≠ c
        ∧ (s.chCfg c).kind.isDamper = true ∧ ¬ c ∈ (s.chCfg e).interlocks ∧ (s.ch e).seq.fanState = none) :=
  ⟨by decide +kernel,
    by decide +kernel,
    ⟨law (decChannelsLaw _) (by decide +kernel), by decide +kernel⟩,
    by decide +kernel,
    by decide +kernel⟩

theorem witness_TravelExpiryJams :
    (let s := node; let c : ChannelNo := 0; let st : TravelState := .opening; let r : Nat := 40000;
      let e : ChannelNo := 1
      s.inReset = false ∧ (s.ch c).seq = .damper st (some r) ∧ (st = .opening ∨ st = .closing)
        ∧ travelRate (s.chCfg c).kind st s.meas.supply ≠ 0 ∧ (s.chCfg c).troubleEnable = true
        ∧ c ∈ (s.chCfg e).interlocks ∧ ((s.ch e).seq = .fan .awaitingInterlock none none
        ∨ (s.ch e).seq = .fan .awaitingSlot none none))
    ∧ (let s := failing node; let c : ChannelNo := 0; let st : TravelState := .opening; let r : Nat := 40000;
      s.inReset = false ∧ (s.ch c).seq = .damper st (some r) ∧ (st = .opening ∨ st = .closing)
        ∧ travelRate (s.chCfg c).kind st s.meas.supply = 0)
    ∧ (let s := failing node; let c : ChannelNo := 3; let st : TravelState := .closing; let r : Nat := 30000;
      s.inReset = false ∧ (s.ch c).seq = .damper st (some r) ∧ (st = .opening ∨ st = .closing)
        ∧ travelRate (s.chCfg c).kind st s.meas.supply ≠ 0) := by decide +kernel

theorem witness_GraceExpiryLosesContainment :
    (let s := node; let r : Nat := 60000;
      TroubleLaw s ∧ s.inReset = false ∧ s.contain = { state := .pending, grace := some r }
        ∧ s.ctl.mode.sends = true ∧ s.trouble.record = none)
    ∧ (let s := recorded [] node; let r : Nat := 60000;
      s.inReset = false ∧ s.contain = { state := .pending, grace := some r } ∧ s.trouble.record.isSome = true) :=
  ⟨⟨law (decTroubleLaw _) (by decide +kernel), by decide +kernel⟩,
    by decide +kernel⟩

theorem witness_PairMovesItsChannel :
    (let s := paired (pstate 4 3 true false 0 0) node; let p : PressureNo := 0; let a : Code := 41250;
      let b : Code := 524287; let q : PressureNo := 1; let c : ChannelNo := 1
      let t := after (.pairComplete b) s
      s.inReset = false ∧ s.meas.scan = .convB p a ∧ q ≠ p ∧ saturatedPair a b = true
        ∧ (s.pressure p).fault = true ∧ (t.pressure p).proven = (s.pressure p).proven
        ∧ (t.pressure p).fault = (s.pressure p).fault ∧ (s.chCfg c).proving ≠ some p ∧ (s.prCfg p).role ≠ .boundary)
    ∧ (let s := paired (pstate 2 0 false true 0 0) node; let p : PressureNo := 0; let a : Code := 41250;
      let b : Code := 524287
      s.inReset = false ∧ s.meas.scan = .convB p a ∧ saturatedPair a b = true ∧ (s.pressure p).fault = false
        ∧ (s.pressure p).satCount < 3)
    ∧ (let s := paired (pstate 3 0 false true 0 0) node; let p : PressureNo := 0; let a : Code := 41250;
      let b : Code := 524287; let c : ChannelNo := 2; let t := after (.pairComplete b) s
      s.inReset = false ∧ s.meas.scan = .convB p a ∧ saturatedPair a b = true ∧ (s.pressure p).fault = false
        ∧ (s.pressure p).satCount = 3 ∧ (t.pressure p).proven ≠ (s.pressure p).proven
        ∧ (s.prCfg p).role = .proving ∧ (s.chCfg c).proving = some p)
    ∧ (let s := paired (pstate 4 2 true false 0 0) node; let p : PressureNo := 0; let a : Code := 41250;
      let b : Code := -38730
      s.inReset = false ∧ s.meas.scan = .convB p a ∧ saturatedPair a b = false ∧ (s.pressure p).fault = true
        ∧ (s.pressure p).recovery < 3)
    ∧ (let s := paired (pstate 4 3 true false 0 0) node; let p : PressureNo := 0; let a : Code := 41250;
      let b : Code := -38730
      s.inReset = false ∧ s.meas.scan = .convB p a ∧ saturatedPair a b = false ∧ (s.pressure p).fault = true
        ∧ (s.pressure p).recovery = 3)
    ∧ (let s := paired (pstate 0 0 false false 3 0) node; let p : PressureNo := 0; let a : Code := 41250;
      let b : Code := -38730; let c : ChannelNo := 2; let t := after (.pairComplete b) s
      s.inReset = false ∧ s.meas.scan = .convB p a ∧ saturatedPair a b = false ∧ (s.pressure p).fault = false
        ∧ (t.pressure p).proven ≠ (s.pressure p).proven ∧ (s.prCfg p).role = .proving ∧ (s.chCfg c).proving = some p)
    ∧ (let s := boundaryPair; let p : PressureNo := 1; let a : Code := -41250; let b : Code := 41250;
      let t := after (.pairComplete b) s
      s.inReset = false ∧ s.meas.scan = .convB p a ∧ (t.pressure p).proven ≠ (s.pressure p).proven
        ∧ (s.prCfg p).role = .boundary ∧ (s.prCfg p).role ≠ .proving ∧ boundaryTest t = true)
    ∧ (let s := node; let p : PressureNo := 0; let s := { s with meas := { s.meas with scan := .convA p } };
      s.inReset = false ∧ s.meas.scan = .convA p) := by
  iterate 7 refine ⟨by decide +kernel, ?_⟩
  decide +kernel

theorem witness_SupplySampleMovesTheSupply :
    (let s := supplyStep node; let k : Code := 268000; let v : Nat := 159;
      let t := after (.supplySample k) s
      TroubleLaw s ∧ s.inReset = false ∧ s.meas.scan = .supply
        ∧ v = min 400 ((max 0 k.toInt).toNat * s.cfg.supplyGain / 65536) ∧ v < 160
        ∧ t.meas.supply ≠ s.meas.supply ∧ t.meas.supply = .fail ∧ s.meas.supply ≠ .fail ∧ s.trouble.record = none)
    ∧ (let s := supplyStep node; let k : Code := 269000; let v : Nat := 160;
      s.inReset = false ∧ s.meas.scan = .supply
        ∧ v = min 400 ((max 0 k.toInt).toNat * s.cfg.supplyGain / 65536) ∧ 160 ≤ v ∧ v < 170)
    ∧ (let s := supplyStep node; let k : Code := 285000; let v : Nat := 169;
      s.inReset = false ∧ s.meas.scan = .supply
        ∧ v = min 400 ((max 0 k.toInt).toNat * s.cfg.supplyGain / 65536) ∧ 160 ≤ v ∧ v < 170)
    ∧ (let s := supplyStep node; let k : Code := 286000; let v : Nat := 170;
      s.inReset = false ∧ s.meas.scan = .supply
        ∧ v = min 400 ((max 0 k.toInt).toNat * s.cfg.supplyGain / 65536) ∧ 170 ≤ v ∧ v < 204)
    ∧ (let s := supplyStep node; let k : Code := 342000; let v : Nat := 203;
      s.inReset = false ∧ s.meas.scan = .supply
        ∧ v = min 400 ((max 0 k.toInt).toNat * s.cfg.supplyGain / 65536) ∧ 170 ≤ v ∧ v < 204)
    ∧ (let s := supplyStep node; let k : Code := 343000; let v : Nat := 204;
      s.inReset = false ∧ s.meas.scan = .supply
        ∧ v = min 400 ((max 0 k.toInt).toNat * s.cfg.supplyGain / 65536) ∧ 204 ≤ v ∧ v < 210)
    ∧ (let s := supplyStep node; let k : Code := 352000; let v : Nat := 209;
      s.inReset = false ∧ s.meas.scan = .supply
        ∧ v = min 400 ((max 0 k.toInt).toNat * s.cfg.supplyGain / 65536) ∧ 204 ≤ v ∧ v < 210)
    ∧ (let s := supplyStep node; let k : Code := 353000; let v : Nat := 210;
      let t := after (.supplySample k) s
      s.inReset = false ∧ s.meas.scan = .supply
        ∧ v = min 400 ((max 0 k.toInt).toNat * s.cfg.supplyGain / 65536) ∧ 210 ≤ v ∧ t.meas.supply = s.meas.supply)
    ∧ (let s := failing (supplyStep waiting); let k : Code := 353000; let v : Nat := 210;
      let t := after (.supplySample k) s
      s.inReset = false ∧ s.meas.scan = .supply
        ∧ v = min 400 ((max 0 k.toInt).toNat * s.cfg.supplyGain / 65536) ∧ s.meas.supply = .fail
        ∧ t.meas.supply ≠ .fail ∧ s.ctl.mode = .active ∧ s.link.txFail = false
        ∧ s.starts = { holdOff := none, claim := .absent } ∧ lowestWaiting s ≠ none)
    ∧ (let s := failing (supplyStep (muted .active waiting)); let k : Code := 353000; let v : Nat := 210;
      let t := after (.supplySample k) s; let c : ChannelNo := 1; let d : ChannelNo := 0
      s.inReset = false ∧ s.meas.scan = .supply
        ∧ v = min 400 ((max 0 k.toInt).toNat * s.cfg.supplyGain / 65536) ∧ s.meas.supply = .fail
        ∧ t.meas.supply ≠ .fail ∧ s.sequencing = true ∧ (s.ctl.mode = .mute ∨ s.link.txFail = true)
        ∧ s.starts.holdOff = none ∧ s.starts.claim.isSending = false ∧ lowestWaiting s = some c ∧ d ≠ c)
    ∧ (let s := failing (supplyStep (cut waiting)); let k : Code := 353000; let v : Nat := 210;
      let t := after (.supplySample k) s; let c : ChannelNo := 1
      s.inReset = false ∧ s.meas.scan = .supply
        ∧ v = min 400 ((max 0 k.toInt).toNat * s.cfg.supplyGain / 65536) ∧ s.meas.supply = .fail
        ∧ t.meas.supply ≠ .fail ∧ s.sequencing = true ∧ (s.ctl.mode = .mute ∨ s.link.txFail = true)
        ∧ s.starts.holdOff = none ∧ s.starts.claim.isSending = false ∧ lowestWaiting s = some c) := by
  refine ⟨⟨law (decTroubleLaw _) (by decide +kernel), by decide +kernel⟩, ?_⟩
  iterate 9 refine ⟨by decide +kernel, ?_⟩
  decide +kernel

/-! ### The other statements -/

theorem witness_StepRunsTheFrontCommand : (node.withPending [.ackPulse, .lineIdle]).pending = .ackPulse :: [.lineIdle] := rfl

theorem witness_EmptyQueueLetsTimePass :
    (node.pending = [] ∧ dueEvents node = [] ∧ node.inReset = false ∧ (node.ch 0).seq = .damper .opening (some 40000))
      ∧ (dueEvents (fanAt .starting (some 1) none .on) = []
        ∧ ((fanAt .starting (some 1) none .on).ch 1).seq = .fan .starting (some 1) none)
      ∧ (dueEvents (held node) = [] ∧ (held node).inReset = true)
      ∧ dueEvents (holding 0 waiting) = [.holdOffExpiry] := by decide +kernel

/-- The states of `witness_laws` meet every law, and a step from each answers a next state. -/
theorem witness_StepKeepsTheLaws :
    (ModeLaw node ∧ RegisterLaw node ∧ RoleLaw node ∧ ChannelsLaw node ∧ LinkLaw node ∧ MeasureLaw node
      ∧ ContainLaw node
      ∧ PeerLaw node ∧ TroubleLaw node) ∧ ∃ t, step node = .next t :=
  ⟨allLaws_spec (by decide +kernel), _, rfl⟩

theorem witness_WireReadsBack :
    let f : Frame := { cls := 7, station := 63, words := [0xFFFF] }
    let g : Frame := { cls := 0, station := 0, words := [0, 0, 0, 0, 0, 0, 0] }
    (1 ≤ f.words.length ∧ g.words.length ≤ 7) ∧ decodeWire f.wire = some f ∧ decodeWire g.wire = some g
      ∧ receive (g.wire ++ [false, true]) = .window (some g) ∧ receive (g.wire.take 150) = .taking
      ∧ ((held node).inReset = true ∧ State.reset.link.line = .awaitingIdle ∧ sendingClaim.link.attempt ≠ none)
      ∧ (lock.inReset = false ∧ lock.link.line ≠ .awaitingIdle ∧ lock.link.attempt = none)
      ∧ transmitterAccepts (readSlots ([(node, .window (some f)), (held node, .window none), (lock, .ended),
          (sendingClaim, .window none)].map fun x => x.1.drives x.2)) = true := by
  decide +kernel

theorem witness_OwnPayloadsReadBack :
    NeighbourLaw 12 [] ∧ NeighbourLaw 12 [1, 63, 11, 13, 20, 40]
      ∧ (ListLaw node.reg.records ∧ TroubleLaw node ∧ node.ctl.mode.sends = true) :=
  ⟨law (decNeighbourLaw _ _) (by decide +kernel), law (decNeighbourLaw _ _) (by decide +kernel),
    law (decListLaw _) (by decide +kernel), law (decTroubleLaw _) (by decide +kernel), rfl⟩

theorem witness_OwnStatusViewChangesNoRegister :
    ListLaw rest.reg.records ∧ 1 ≤ rest.station ∧ rest.station ≤ 63
      ∧ statusPayload (statusContent rest) = [wordOf rest 0, wordOf rest 1, wordOf rest 2, wordOf rest 3]
      ∧ isolatedExpiry rest.station [13] rest.reg ≠ rest.reg :=
  ⟨law (decListLaw _) (by decide +kernel), by decide +kernel⟩

theorem witness_PipelineBounds :
    (PressureLaw { role := .proving, negative := false, gain := 1, trim := -2047, threshold := 1, hysteresis := 0 }
      ∧ saturatedPair 524286 (-524287) = false)
      ∧ (PressureLaw { role := .boundary, negative := true, gain := 65535, trim := 2047, threshold := 5000, hysteresis := 255 }
        ∧ saturatedPair (-524287) 524286 = false) :=
  ⟨⟨law (decPressureLaw _) (by decide +kernel), by decide +kernel⟩,
    law (decPressureLaw _) (by decide +kernel), by decide +kernel⟩

/-- Both decisions, with counts at 0 and at 3, and each band at its boundary (T = 500, h = 50). -/
theorem witness_ComparatorNeedsFourPairs :
    let x : PressureState := { PressureState.reset with provenCount := 3 }
    let y : PressureState := { PressureState.reset with proven := true, unprovenCount := 3 }
    let k : PressureConfig := node.prCfg 0
    (x.provenCount ≤ 3 ∧ x.unprovenCount ≤ 3 ∧ x.proven = false) ∧ (y.provenCount ≤ 3 ∧ y.unprovenCount ≤ 3
      ∧ y.proven = true)
      ∧ (applyBand .high x).proven = true ∧ (applyBand .low y).proven = false
      ∧ [500, 499, 450, 449].map (bandOf k) = [.high, .dead, .dead, .low] := by decide +kernel

/-- A merge with room, a merge of a full register, and one whose outcome the register already holds. -/
theorem witness_MergeBringsPrimaryAndExtensions :
    [(node, { primary := 63, extensions := [1, 13] }), (crowded 16, { primary := 63, extensions := [1, 13] }),
        (rest.withReg (classify 41 .heard [40] (classify 40 .heard [] rest.reg)),
          ({ primary := 41, extensions := [] } : View))].all (fun x =>
      @decide _ (decListLaw x.1.reg.records)
        && decide (x.1.reg.records ≠ [] ∧ 1 ≤ x.2.primary ∧ x.2.primary ≤ 63 ∧ x.2.extensions.length ≤ 2
          ∧ x.2.extensions.Nodup ∧ ∀ z ∈ x.2.extensions, 1 ≤ z ∧ z ≤ 63 ∧ z ≠ x.2.primary)) = true
    ∧ (mergeView { primary := 63, extensions := [1, 13] } (crowded 16).reg).records.length = 16
    ∧ agrees { primary := 40, extensions := [41] } (classify 41 .heard [40] (classify 40 .heard [] rest.reg)).records
      = true := by decide +kernel

theorem witness_ResetHeldHaltsAndFiveSecondsDeEnergize : node.inReset = false
  ∧ (held node).inReset = true := by decide

theorem witness_LineIdleAndRetryWaitEnd :
    (node.inReset = false ∧ node.ctl.straps.isSome = true ∧ node.link.attempt = none ∧ node.link.retryWait = false
        ∧ node.link.line = .idle)
      ∧ (let s := after .failedAttempt (sendingStatus node)
        s.inReset = false ∧ s.ctl.straps.isSome = true ∧ s.link.attempt = none ∧ s.link.retryWait = true
          ∧ s.link.line = .closed ∧ (after (.lineIdle (List.replicate 9 true)) s).link.line = .closed
          ∧ @decide _ (decLineLaw s.lineWatch) = true
          ∧ (after (.lineIdle (List.replicate 29 true)) s).link.line = .idle
          ∧ (after (.lineIdle (List.replicate 29 true)) s).link.retryWait = true
          ∧ (after (.lineIdle (List.replicate 30 true)) s).link.retryWait = false
          ∧ after (.lineIdle [true]) (after (.lineIdle (List.replicate 29 true)) s)
            = after (.lineIdle (List.replicate 30 true)) s)
      ∧ (let f : Frame := { cls := 0, station := 1, words := [1] }; let s := after (.lineIdle [false]) node;
        s.link.line = .receiving .start ∧ s.ctl.straps.isSome = true ∧ @decide _ (decLineLaw s.lineWatch) = true
          ∧ Intake.start.receive f.wire.tail.dropLast = .taking
          ∧ Intake.start.receive f.wire.tail = .window (some f)
          ∧ Intake.start.taken.length ≤ 37 ∧ 10 ≤ Intake.start.recessive + 10)
      ∧ (State.reset.inReset = false ∧ State.reset.ctl.straps = none)
      ∧ (sendingClaim.inReset = false ∧ sendingClaim.link.attempt.isSome = true) := by decide +kernel

theorem witness_PulsesAndTheirReturn :
    (node.panel.panelReset.taken = false ∧ node.inReset = false)
      ∧ ((held node).panel.panelReset.taken = false ∧ (held node).inReset = true)
      ∧ (after .panelResetPulse node).panel.panelReset.taken = true := by decide +kernel

theorem witness_PeriodExpiryQueuesStatus :
    (node.inReset = false ∧ node.status.period.isSome = true ∧ node.onWire .status = false)
      ∧ ((sendingStatus node).status.period.isSome = true
        ∧ (sendingStatus node).onWire .status = true) := by decide +kernel

theorem witness_NoFanIsEnergizedDuringHoldOff :
    allLaws (holding 1 waiting) = true ∧ (holding 1 waiting).starts.holdOff.isSome = true
      ∧ ((holding 1 waiting).chCfg 1).kind.isFan = true ∧ ((holding 1 waiting).ch 1).output = false
      ∧ waitsForSlot (holding 1 waiting) 1 = true := by decide +kernel

theorem witness_ResetAndStoppedTimersHoldEverything :
    (held node).inReset = true ∧ node.ctl.listenTimer = none ∧ node.ctl.quietTimer = none ∧ node.reg.isoTimer = none
      ∧ conf.status.period = none ∧ node.starts.holdOff = none ∧ rest.contain.grace = none
      ∧ (node.peer 13).silence = none
      ∧ ((rest.ch 11).seq = .stopped ∧ (rest.ch 11).inA.level = false ∧ (rest.ch 11).inB.level = false)
      ∧ ((rest.ch 2).seq.fanState.isSome = true ∧ (rest.chCfg 2).proving ≠ none ∧ (rest.ch 2).inA.level = false
        ∧ (rest.ch 2).inB.level = false)
      ∧ ((held rest).ch 3).inA.level = true := by decide +kernel

/-! ### Single steps -/

/-- Station 0 goes to LOCKOUT, 63 to CONFIG; a pin left open gives a miss limit of 3 (R164). -/
theorem test_power_up :
    (after (.powerUp { straps with station := 0 }) .reset).ctl.mode = .lockout
      ∧ (after (.powerUp { straps with station := 63 }) .reset).ctl.mode = .config
      ∧ (after (.powerUp straps) .reset).ctl.straps = some { station := 12, missLimit := 3, rate := .high } := by
  decide +kernel

/-- A warm reset of a fan that runs proves it anew, its output energized (R87). -/
theorem test_warm_reset_running :
    let t := after .warmReset (held (fanAt .running none none .on))
    (t.ch 1).seq = .fan .starting (some 20000) none ∧ (t.ch 1).output = true ∧ t.starts.holdOff = some 8000 := by
  decide +kernel

/-- A cold reset in the middle of an incident forgets it (R23). -/
theorem test_cold_reset : (after (.coldReset straps) (held node)).reg.records = [] := by decide +kernel

/-- A block with a wrong sum gives LOCKOUT with CONFIG-BAD (R165). -/
theorem test_config_bad :
    (after (.configReadDone badBlock) conf).ctl.mode = .lockout
      ∧ (after (.configReadDone badBlock) conf).trouble.active = [plainCond .configBad] := by decide +kernel

/-- Values outside their ranges are clamped, a neighbour list drops own zone and repeats (R166 to R168). -/
theorem test_config_decoding :
    let b : ConfigBytes := ⟨⟨[0x5A, 200, 12, 13, 13, 64, 63, 0] ++ [1, 0x80, 0, 0, 255, 9] ++ List.replicate 116 0
      ++ [0, 0, 61, 0, 9, 0, 0]⟩, by simp⟩
    let k := decodeConfig 12 b
    k.neighbours = [13, 63] ∧ k.channels[0].kind = .damper ∧ k.channels[0].time1 = 120 ∧ k.channels[1].kind = .unused
      ∧ k.supplyGain = 1 ∧ k.holdOff = 60 ∧ k.grace = 10 := by decide +kernel

/-- 4.10: at the end of LISTEN a fan with target RUN behind a closed damper waits for it (R67). -/
theorem test_listen_ends :
    let t := after .listenTimerExpiry (forced lis)
    t.ctl.mode = .active ∧ (t.ch 0).seq = .damper .opening (some 40000)
      ∧ (t.ch 1).seq = .fan .awaitingInterlock none none := by decide +kernel

/-- 4.10: the OPEN limit brings AT-OPEN, AWAITING-SLOT and a queued claim. -/
theorem test_limit_made :
    let t := after (.limitChange 0 .a true) node
    (t.ch 0).seq = .damper .atOpen none ∧ (t.ch 1).seq = .fan .awaitingSlot none none ∧ t.starts.claim = .queued := by
  decide +kernel

/-- 4.10: the attempt captures the lowest waiting fan, URGENT-CLAIM in an extract role, H = 16. -/
theorem test_claim_sent :
    (after .attemptStart claiming).starts.claim = .sending 1 true 16
      ∧ (after .attemptStart claiming).link.attempt.map (·.frame.key) = some 204 := by decide +kernel

/-- 4.10: own claim accepted starts the fan and sets 8 000 ms. -/
theorem test_own_claim :
    let t := after (.startClaimAccepted true 12 528) sendingClaim
    (t.ch 1).seq = .fan .starting (some 20000) none ∧ t.starts = { holdOff := some 8000, claim := .absent } := by
  decide +kernel

/-- R76, its table: 20 half-seconds over 3 000 ms and over 12 000 ms. -/
theorem test_peer_claim :
    (after (.startClaimAccepted false 30 20) (holding 3000 node)).starts.holdOff = some 10000
      ∧ (after (.startClaimAccepted false 30 20) (holding 12000 node)).starts.holdOff = some 12000 := by decide +kernel

/-- 4.10: the sixteenth failure sets TX-FAIL and starts the fan in isolation. -/
theorem test_sixteenth_failure :
    let t := after .failedAttempt (failures 15 sendingClaim)
    t.link.txFail = true ∧ (t.ch 1).output = true ∧ t.starts = { holdOff := some 8000, claim := .absent } := by
  decide +kernel

/-- 4.10: not proven in time in FIRE, the fan stays on (R79). -/
theorem test_prove_fail :
    let t := after (.provingTimerExpiry 1) (fanAt .starting (some 0) none .on)
    (t.ch 1).seq = .fan .proveFail none none ∧ (t.ch 1).output = true
      ∧ t.trouble.active = [chanCond .fanProveFail 1] := by decide +kernel

/-- A frame under own station number that own transmitter did not send mutes the node (R136, R171). -/
theorem test_conflict :
    (after (.otherFrameAccepted 6 12 [0]) node).ctl.mode = .mute
      ∧ (after (.otherFrameAccepted 6 12 [0]) node).trouble.active = [plainCond .stationConflict] := by decide +kernel

/-- A CLEAR empties the register and the role falls to NORMAL (R14, R28). -/
theorem test_clear :
    (after (.clearAccepted 0 1) node).reg.records = [] ∧ (after (.clearAccepted 0 1) node).role.role = .normal := by
  decide +kernel

/-- FORCE-STOP to zone 0 is SHUTDOWN; the damper, OPENING, is driven CLOSED (R28, R32). -/
theorem test_force_stop :
    let t := after (.overrideAccepted 0 2) node
    t.role.role = .shutdown ∧ (t.ch 0).target = .off ∧ (t.ch 0).output = false := by decide +kernel

/-- A curtain keeps deploying under FAIL, and jams at its expiry; a damper's timer is frozen (R57). -/
theorem test_travel_expiry :
    ((after (.travelTimerExpiry 3) (failing node)).ch 3).seq = .damper .jammed none
      ∧ ((after (.travelTimerExpiry 0) (failing node)).ch 0).seq = .damper .opening (some 40000) := by decide +kernel

/-- R57: the damper's timer falls by 2 half-milliseconds a millisecond, by 1 under LOW. -/
theorem test_one_millisecond :
    ((match step node with | .next t => t | _ => node).ch 0).seq = .damper .opening (some 39998) := by decide +kernel

/-- 5.8: the fourth high pair proves the comparator. -/
theorem test_fourth_pair :
    let t := after (.pairComplete (-38730)) (paired { PressureState.reset with provenCount := 3 } node)
    (t.pressure 0).proven = true ∧ t.meas.scan = .convA 1 := by decide +kernel

/-- R109: the grace timer makes PENDING NOT-ACHIEVED, and R159 fills the record. -/
theorem test_grace :
    let t := after .graceTimerExpiry node
    t.contain.state = .notAchieved ∧ t.trouble.output = false ∧ t.link.queue.status = true := by decide +kernel

/-- R160: an ACK refills the record from the lowest code. -/
theorem test_ack :
    (after .ackPulse (recorded [plainCond .txFail, plainCond .registerFull] node)).trouble.record
      = some { cond := plainCond .txFail, fresh := true, filling := 2 } := by decide +kernel

/-- R160, its last sentence: the supply leaves LOW at the moment of the ACK, and either order leaves REGISTER-FULL in the
record; the end of an instance acknowledged before is kept. -/
theorem test_ack_and_end :
    let low := { recorded [plainCond .fieldSupplyLow, plainCond .registerFull] node with
      meas := { node.meas with supply := .low, scan := .supply } }
    let ended (s : State) : State := after (.supplySample 400000) s
    ((ended (after (.ackPulse true) low)).trouble.record.map (·.cond)) = some (plainCond .registerFull)
      ∧ ((after (.ackPulse true) (ended low)).trouble.record.map (·.cond)) = some (plainCond .registerFull)
      ∧ ((ended (after .ackPulse low)).trouble.record.map (·.cond)) = some (plainCond .fieldSupplyLow) := by
  decide +kernel

/-- R39: a STATUS that calls for assist and whose view demotes its zone to SECONDARY starts no ASSIST fan, and the HOLD
entry of REMOTE keeps STOP. -/
theorem test_status_demotes :
    let t := after (.statusAccepted 13 0x4080 (BitVec.ofNat 16 (5 * 256 + 6)) 0 0) besideThirteen
    t.role.role = .remote ∧ t.role.assist = false ∧ (t.ch 2).target = .off ∧ (t.peer 13).record.map (·.contain) = some .notAchieved
      ∧ standingOf 13 t.reg.records = some .secondary := by decide +kernel

/-- R129: a silent neighbour is LOST and reported. -/
theorem test_silence :
    let t := after (.silenceTimerExpiry 13) (heard .seen 1 (some 1) node)
    (t.peer 13).presence = .lost
      ∧ t.trouble.active = [{ code := .neighbourSilent, qualifier := 13 }] := by decide +kernel

/-- R13: own zone enters as ISOLATED and the declaration stays owed. -/
theorem test_isolated :
    let t := after .isolatedDeclarationTimerExpiry (owing rest)
    t.reg.records.map (fun r => (r.zone, r.standing, r.source)) = [(12, .primary, .isolated)] ∧ t.reg.owed = true
      ∧ t.role.role = .fire := by decide +kernel

/-- No word spells a command, so a fetch word changes nothing. -/
theorem test_no_encoding : node.withFetchWord 16 0xFFFF = node := rfl

end Sys2Proof.Tests
end

section
/-! The Incident Register's list: every event that makes a new list of the old keeps its laws (R1, R2, R6, R7, R16 to R21). -/

namespace Sys2Proof.Machine

/-! ### What a frame carries -/

theorem field_lt (w : Word) (hi lo : Nat) : field w hi lo < 2 ^ (hi + 1 - lo) := Nat.mod_lt _ (by positivity)

theorem keepFirst_sublist (zs : List Nat) : (keepFirst zs).Sublist zs := by
  induction zs with
  | nil => exact .slnil
  | cons z zs ih => exact (List.filter_sublist.trans ih).cons_cons z

theorem keepFirst_nodup (zs : List Nat) : (keepFirst zs).Nodup := by
  induction zs with
  | nil => exact .nil
  | cons z zs ih => exact List.nodup_cons.2 ⟨by simp, ih.filter _⟩

/-- The zones of a list that keeps each value once, in range and without the zone itself, make a lawful list (R2). -/
theorem neighbourLaw_keepFirst {zone : Nat} {zs : List Nat} (hl : zs.length ≤ 6)
    (h : ∀ z ∈ zs, 1 ≤ z ∧ z ≤ 63 ∧ z ≠ zone) : NeighbourLaw zone (keepFirst zs) :=
  ⟨(keepFirst_sublist zs).length_le.trans hl, keepFirst_nodup zs, fun z hz => h z ((keepFirst_sublist zs).subset hz)⟩

theorem neighbourFields_le (words : List Word) : ∀ z ∈ neighbourFields words, z ≤ 63 := by
  cases words with
  | nil => simp [neighbourFields]
  | cons w ws =>
    have low (v : Word) : field v 5 0 ≤ 63 := Nat.le_of_lt_succ (field_lt v 5 0)
    have high (v : Word) : field v 13 8 ≤ 63 := Nat.le_of_lt_succ (field_lt v 13 8)
    intro z hz
    simp only [neighbourFields, List.mem_cons, List.mem_flatMap, List.not_mem_nil, or_false] at hz
    rcases hz with rfl | ⟨v, -, rfl | rfl⟩
    · exact low w
    · exact high v
    · exact low v

/-- The list read from a FIRE-DECLARE is lawful (R2, R6). -/
theorem readDeclare_law {d : Nat} {words : List Word} {ns : List Nat} (h : readDeclare d words = some ns) :
    NeighbourLaw d ns := by
  unfold readDeclare at h
  split at h
  · cases h
  · dsimp only at h
    split at h
    · obtain rfl := Option.some.inj h
      refine neighbourLaw_keepFirst ?_ fun z hz => ?_
      · exact (List.length_filter_le _ _).trans ((List.length_take_le _ _).trans (Nat.min_le_right _ _))
      · obtain ⟨hmem, htest⟩ := List.mem_filter.1 hz
        obtain ⟨hzero, hown⟩ := of_decide_eq_true htest
        exact ⟨Nat.pos_of_ne_zero hzero, neighbourFields_le _ z (List.mem_of_mem_take hmem), hown⟩
    · cases h

/-- A view that a STATUS can carry: its zones are distinct and 1..63, with at most two extensions (R16). -/
def ViewLaw (v : View) : Prop :=
  (1 ≤ v.primary ∧ v.primary ≤ 63) ∧ v.extensions.length ≤ 2 ∧ v.extensions.Nodup
    ∧ ∀ z ∈ v.extensions, 1 ≤ z ∧ z ≤ 63 ∧ z ≠ v.primary

theorem readView_law {w2 w3 : Word} {v : View} (h : readView w2 w3 = some v) : ViewLaw v := by
  unfold readView at h
  dsimp only at h
  split at h
  · cases h
  · next hp =>
    obtain rfl := Option.some.inj h
    have low (v : Word) : field v 5 0 ≤ 63 := Nat.le_of_lt_succ (field_lt v 5 0)
    have high (v : Word) : field v 13 8 ≤ 63 := Nat.le_of_lt_succ (field_lt v 13 8)
    refine ⟨⟨Nat.pos_of_ne_zero hp, high w2⟩, ?_, keepFirst_nodup _, fun z hz => ?_⟩
    · exact (keepFirst_sublist _).length_le.trans (List.length_filter_le _ _)
    · obtain ⟨hmem, htest⟩ := List.mem_filter.1 ((keepFirst_sublist _).subset hz)
      obtain ⟨hzero, hprimary⟩ := of_decide_eq_true htest
      refine ⟨Nat.pos_of_ne_zero hzero, ?_, hprimary⟩
      simp only [List.mem_cons, List.not_mem_nil, or_false] at hmem
      rcases hmem with rfl | rfl
      · exact low w2
      · exact high w3

/-! ### Reading the list -/

theorem holdsZone_iff {z : Nat} {rs : List Record} : holdsZone z rs = true ↔ z ∈ rs.map (·.zone) := by
  simp [holdsZone]

theorem holdsZone_false_iff {z : Nat} {rs : List Record} : holdsZone z rs = false ↔ z ∉ rs.map (·.zone) := by
  rw [← holdsZone_iff, Bool.not_eq_true]

theorem mem_extensionsOf {z : Nat} {rs : List Record} :
    z ∈ extensionsOf rs ↔ ∃ r ∈ rs, r.standing = .extension ∧ r.zone = z := by
  simp [extensionsOf, and_assoc]

/-- A lawful list that is not empty has one PRIMARY record, whose zone is the view's primary (R1, R3). -/
theorem primaryOf_spec {rs : List Record} (h : ListLaw rs) (hne : rs ≠ []) :
    ∃ r ∈ rs, r.standing = .primary ∧ primaryOf rs = r.zone ∧ ∀ x ∈ rs, x.standing = .primary → x = r := by
  obtain ⟨-, -, -, hone, -⟩ := h
  obtain ⟨r, hr⟩ := List.length_eq_one_iff.1 (hone.resolve_left hne)
  have mem (x : Record) : x ∈ primaries rs ↔ x ∈ rs ∧ x.standing = .primary := by simp [primaries]
  obtain ⟨hmem, hst⟩ := (mem r).1 (by simp [hr])
  refine ⟨r, hmem, hst, ?_, fun x hx hp => by simpa [hr] using (mem x).2 ⟨hx, hp⟩⟩
  have hfind : rs.find? (fun r => decide (r.standing = .primary)) = (primaries rs).head? :=
    (List.head?_filter).symm
  simp [primaryOf, hfind, hr]

theorem primaryOf_range {rs : List Record} (h : ListLaw rs) (hne : rs ≠ []) : 1 ≤ primaryOf rs ∧ primaryOf rs ≤ 63 := by
  obtain ⟨r, hmem, -, hzone, -⟩ := primaryOf_spec h hne
  obtain ⟨-, -, -, -, hrec⟩ := h
  rw [hzone]
  exact (hrec r hmem).1

/-- The extract zones of a lawful list are its primary and its extensions. -/
theorem mem_extractZones {rs : List Record} (h : ListLaw rs) (hne : rs ≠ []) (z : Nat) :
    z ∈ extractZones rs ↔ z = primaryOf rs ∨ z ∈ extensionsOf rs := by
  obtain ⟨p, hmem, hst, hzone, huniq⟩ := primaryOf_spec h hne
  simp only [extractZones, List.mem_map, List.mem_filter, decide_eq_true_eq, mem_extensionsOf, hzone]
  constructor
  · rintro ⟨r, ⟨hr, hs⟩, rfl⟩
    cases e : r.standing with
    | primary => exact .inl (by rw [huniq r hr e])
    | extension => exact .inr ⟨r, hr, e, rfl⟩
    | secondary => exact absurd e hs
  · rintro (rfl | ⟨r, hr, hs, rfl⟩)
    · exact ⟨p, ⟨hmem, by simp [hst]⟩, rfl⟩
    · exact ⟨r, ⟨hr, by simp [hs]⟩, rfl⟩

theorem extensionsOf_nodup {rs : List Record} (h : (rs.map (·.zone)).Nodup) : (extensionsOf rs).Nodup :=
  h.sublist (List.filter_sublist.map _)

theorem primaries_append (rs ts : List Record) : primaries (rs ++ ts) = primaries rs ++ primaries ts :=
  List.filter_append ..

theorem extensionsOf_append (rs ts : List Record) : extensionsOf (rs ++ ts) = extensionsOf rs ++ extensionsOf ts := by
  simp [extensionsOf]

/-! ### Classification and learning -/

theorem listLaw_nil : ListLaw [] := by simp [ListLaw, extensionsOf]

theorem listLaw_singleton {r : Record} (hr : RecordLaw r) (hp : r.standing = .primary) : ListLaw [r] := by
  simp [ListLaw, maxRecords, extensionsOf, primaries, hp, hr]

/-- A record of a new zone, not PRIMARY, at the end of a list with room for it (R1). -/
theorem listLaw_append {rs : List Record} {r : Record} (h : ListLaw rs) (hne : rs ≠ []) (hlen : rs.length < maxRecords)
    (hzone : holdsZone r.zone rs = false) (hr : RecordLaw r) (hp : r.standing ≠ .primary)
    (he : r.standing = .extension → (extensionsOf rs).length < 2) : ListLaw (rs ++ [r]) := by
  obtain ⟨-, hnodup, hext, hone, hrec⟩ := h
  refine ⟨by simpa using hlen, ?_, ?_, .inr ?_, ?_⟩
  · rw [List.map_append, List.nodup_append]
    refine ⟨hnodup, by simp, fun a ha b hb => ?_⟩
    obtain rfl : b = r.zone := by simpa using hb
    rintro rfl
    exact holdsZone_false_iff.1 hzone ha
  · rw [extensionsOf_append, List.length_append]
    by_cases e : r.standing = .extension
    · have := he e
      simp only [extensionsOf, List.filter_cons, e, List.filter_nil, decide_true, if_true, List.map_cons, List.map_nil,
        List.length_singleton] at this ⊢
      omega
    · simpa [extensionsOf, e] using hext
  · rw [primaries_append, List.length_append, hone.resolve_left hne]
    simp [primaries, hp]
  · simp only [List.mem_append, List.mem_singleton]
    rintro x (hx | rfl)
    · exact hrec x hx
    · exact hr

/-- The records after the case table (R7): as they were, or with the zone at the end. -/
theorem classify_records (zone : Nat) (source : Source) (ns : List Nat) (reg : IncidentRegister) :
    (classify zone source ns reg).records
      = if holdsZone zone reg.records = true ∨ (reg.records ≠ [] ∧ maxRecords ≤ reg.records.length) then reg.records
        else reg.records ++ [{
          zone := zone, source := source, neighbours := ns
          standing :=
            if reg.records = [] then .primary
            else if (extensionsOf reg.records).length < 2
                ∧ (extractZones reg.records).any (fun z => decide (z ∈ ns)) = true then .extension
            else .secondary }] := by
  unfold classify
  dsimp only
  by_cases hh : holdsZone zone reg.records = true
  · simp [hh]
  · by_cases hn : reg.records = []
    · simp [hn, holdsZone]
    · by_cases hl : maxRecords ≤ reg.records.length
      · simp [hh, hn, hl]
      · simp only [hh, hn, hl, if_false, or_false, and_false, Bool.false_eq_true]
        split <;> rfl

theorem classify_owed (zone : Nat) (source : Source) (ns : List Nat) (reg : IncidentRegister) :
    (classify zone source ns reg).owed = reg.owed := by
  unfold classify; dsimp only; split_ifs <;> rfl

theorem classify_isoTimer (zone : Nat) (source : Source) (ns : List Nat) (reg : IncidentRegister) :
    (classify zone source ns reg).isoTimer = reg.isoTimer := by
  unfold classify; dsimp only; split_ifs <;> rfl

theorem classify_splitLatch (zone : Nat) (source : Source) (ns : List Nat) (reg : IncidentRegister) :
    (classify zone source ns reg).splitLatch = reg.splitLatch := by
  unfold classify; dsimp only; split_ifs <;> rfl

/-- The case table sets REGISTER-FULL where a new zone finds 16 records (R7). -/
theorem classify_fullLatch (zone : Nat) (source : Source) (ns : List Nat) (reg : IncidentRegister) :
    (classify zone source ns reg).fullLatch
      = (reg.fullLatch || (!holdsZone zone reg.records && decide (maxRecords ≤ reg.records.length))) := by
  unfold classify
  dsimp only
  split_ifs with hh hn hl he
  · simp [hh]
  · simp [hn, maxRecords]
  · simp [hh, hl]
  · simp [hl]
  · simp [hl]

/-- The case table keeps the laws of the list (R7, note 4). -/
theorem classify_listLaw {zone : Nat} {source : Source} {ns : List Nat} {reg : IncidentRegister} (h : ListLaw reg.records)
    (hz : 1 ≤ zone ∧ zone ≤ 63) (hs : source ≠ .learned) (hn : NeighbourLaw zone ns) :
    ListLaw (classify zone source ns reg).records := by
  rw [classify_records]
  have hr (st : Standing) : RecordLaw { zone := zone, standing := st, source := source, neighbours := ns } :=
    ⟨hz, hn, fun e => absurd e hs⟩
  split
  · exact h
  · next hnew =>
    obtain ⟨habsent, hroom⟩ := not_or.1 hnew
    by_cases he : reg.records = []
    · simpa [he] using listLaw_singleton (hr .primary) rfl
    · have hlen : reg.records.length < maxRecords := Nat.lt_of_not_le fun k => hroom ⟨he, k⟩
      refine listLaw_append h he hlen (by simpa using habsent) (hr _) ?_ ?_
      · simp only [he, if_false]; split <;> simp
      · simp only [he, if_false]; split
        · next k => exact fun _ => k.1
        · simp

theorem learnedRecord_law {zone : Nat} (st : Standing) (hz : 1 ≤ zone ∧ zone ≤ 63) : RecordLaw (learnedRecord zone st) :=
  ⟨hz, by simp [NeighbourLaw, learnedRecord], fun _ => rfl⟩

/-- The records learned from a view keep the laws of the list (R17). -/
theorem learnedRecords_listLaw {v : View} (h : ViewLaw v) : ListLaw (learnedRecords v) := by
  obtain ⟨hp, hlen, hnodup, hzones⟩ := h
  have hzone : (learnedRecords v).map (·.zone) = v.primary :: v.extensions := by
    simp [learnedRecords, learnedRecord, Function.comp_def]
  refine ⟨?_, ?_, ?_, .inr ?_, ?_⟩
  · simp only [learnedRecords, List.length_cons, List.length_map, maxRecords]; omega
  · rw [hzone]; exact List.nodup_cons.2 ⟨fun k => (hzones _ k).2.2 rfl, hnodup⟩
  · simpa [extensionsOf, learnedRecords, learnedRecord, List.filter_map, Function.comp_def] using hlen
  · simp [primaries, learnedRecords, learnedRecord, List.filter_map, Function.comp_def]
  · simp only [learnedRecords, List.mem_cons, List.mem_map]
    rintro r (rfl | ⟨z, hz, rfl⟩)
    · exact learnedRecord_law _ hp
    · exact learnedRecord_law _ ⟨(hzones z hz).1, (hzones z hz).2.1⟩

end Sys2Proof.Machine
end

section
/-! Merge keeps the laws of the list (R19 to R22). -/

namespace Sys2Proof.Machine

/-! ### The room made for an append (R21) -/

theorem dropLastWhere_sublist (test : Record → Bool) (rs : List Record) : (dropLastWhere test rs).Sublist rs := by
  induction rs with
  | nil => exact .slnil
  | cons r rs ih =>
    unfold dropLastWhere
    split_ifs
    · exact ih.cons_cons r
    · exact List.sublist_cons_self r rs
    · exact .refl _

theorem length_dropLastWhere {test : Record → Bool} {rs : List Record} (h : rs.any test = true) :
    (dropLastWhere test rs).length + 1 = rs.length := by
  induction rs with
  | nil => simp at h
  | cons r rs ih =>
    unfold dropLastWhere
    split_ifs with hrest hhead
    · simp [ih hrest]
    · rfl
    · rw [List.any_cons, Bool.or_eq_true] at h
      exact absurd h (not_or.2 ⟨hhead, hrest⟩)

/-- Only a record that satisfies the test can leave. -/
theorem mem_dropLastWhere {test : Record → Bool} {rs : List Record} {x : Record} (hx : x ∈ rs) (ht : test x = false) :
    x ∈ dropLastWhere test rs := by
  induction rs with
  | nil => exact hx
  | cons r rs ih =>
    unfold dropLastWhere
    split_ifs with hrest hhead
    · rcases List.mem_cons.1 hx with rfl | hx'
      · exact List.mem_cons_self
      · exact List.mem_cons_of_mem _ (ih hx')
    · rcases List.mem_cons.1 hx with rfl | hx'
      · rw [ht] at hhead; cases hhead
      · exact hx'
    · exact hx

/-- The room R21 makes: one SECONDARY record leaves, by the first of its three choices that finds one. -/
theorem makeRoom_cases (p : Nat) (e : List Nat) {rs : List Record} (h : ∃ x ∈ rs, x.standing = .secondary) :
    ∃ test : Record → Bool, makeRoom p e rs = dropLastWhere test rs ∧ rs.any test = true
      ∧ ∀ x, x.standing ≠ .secondary → test x = false := by
  unfold makeRoom
  dsimp only
  split_ifs with hlearned hremote
  · exact ⟨_, rfl, hlearned, fun x hx => by simp [hx]⟩
  · exact ⟨_, rfl, hremote, fun x hx => by simp [hx]⟩
  · exact ⟨_, rfl, by simpa using h, fun x hx => by simp [hx]⟩

/-! ### The list while it is merged (R20) -/

/-- The standing that a merge with primary p and extension set e gives a zone (R20). -/
def mergedStanding (p : Nat) (e : List Nat) (zone : Nat) : Standing :=
  if zone = p then .primary else if zone ∈ e then .extension else .secondary

/-- What holds of the list from step 1 of R20 on: the laws of R1 and R2, with every standing that of the merge. -/
structure MergeLaw (p : Nat) (e : List Nat) (rs : List Record) : Prop where
  length   : rs.length ≤ maxRecords
  zones    : (rs.map (·.zone)).Nodup
  records  : ∀ r ∈ rs, RecordLaw r
  standing : ∀ r ∈ rs, r.standing = mergedStanding p e r.zone

/-- A full list holds a SECONDARY record: at most three zones have another standing. -/
theorem MergeLaw.exists_secondary {p : Nat} {e : List Nat} {rs : List Record} (h : MergeLaw p e rs) (he : e.length ≤ 2)
    (hfull : maxRecords ≤ rs.length) : ∃ x ∈ rs, x.standing = .secondary := by
  by_contra hnone
  have hsub : rs.map (·.zone) ⊆ p :: e := by
    intro z hz
    obtain ⟨r, hr, rfl⟩ := List.mem_map.1 hz
    by_contra hz'
    obtain ⟨hp, hext⟩ := not_or.1 (mt List.mem_cons.2 hz')
    exact hnone ⟨r, hr, by rw [h.standing r hr, mergedStanding, if_neg hp, if_neg hext]⟩
  have hlen := (List.subperm_of_subset h.zones hsub).length_le
  simp only [List.length_map, List.length_cons, maxRecords] at hlen hfull
  omega

theorem MergeLaw.sublist {p : Nat} {e : List Nat} {rs ts : List Record} (h : MergeLaw p e rs) (hs : ts.Sublist rs) :
    MergeLaw p e ts :=
  ⟨hs.length_le.trans h.length, h.zones.sublist (hs.map _), fun r hr => h.records r (hs.subset hr),
    fun r hr => h.standing r (hs.subset hr)⟩

/-- The end of a list with room takes a learned record of a new zone. -/
theorem MergeLaw.append {p : Nat} {e : List Nat} {rs : List Record} (h : MergeLaw p e rs) {zone : Nat}
    (hlen : rs.length < maxRecords) (hz : 1 ≤ zone ∧ zone ≤ 63) (hnew : zone ∉ rs.map (·.zone)) :
    MergeLaw p e (rs ++ [learnedRecord zone (mergedStanding p e zone)]) where
  length := by simpa using hlen
  zones := by
    rw [List.map_append, List.nodup_append]
    refine ⟨h.zones, by simp, fun a ha b hb => ?_⟩
    obtain rfl : b = zone := by simpa [learnedRecord] using hb
    rintro rfl
    exact hnew ha
  records r hr := by
    rcases List.mem_append.1 hr with hr | hr
    · exact h.records r hr
    · obtain rfl := List.mem_singleton.1 hr
      exact learnedRecord_law _ hz
  standing r hr := by
    rcases List.mem_append.1 hr with hr | hr
    · exact h.standing r hr
    · obtain rfl := List.mem_singleton.1 hr
      rfl

/-- Step 1 of R20 gives every record the standing of the merge and leaves zones and lists. -/
theorem restand_eq (p : Nat) (e : List Nat) (r : Record) :
    restand p e r = { r with standing := mergedStanding p e r.zone } := by
  unfold restand mergedStanding
  split_ifs <;> rfl

theorem mergeLaw_restand (p : Nat) (e : List Nat) {rs : List Record} (h : ListLaw rs) :
    MergeLaw p e (rs.map (restand p e)) := by
  obtain ⟨hlen, hnodup, -, -, hrec⟩ := h
  refine ⟨by simpa using hlen, ?_, ?_, ?_⟩
  · simpa [restand_eq, Function.comp_def] using hnodup
  · intro r hr
    obtain ⟨x, hx, rfl⟩ := List.mem_map.1 hr
    rw [restand_eq]
    exact hrec x hx
  · intro r hr
    obtain ⟨x, -, rfl⟩ := List.mem_map.1 hr
    simp [restand_eq]

/-! ### The appends (R20) -/

/-- An append of step 2: the zone is in the list, and no zone of the new view leaves it. -/
theorem appendMerged_law {p : Nat} {e : List Nat} {zone : Nat} {x : List Record × Bool} (h : MergeLaw p e x.1)
    (he : e.length ≤ 2) (hz : 1 ≤ zone ∧ zone ≤ 63) :
    MergeLaw p e (appendMerged p e zone (mergedStanding p e zone) x).1
      ∧ zone ∈ (appendMerged p e zone (mergedStanding p e zone) x).1.map (·.zone)
      ∧ ∀ y ∈ p :: e, y ∈ x.1.map (·.zone) →
        y ∈ (appendMerged p e zone (mergedStanding p e zone) x).1.map (·.zone) := by
  unfold appendMerged
  split_ifs with hheld hfull
  · exact ⟨h, holdsZone_iff.1 hheld, fun y _ hy => hy⟩
  · obtain ⟨test, hroom, hany, hkeep⟩ := makeRoom_cases p e (h.exists_secondary he hfull)
    have hsub := dropLastWhere_sublist test x.1
    have hlen := length_dropLastWhere hany
    have hnew : zone ∉ (dropLastWhere test x.1).map (·.zone) :=
      fun k => hheld (holdsZone_iff.2 ((hsub.map _).subset k))
    rw [hroom]
    refine ⟨(h.sublist hsub).append (by have := h.length; omega) hz hnew, by simp [learnedRecord], fun y hy hin => ?_⟩
    obtain ⟨r, hr, rfl⟩ := List.mem_map.1 hin
    have hst : r.standing ≠ .secondary := by
      rw [h.standing r hr, mergedStanding]
      rcases List.mem_cons.1 hy with hp | hext
      · simp [hp]
      · split_ifs <;> simp
    exact List.mem_map.2 ⟨r, List.mem_append_left _ (mem_dropLastWhere hr (hkeep r hst)), rfl⟩
  · have hnew : zone ∉ x.1.map (·.zone) := fun k => hheld (holdsZone_iff.2 k)
    refine ⟨h.append (Nat.lt_of_not_le hfull) hz hnew, by simp [learnedRecord], fun y _ hin => ?_⟩
    rw [List.map_append]
    exact List.mem_append_left _ hin

/-- The appends of the new extension set. -/
theorem foldl_appendMerged_law {p : Nat} {e : List Nat} (he : e.length ≤ 2) (l : List Nat) (x : List Record × Bool)
    (h : MergeLaw p e x.1) (hl : ∀ z ∈ l, z ∈ e ∧ z ≠ p ∧ 1 ≤ z ∧ z ≤ 63) :
    MergeLaw p e (l.foldl (fun x z => appendMerged p e z .extension x) x).1
      ∧ ∀ y ∈ p :: e, y ∈ l ∨ y ∈ x.1.map (·.zone) →
        y ∈ (l.foldl (fun x z => appendMerged p e z .extension x) x).1.map (·.zone) := by
  induction l generalizing x with
  | nil => exact ⟨h, fun y _ hy => hy.resolve_left List.not_mem_nil⟩
  | cons z zs ih =>
    obtain ⟨hext, hprimary, hrange⟩ := hl z List.mem_cons_self
    have hst : mergedStanding p e z = .extension := by rw [mergedStanding, if_neg hprimary, if_pos hext]
    obtain ⟨hlaw, hin, hkeep⟩ := appendMerged_law (zone := z) h he hrange
    rw [hst] at hlaw hin hkeep
    obtain ⟨hlaw', hkeep'⟩ := ih _ hlaw fun y hy => hl y (List.mem_cons_of_mem _ hy)
    refine ⟨hlaw', fun y hy hor => hkeep' y hy ?_⟩
    rcases hor with hor | hor
    · rcases List.mem_cons.1 hor with rfl | hor
      · exact .inr hin
      · exact .inl hor
    · exact .inr (hkeep y hy hor)

/-- An append of step 3, once the new view's zones all stand. -/
theorem appendRemaining_law {p : Nat} {e : List Nat} {zone : Nat} {x : List Record × Bool} (h : MergeLaw p e x.1)
    (hview : ∀ y ∈ p :: e, y ∈ x.1.map (·.zone)) (hz : 1 ≤ zone ∧ zone ≤ 63) :
    MergeLaw p e (appendRemaining zone x).1 ∧ ∀ y ∈ p :: e, y ∈ (appendRemaining zone x).1.map (·.zone) := by
  unfold appendRemaining
  split_ifs with hheld hfull
  · exact ⟨h, hview⟩
  · exact ⟨h, hview⟩
  · have hnew : zone ∉ x.1.map (·.zone) := fun k => hheld (holdsZone_iff.2 k)
    have hst : mergedStanding p e zone = .secondary := by
      obtain ⟨hp, hext⟩ := not_or.1 (mt List.mem_cons.2 fun k => hnew (hview zone k))
      rw [mergedStanding, if_neg hp, if_neg hext]
    have hlaw := h.append (Nat.lt_of_not_le hfull) hz hnew
    rw [hst] at hlaw
    refine ⟨hlaw, fun y hy => ?_⟩
    rw [List.map_append]
    exact List.mem_append_left _ (hview y hy)

theorem foldl_appendRemaining_law {p : Nat} {e : List Nat} (l : List Nat) (x : List Record × Bool) (h : MergeLaw p e x.1)
    (hview : ∀ y ∈ p :: e, y ∈ x.1.map (·.zone)) (hl : ∀ z ∈ l, 1 ≤ z ∧ z ≤ 63) :
    MergeLaw p e (l.foldl (fun x z => appendRemaining z x) x).1
      ∧ ∀ y ∈ p :: e, y ∈ (l.foldl (fun x z => appendRemaining z x) x).1.map (·.zone) := by
  induction l generalizing x with
  | nil => exact ⟨h, hview⟩
  | cons z zs ih =>
    obtain ⟨hlaw, hview'⟩ := appendRemaining_law h hview (hl z List.mem_cons_self)
    exact ih _ hlaw hview' fun y hy => hl y (List.mem_cons_of_mem _ hy)

/-- The three steps of R20 keep the list lawful and bring the whole new view into it. -/
theorem mergeRecords_law {p : Nat} {e : List Nat} {v : View} {rs : List Record} (full : Bool) (h : ListLaw rs)
    (he : e.length ≤ 2) (hp : 1 ≤ p ∧ p ≤ 63) (hext : ∀ z ∈ e, z ≠ p ∧ 1 ≤ z ∧ z ≤ 63) :
    MergeLaw p e (mergeRecords p e v rs full).1 ∧ ∀ y ∈ p :: e, y ∈ (mergeRecords p e v rs full).1.map (·.zone) := by
  have hst : mergedStanding p e p = .primary := if_pos rfl
  obtain ⟨hlaw, hin, -⟩ := appendMerged_law (x := (rs.map (restand p e), full)) (mergeLaw_restand p e h) he hp
  rw [hst] at hlaw hin
  obtain ⟨hlaw', hview⟩ := foldl_appendMerged_law he e _ hlaw fun z hz => ⟨hz, hext z hz⟩
  refine foldl_appendRemaining_law _ _ hlaw' (fun y hy => hview y hy ?_) fun z hz =>
    mem_allZones.1 (List.mem_filter.1 hz).1
  rcases List.mem_cons.1 hy with rfl | hy
  · exact .inr hin
  · exact .inl hy

/-- A list with the standings of a merge, its primary among them, meets the laws of R1. -/
theorem MergeLaw.listLaw {p : Nat} {e : List Nat} {rs : List Record} (h : MergeLaw p e rs) (he : e.length ≤ 2)
    (hp : p ∈ rs.map (·.zone)) : ListLaw rs := by
  refine ⟨h.length, h.zones, ?_, .inr (Nat.le_antisymm ?_ ?_), h.records⟩
  · refine (List.subperm_of_subset (extensionsOf_nodup h.zones) fun z hz => ?_).length_le.trans he
    obtain ⟨r, hr, hst, rfl⟩ := mem_extensionsOf.1 hz
    rw [h.standing r hr, mergedStanding] at hst
    split_ifs at hst with hp hext
    exact hext
  · have hnodup : ((primaries rs).map (·.zone)).Nodup := h.zones.sublist (List.filter_sublist.map _)
    have hsub : (primaries rs).map (·.zone) ⊆ [p] := by
      intro z hz
      obtain ⟨r, hr, rfl⟩ := List.mem_map.1 hz
      obtain ⟨hr, hst⟩ := List.mem_filter.1 hr
      have hst := of_decide_eq_true hst
      rw [h.standing r hr, mergedStanding] at hst
      split_ifs at hst with hp
      exact List.mem_singleton.2 hp
    simpa using (List.subperm_of_subset hnodup hsub).length_le
  · obtain ⟨r, hr, rfl⟩ := List.mem_map.1 hp
    have hst : r.standing = .primary := by rw [h.standing r hr, mergedStanding, if_pos rfl]
    exact List.length_pos_of_mem (List.mem_filter.2 ⟨hr, decide_eq_true hst⟩)

/-! ### The new view (R19) -/

theorem mergedPrimary_cases (po pf : Nat) :
    (po = pf ∧ mergedPrimary po pf = (po, none))
      ∨ (po ≠ pf ∧ mergedPrimary po pf = (min po pf, some (max po pf))) := by
  unfold mergedPrimary
  split_ifs with h
  · exact .inl ⟨h, rfl⟩
  · exact .inr ⟨h, rfl⟩

theorem mergedExtensions_length (p : Nat) {x : Option Nat} (eo ef : List Nat) :
    (mergedExtensions p x eo ef).length ≤ 2 := by
  unfold mergedExtensions
  dsimp only
  rw [List.length_append]
  have hx : x.toList.length ≤ 1 := by cases x <;> simp
  have ht := List.length_take_le (2 - x.toList.length)
    (allZones.filter (fun z => decide ((z ∈ eo ∨ z ∈ ef) ∧ z ≠ p ∧ some z ≠ x)))
  omega

/-- A zone of the new extension set is the demoted primary, or a candidate (R19). -/
theorem mem_mergedExtensions {p z : Nat} {x : Option Nat} {eo ef : List Nat} (h : z ∈ mergedExtensions p x eo ef) :
    some z = x ∨ ((1 ≤ z ∧ z ≤ 63) ∧ (z ∈ eo ∨ z ∈ ef) ∧ z ≠ p) := by
  rcases List.mem_append.1 h with h | h
  · exact .inl (by cases x <;> simp_all)
  · obtain ⟨hz, htest⟩ := List.mem_filter.1 (List.mem_of_mem_take h)
    obtain ⟨hor, hp, -⟩ := of_decide_eq_true htest
    exact .inr ⟨mem_allZones.1 hz, hor, hp⟩

/-- The new primary and the new extension set are zones of the house, the primary not among the extensions. -/
theorem merged_ranges {po pf : Nat} (eo ef : List Nat) (ho : 1 ≤ po ∧ po ≤ 63) (hf : 1 ≤ pf ∧ pf ≤ 63) :
    (1 ≤ (mergedPrimary po pf).1 ∧ (mergedPrimary po pf).1 ≤ 63)
      ∧ ∀ z ∈ mergedExtensions (mergedPrimary po pf).1 (mergedPrimary po pf).2 eo ef,
        z ≠ (mergedPrimary po pf).1 ∧ 1 ≤ z ∧ z ≤ 63 := by
  rcases mergedPrimary_cases po pf with ⟨-, e⟩ | ⟨hne, e⟩ <;> rw [e]
  · refine ⟨ho, fun z hz => ?_⟩
    rcases mem_mergedExtensions hz with hx | ⟨hr, -, hp⟩
    · cases hx
    · exact ⟨hp, hr⟩
  · refine ⟨by dsimp only; omega, fun z hz => ?_⟩
    rcases mem_mergedExtensions hz with hx | ⟨hr, -, hp⟩
    · obtain rfl := Option.some.inj hx
      dsimp only
      omega
    · exact ⟨hp, hr⟩

/-! ### The merge and the view of a STATUS -/

theorem mergeView_owed (v : View) (reg : IncidentRegister) : (mergeView v reg).owed = reg.owed := by
  unfold mergeView; dsimp only; split <;> rfl

theorem mergeView_isoTimer (v : View) (reg : IncidentRegister) : (mergeView v reg).isoTimer = reg.isoTimer := by
  unfold mergeView; dsimp only; split <;> rfl

/-- A merge keeps the laws of the list (R19 to R21). -/
theorem mergeView_listLaw {v : View} {reg : IncidentRegister} (h : ListLaw reg.records) (hne : reg.records ≠ [])
    (hv : ViewLaw v) : ListLaw (mergeView v reg).records := by
  obtain ⟨hprimary, hext⟩ := merged_ranges (extensionsOf reg.records) v.extensions (primaryOf_range h hne) hv.1
  have he := mergedExtensions_length (mergedPrimary (primaryOf reg.records) v.primary).1
    (x := (mergedPrimary (primaryOf reg.records) v.primary).2) (extensionsOf reg.records) v.extensions
  unfold mergeView
  dsimp only
  split
  · exact h
  · obtain ⟨hlaw, hview⟩ := mergeRecords_law (v := v) reg.fullLatch h he hprimary hext
    exact hlaw.listLaw he (hview _ List.mem_cons_self)

theorem stopIfEntered_records (own : Nat) (before after : IncidentRegister) :
    (stopIfEntered own before after).records = after.records := by
  unfold stopIfEntered; split <;> rfl

theorem stopIfEntered_owed (own : Nat) (before after : IncidentRegister) :
    (stopIfEntered own before after).owed = after.owed := by
  unfold stopIfEntered; split <;> rfl

/-- The timer runs on only while own zone stays absent (R11). -/
theorem stopIfEntered_isoTimer (own : Nat) (before after : IncidentRegister) :
    (stopIfEntered own before after).isoTimer
      = if holdsZone own before.records = false ∧ holdsZone own after.records = true then none else after.isoTimer := by
  unfold stopIfEntered
  cases holdsZone own before.records <;> cases holdsZone own after.records <;> rfl

end Sys2Proof.Machine
end

section
/-! Own STATUS and the isolated-declaration timer at the Incident Register (R13, R18). -/

namespace Sys2Proof.Machine

/-! ### The view captured for a STATUS (R16, R18, R122) -/

/-- The incident view of a list that is not empty (R3). -/
def ownView (rs : List Record) : View := { primary := primaryOf rs, extensions := extensionsOf rs }

theorem ownView_law {rs : List Record} (h : ListLaw rs) (hne : rs ≠ []) : ViewLaw (ownView rs) := by
  obtain ⟨p, hp, hst, hzone, -⟩ := primaryOf_spec h hne
  have hrange := primaryOf_range h hne
  obtain ⟨-, hnodup, hlen, -, hrec⟩ := h
  refine ⟨hrange, hlen, extensionsOf_nodup hnodup, fun z hz => ?_⟩
  obtain ⟨r, hr, hext, rfl⟩ := mem_extensionsOf.1 hz
  refine ⟨(hrec r hr).1.1, (hrec r hr).1.2, fun e => ?_⟩
  obtain rfl := List.inj_on_of_nodup_map hnodup hr hp (e.trans hzone)
  rw [hst] at hext
  cases hext

theorem field_pair (a b : Nat) (ha : a ≤ 63) (hb : b ≤ 63) :
    field (BitVec.ofNat 16 (a * 2 ^ 8 + b)) 13 8 = a ∧ field (BitVec.ofNat 16 (a * 2 ^ 8 + b)) 5 0 = b := by
  simp only [field, BitVec.toNat_ofNat]
  omega

/-- A view's fields read back as the view; a field of 0 is an absent extension (R3, R16). -/
theorem keepFirst_view {p : Nat} {l : List Nat} (hlen : l.length ≤ 2) (hnodup : l.Nodup)
    (hz : ∀ z ∈ l, 1 ≤ z ∧ z ≤ 63 ∧ z ≠ p) :
    keepFirst ([l.getD 0 0, l.getD 1 0].filter (fun e => decide (e ≠ 0 ∧ e ≠ p))) = l := by
  match l, hlen with
  | [], _ => simp [keepFirst]
  | [a], _ =>
    have ha := hz a (by simp)
    simp [keepFirst, show a ≠ 0 by omega, ha.2.2]
  | [a, b], _ =>
    have ha := hz a (by simp)
    have hb := hz b (by simp)
    have hab : b ≠ a := by rintro rfl; simp at hnodup
    simp [keepFirst, show a ≠ 0 by omega, show b ≠ 0 by omega, ha.2.2, hb.2.2, hab]

/-- The view of a STATUS is the register's at its capture (R3, R122). -/
theorem readView_statusPayload {s : State} {w1 w2 w3 w4 : Word} (h : ListLaw s.reg.records)
    (hw : statusPayload (statusContent s) = [w1, w2, w3, w4]) :
    readView w2 w3 = if s.reg.records = [] then none else some (ownView s.reg.records) := by
  simp only [statusPayload, List.cons.injEq, and_true] at hw
  obtain ⟨-, rfl, rfl, -⟩ := hw
  by_cases hne : s.reg.records = []
  · simp [hne, statusContent, viewOf, primaryOf, extensionsOf, readView, field]
  · obtain ⟨hp, hlen, hnodup, hz⟩ := ownView_law h hne
    have hext (i : Nat) : (extensionsOf s.reg.records).getD i 0 ≤ 63 := by
      by_cases hi : i < (extensionsOf s.reg.records).length
      · rw [List.getD_eq_getElem _ _ hi]; exact (hz _ (List.getElem_mem hi)).2.1
      · rw [List.getD_eq_default _ _ (Nat.le_of_not_lt hi)]; omega
    have hcount : s.reg.records.length ≤ 63 := h.1.trans (by decide)
    have hw2 := field_pair (primaryOf s.reg.records) _ hp.2 (hext 0)
    have hw3 := field_pair _ s.reg.records.length (hext 1) hcount
    simp only [readView, statusContent, viewOf, hw2, hw3, hne, if_false, show primaryOf s.reg.records ≠ 0 from
      Nat.ne_of_gt hp.1]
    exact congrArg (fun l => some (View.mk (primaryOf s.reg.records) l)) (keepFirst_view hlen hnodup hz)

/-! ### A register that has grown (R7, R18) -/

theorem isolatedExpiry_records (own : Nat) (ns : List Nat) (reg : IncidentRegister) :
    (isolatedExpiry own ns reg).records = (classify own .isolated ns reg).records := by
  rw [isolatedExpiry, classify_records, classify_records]

/-- The case table on a list that is not empty: no change, or a new zone at the end that is not PRIMARY (R7). -/
theorem classify_grows (zone : Nat) (source : Source) (ns : List Nat) {reg : IncidentRegister} (hne : reg.records ≠ []) :
    (classify zone source ns reg).records = reg.records
      ∨ ∃ r : Record, (classify zone source ns reg).records = reg.records ++ [r] ∧ r.zone = zone
        ∧ holdsZone zone reg.records = false ∧ (r.standing = .extension → (extensionsOf reg.records).length < 2) := by
  rw [classify_records]
  split
  · exact .inl rfl
  · next hnew =>
    obtain ⟨habsent, -⟩ := not_or.1 hnew
    refine .inr ⟨_, rfl, rfl, by simpa using habsent, ?_⟩
    split
    · next k => exact fun _ => k.1
    · simp

theorem agrees_iff {v : View} {rs : List Record} :
    agrees v rs = true ↔ v.primary = primaryOf rs ∧ ∀ z, z ∈ v.extensions ↔ z ∈ extensionsOf rs := by
  simp only [agrees, Bool.and_eq_true, List.all_eq_true, decide_eq_true_eq, and_assoc, and_congr_right_iff]
  exact fun _ => ⟨fun h z => ⟨h.1 z, h.2 z⟩, fun h => ⟨fun z => (h z).1, fun z => (h z).2⟩⟩

/-- Of two extension sets, one within the other, R19 makes the larger. -/
theorem mem_mergedExtensions_of_subset {p : Nat} {eo ef : List Nat} (hlen : eo.length ≤ 2)
    (hz : ∀ z ∈ eo, 1 ≤ z ∧ z ≤ 63 ∧ z ≠ p) (hsub : ef ⊆ eo) (z : Nat) :
    z ∈ mergedExtensions p none eo ef ↔ z ∈ eo := by
  have hmem (y : Nat) :
      y ∈ allZones.filter (fun z => decide ((z ∈ eo ∨ z ∈ ef) ∧ z ≠ p ∧ some z ≠ none)) ↔ y ∈ eo := by
    simp only [List.mem_filter, mem_allZones, decide_eq_true_eq]
    constructor
    · rintro ⟨-, hy | hy, -⟩
      · exact hy
      · exact hsub hy
    · intro hy
      obtain ⟨h1, h63, hp⟩ := hz y hy
      exact ⟨⟨h1, h63⟩, .inl hy, hp, by simp⟩
  have hnodup : allZones.Nodup := by decide
  have hshort := (List.subperm_of_subset (hnodup.filter _) fun y hy => (hmem y).1 hy).length_le.trans hlen
  simp only [mergedExtensions, Option.toList_none, List.nil_append, List.length_nil, Nat.sub_zero]
  rw [List.take_of_length_le hshort]
  exact hmem z

/-- A view with the register's primary and some of its extensions changes nothing, merged or not (R16, R19). -/
theorem viewFrame_of_subview {own : Nat} {v : View} {reg : IncidentRegister} (hne : reg.records ≠ [])
    (h : ViewLaw (ownView reg.records)) (hp : v.primary = primaryOf reg.records)
    (hsub : v.extensions ⊆ extensionsOf reg.records) : viewFrame own (some v) reg = reg := by
  have hmerge : mergeView v reg = reg := by
    obtain ⟨-, hlen, -, hz⟩ := h
    have hpx : mergedPrimary (primaryOf reg.records) v.primary = (primaryOf reg.records, none) := if_pos hp.symm
    have hagrees : agrees
        { primary := primaryOf reg.records
          extensions := mergedExtensions (primaryOf reg.records) none (extensionsOf reg.records) v.extensions }
        reg.records = true := agrees_iff.2 ⟨rfl, mem_mergedExtensions_of_subset hlen hz hsub⟩
    simp only [mergeView, hpx, hagrees, if_true, Option.isSome_none, Bool.or_false]
  have hstop : stopIfEntered own reg reg = reg := by
    unfold stopIfEntered; cases holdsZone own reg.records <;> rfl
  unfold viewFrame
  simp only [hne, if_false, hmerge, hstop, ite_self]

/-- A new record that is not PRIMARY leaves the primary and keeps the extensions that stood (R7, note 3). -/
theorem ownView_append {rs : List Record} {r : Record} (h : ListLaw rs) (hne : rs ≠ [])
    (hr : (1 ≤ r.zone ∧ r.zone ≤ 63) ∧ holdsZone r.zone rs = false)
    (he : r.standing = .extension → (extensionsOf rs).length < 2) :
    primaryOf (rs ++ [r]) = primaryOf rs ∧ ViewLaw (ownView (rs ++ [r])) := by
  obtain ⟨p, hp, hst, hzone, -⟩ := primaryOf_spec h hne
  obtain ⟨hrange, hlen, hnodup, hz⟩ := ownView_law h hne
  have hprimary : primaryOf (rs ++ [r]) = primaryOf rs := by
    have hsome : (rs.find? (fun r => decide (r.standing = .primary))).isSome = true :=
      List.find?_isSome.2 ⟨p, hp, decide_eq_true hst⟩
    simp only [primaryOf, List.find?_append, Option.or_of_isSome hsome]
  refine ⟨hprimary, ?_⟩
  by_cases e : r.standing = .extension
  · have hview : ownView (rs ++ [r]) = { primary := primaryOf rs, extensions := extensionsOf rs ++ [r.zone] } := by
      simp [ownView, hprimary, extensionsOf, e]
    have hnew : r.zone ∉ rs.map (·.zone) := holdsZone_false_iff.1 hr.2
    rw [hview]
    refine ⟨hrange, by simpa using he e, List.nodup_append.2 ⟨hnodup, by simp, fun a ha b hb => ?_⟩, fun z hz' => ?_⟩
    · obtain rfl := List.mem_singleton.1 hb
      rintro rfl
      obtain ⟨x, hx, -, hxz⟩ := mem_extensionsOf.1 ha
      exact hnew (hxz ▸ List.mem_map_of_mem hx)
    · rcases List.mem_append.1 hz' with hz' | hz'
      · exact hz z hz'
      · obtain rfl := List.mem_singleton.1 hz'
        refine ⟨hr.1.1, hr.1.2, fun k => hnew ?_⟩
        rw [show r.zone = p.zone from k.trans hzone]
        exact List.mem_map_of_mem hp
  · have hview : ownView (rs ++ [r]) = ownView rs := by
      simp [ownView, hprimary, extensionsOf, e]
    rw [hview]
    exact ⟨hrange, hlen, hnodup, hz⟩

end Sys2Proof.Machine

open Sys2Proof Sys2Proof.Machine in
/-- Settles O18: a captured view has the register's primary and, after an isolated expiry, some of its extensions, and such a
view changes nothing. -/
theorem ownStatusViewChangesNoRegister : Obligations.OwnStatusViewChangesNoRegister := by
  intro s ns now w1 w2 w3 w4 hlist hlow hhigh hw hnow
  rw [readView_statusPayload hlist hw]
  by_cases hne : s.reg.records = []
  · rw [if_pos hne]; rfl
  rw [if_neg hne]
  have kept (reg : IncidentRegister) (h : reg.records = s.reg.records) :
      viewFrame s.station (some (ownView s.reg.records)) reg = reg :=
    viewFrame_of_subview (h ▸ hne) (h ▸ ownView_law hlist hne) (h ▸ rfl) (h ▸ List.Subset.refl _)
  rcases hnow with rfl | rfl
  · exact kept _ rfl
  rcases classify_grows s.station .isolated ns hne with hsame | ⟨r, hgrown, hzone, habsent, hext⟩
  · exact kept _ ((isolatedExpiry_records ..).trans hsame)
  · have hrecords := (isolatedExpiry_records s.station ns s.reg).trans hgrown
    obtain ⟨hprimary, hview⟩ := ownView_append hlist hne (hzone ▸ ⟨⟨hlow, hhigh⟩, habsent⟩) hext
    rw [← hrecords] at hprimary hview
    refine viewFrame_of_subview (by rw [hrecords]; simp) hview hprimary.symm ?_
    rw [hrecords, extensionsOf_append]
    exact List.subset_append_left _ _

namespace Sys2Proof.Machine

variable (s : State)

/-! ### A register event (R3, R4, R13) -/

theorem registerEvent_reg (new : IncidentRegister) : (registerEvent new s).reg = new := by
  obtain ⟨-, hreg, -⟩ := lessRoles_eq (registerEvent_lessRoles s new)
  exact hreg

/-- The role is read from the override, the register, own station and the configuration alone (R27, R28). -/
theorem deriveRole_congr {s t : State} (ho : t.role.override = s.role.override) (hr : t.reg = s.reg)
    (hc : t.ctl = s.ctl) : deriveRole t = deriveRole s := by
  unfold deriveRole State.station State.cfg
  rw [ho, hr, hc]

/-- A recompute leaves the role and FIRE-MODE at what the node then gives (R28, R29, R41). -/
theorem recompute_derived (h : s.ctl.mode.applies = true) :
    (recompute s).role.role = deriveRole (recompute s) ∧ (recompute s).role.fireMode = deriveFireMode (recompute s) := by
  obtain ⟨hctl, hreg, hover, -⟩ := lessRoles_eq (recompute_lessRoles s)
  rw [deriveRole_congr hover hreg hctl, deriveFireMode, hreg, hover, recompute_role s h]
  exact ⟨rfl, rfl⟩

/-- A changed list gives the role and FIRE-MODE anew (R4). -/
theorem registerEvent_derived (new : IncidentRegister) (h : s.ctl.mode.applies = true)
    (hnew : new.records ≠ s.reg.records) :
    (registerEvent new s).role.role = deriveRole (registerEvent new s)
      ∧ (registerEvent new s).role.fireMode = deriveFireMode (registerEvent new s) := by
  have hctl : (storeRegister new s).ctl = s.ctl := by
    obtain ⟨hctl, -⟩ := lessReports_eq (storeRegister_lessReports s new)
    exact hctl
  simp only [registerEvent, if_neg hnew]
  exact recompute_derived _ (by rw [hctl]; exact h)

/-- Outside reset the running timer's expiry is a register event (R13). -/
theorem exec_isolatedExpiry (hr : s.inReset = false) (ht : s.reg.isoTimer.isSome = true) :
    exec .isolatedDeclarationTimerExpiry s
      = .next (registerEvent (isolatedExpiry s.station s.cfg.neighbours s.reg) s) := by
  simp [exec, execIsolatedDeclarationTimerExpiry, State.outside, hr, ht]

/-- The records after the expiry, the extension test in the words of R7. -/
theorem isolatedExpiry_table (own : Nat) (ns : List Nat) {reg : IncidentRegister} (h : ListLaw reg.records) :
    (isolatedExpiry own ns reg).records
      = (if holdsZone own reg.records then reg.records
         else if reg.records = [] then [{ zone := own, standing := .primary, source := .isolated, neighbours := ns }]
         else if 16 ≤ reg.records.length then reg.records
         else reg.records ++ [{
           zone := own, source := .isolated, neighbours := ns
           standing := if (extensionsOf reg.records).length < 2
               ∧ (∃ x ∈ ns, x = primaryOf reg.records ∨ x ∈ extensionsOf reg.records)
             then .extension else .secondary }]) := by
  rw [isolatedExpiry_records, classify_records]
  by_cases hh : holdsZone own reg.records = true
  · simp [hh]
  by_cases hne : reg.records = []
  · simp [hne, holdsZone]
  by_cases hlen : 16 ≤ reg.records.length
  · rw [if_pos (.inr ⟨hne, hlen⟩), if_neg hh, if_neg hne, if_pos hlen]
  have htest : (extractZones reg.records).any (fun z => decide (z ∈ ns)) = true
      ↔ ∃ x ∈ ns, x = primaryOf reg.records ∨ x ∈ extensionsOf reg.records := by
    simp only [List.any_eq_true, decide_eq_true_eq, mem_extractZones h hne]
    exact ⟨fun ⟨x, hx, hn⟩ => ⟨x, hn, hx⟩, fun ⟨x, hn, hx⟩ => ⟨x, hx, hn⟩⟩
  rw [if_neg (by rintro (k | ⟨-, k⟩) <;> contradiction), if_neg hh, if_neg hne, if_neg hne, if_neg hlen]
  simp only [htest]

end Sys2Proof.Machine

open Sys2Proof Sys2Proof.Machine in
/-- Settles O44: the expiry is a register event, so the case table gives the register and a recompute's frame the rest. -/
theorem isolatedExpiryClassifiesOwnZone : Obligations.IsolatedExpiryClassifiesOwnZone := by
  intro s hr ht hlist
  refine ⟨_, exec_isolatedExpiry s hr ht, ?_⟩
  obtain ⟨hctl, -, hover, hmeas, hpeers, hpanel, -⟩ :=
    lessRoles_eq (registerEvent_lessRoles s (isolatedExpiry s.station s.cfg.neighbours s.reg))
  obtain ⟨-, hattempt, -, -, -, -, hdeclare, -⟩ :=
    lessRoles_eq_link (registerEvent_lessRoles s (isolatedExpiry s.station s.cfg.neighbours s.reg))
  rw [registerEvent_reg]
  refine ⟨isolatedExpiry_table _ _ hlist, classify_isoTimer .., classify_owed .., classify_splitLatch ..,
    classify_fullLatch .., fun happlies hnew => ?_, hctl, hpeers, hmeas, hpanel, hdeclare, hattempt, hover⟩
  obtain ⟨hrole, hfire⟩ := registerEvent_derived s _ happlies hnew
  refine ⟨hrole, ?_⟩
  have hsome : (isolatedExpiry s.station s.cfg.neighbours s.reg).records ≠ [] := by
    rw [isolatedExpiry_records, classify_records] at hnew ⊢
    split at hnew
    · exact absurd rfl hnew
    · next h => rw [if_neg h]; simp
  rw [hfire, deriveFireMode, registerEvent_reg]
  simp [hsome]
end

section
/-! What a step of the node can do to the Incident Register, and that it keeps the register's laws (R1 to R26). -/

namespace Sys2Proof.Machine

/-- A step runs one command, with what waits behind it, or lets a millisecond pass. -/
theorem step_cases {s t : State} (h : step s = .next t) :
    (∃ i rest, exec i (s.withPending rest) = .next t) ∨ t = passMs s := by
  unfold step at h
  split at h
  · exact .inl ⟨_, _, h⟩
  · split at h
    · exact .inl ⟨_, s.pending, h⟩
    · exact .inr (Host.Outcome.next.inj h).symm

theorem outside_of_inReset {s : State} {f : State → State} (h : s.inReset = true) : s.outside f = s := if_pos h

theorem outside_of_not_inReset {s : State} {f : State → State} (h : s.inReset = false) : s.outside f = f s :=
  if_neg (by simp [h])

/-! ### Work that leaves the register and own declaration alone -/

/-- Register, Mode Controller, the place of FIRE-DECLARE in the queue and the hold of RESET are as they were. -/
structure OwnKept (s t : State) : Prop where
  reg     : t.reg = s.reg
  ctl     : t.ctl = s.ctl
  declare : t.link.queue.fireDeclare = s.link.queue.fireDeclare
  held    : t.inReset = s.inReset

namespace OwnKept

variable {s t u : State}

theorem refl (s : State) : OwnKept s s := ⟨rfl, rfl, rfl, rfl⟩

theorem trans (h : OwnKept s t) (k : OwnKept t u) : OwnKept s u :=
  ⟨k.reg.trans h.reg, k.ctl.trans h.ctl, k.declare.trans h.declare, k.held.trans h.held⟩

/-- Transitivity, the later part first. -/
theorem after (k : OwnKept t u) (h : OwnKept s t) : OwnKept s u := h.trans k

theorem of_lessRoles (h : t.lessRoles = s.lessRoles) : OwnKept s t := by
  obtain ⟨ctl, reg, -, -, -, panel, -⟩ := lessRoles_eq h
  obtain ⟨-, -, -, -, -, -, declare, -⟩ := lessRoles_eq_link h
  exact ⟨reg, ctl, declare, by simp only [State.inReset, panel]⟩

theorem of_lessSequencing (h : t.lessSequencing = s.lessSequencing) : OwnKept s t :=
  of_lessRoles (lessRoles_of_lessSequencing h)

theorem of_lessReports (h : t.lessReports = s.lessReports) : OwnKept s t :=
  of_lessSequencing (lessSequencing_of_lessReports h)

theorem outside {f : State → State} (h : OwnKept s (f s)) : OwnKept s (s.outside f) := by
  unfold State.outside
  split
  · exact refl s
  · exact h

theorem ite {p : Prop} [Decidable p] (h : OwnKept s t) (k : OwnKept s u) : OwnKept s (if p then t else u) := by
  split
  · exact h
  · exact k

end OwnKept

variable (s : State)

theorem recompute_ownKept : OwnKept s (recompute s) := .of_lessRoles (recompute_lessRoles s)

theorem startTests_ownKept : OwnKept s (startTests s) := .of_lessSequencing (startTests_lessSequencing s)

theorem setPeer_ownKept (z : Nat) (x : Peer) : OwnKept s (s.setPeer z x) := by
  unfold State.setPeer
  split <;> exact ⟨rfl, rfl, rfl, rfl⟩

theorem queueStatus_ownKept : OwnKept s (queueStatus s) := .of_lessReports (queueStatus_lessReports s)

theorem startStagger_ownKept : OwnKept s (startStagger s) := by
  unfold startStagger
  split
  · exact .after (queueStatus_ownKept _) ⟨rfl, rfl, rfl, rfl⟩
  · exact ⟨rfl, rfl, rfl, rfl⟩

theorem endAttempt_ownKept (l : Line) (n : Nat) : OwnKept s (endAttempt l n s) := by
  have hlink (b : Bool) : OwnKept s
      (if b then (s.withLink { s.link with attempt := none, line := l, run := n }).withStatus
          { s.status with earlyPending := false, captured := none }
        else s.withLink { s.link with attempt := none, line := l, run := n }) := by
    cases b <;> exact ⟨rfl, rfl, rfl, rfl⟩
  exact (hlink _).trans (.of_lessSequencing (claimRequeued_lessSequencing _))

theorem stopSending_ownKept (bit : Nat) : OwnKept s (stopSending bit s) := by
  unfold stopSending
  split
  · exact .refl s
  · exact (endAttempt_ownKept s _ _).trans (startTests_ownKept _)

theorem otherFrameIn_ownKept : OwnKept s (otherFrameIn s) := by
  have h : OwnKept s (if s.link.attempt.isSome then endAttempt .closed 0 s else s.setLine .closed) :=
    .ite (endAttempt_ownKept s _ _) ⟨rfl, rfl, rfl, rfl⟩
  exact h.trans ⟨rfl, rfl, rfl, rfl⟩

theorem countFailure_ownKept : OwnKept s (countFailure s) := by
  unfold countFailure
  split
  · exact ⟨rfl, rfl, rfl, rfl⟩
  · exact .after (.of_lessReports (raise_lessReports _ _)) ⟨rfl, rfl, rfl, rfl⟩

theorem sendClaim_ownKept : OwnKept s (sendClaim s) := by
  unfold sendClaim
  split
  · exact .of_lessSequencing (withdrawClaim_lessSequencing s)
  · exact ⟨rfl, rfl, rfl, rfl⟩

theorem sendKind_ownKept (k : FrameKind) : OwnKept s (sendKind k s) := by
  cases k with
  | clear => exact ⟨rfl, rfl, rfl, rfl⟩
  | fireDeclare => exact ⟨rfl, rfl, rfl, rfl⟩
  | claim => exact sendClaim_ownKept s
  | status => exact ⟨rfl, rfl, rfl, rfl⟩

theorem storeStatus_ownKept (z : Nat) (r : StatusRecord) : OwnKept s (storeStatus z r s) := by
  refine .trans ?_ (.of_lessReports (storeStatus_lessReports s z r))
  exact .ite (.refl s) (setPeer_ownKept s _ _)

theorem silenceExpiry_ownKept (z : Nat) : OwnKept s (silenceExpiry z s) :=
  .after (.of_lessRoles (silenceExpiry_lessRoles s z)) ⟨rfl, rfl, rfl, rfl⟩

theorem pairEvent_ownKept (p : PressureNo) (a b : Code) : OwnKept s (pairEvent p a b s) :=
  .after (.of_lessRoles (pairEvent_lessRoles s p a b)) ⟨rfl, rfl, rfl, rfl⟩

theorem supplyEvent_ownKept (v : Nat) : OwnKept s (supplyEvent v s) :=
  .after (.of_lessSequencing (supplyEvent_lessSequencing s v)) ⟨rfl, rfl, rfl, rfl⟩

theorem inputEvent_ownKept (c : ChannelNo) (i : Input) (made : Bool) : OwnKept s (inputEvent c i made s) := by
  unfold inputEvent
  split
  · exact (OwnKept.of_lessSequencing (limitEvent_lessSequencing s c)).trans (startTests_ownKept _)
  · exact .ite (.of_lessSequencing (provingEvent_lessSequencing s made c)) (.refl s)
  · exact .refl s

theorem ownStatusAccepted_ownKept : OwnKept s (ownStatusAccepted s) := by
  have hearly (t : State) (b : Bool) : OwnKept t (if b then queueStatus t else t) :=
    .ite (queueStatus_ownKept t) (.refl t)
  have hfresh (b : Bool) : OwnKept s
      ((if b then
          s.withTrouble { s.trouble with record := s.trouble.record.map (fun r => { r with fresh := false }) }
        else s).withStatus { period := some periodTime, earlyPending := false, captured := none }) := by
    cases b <;> exact ⟨rfl, rfl, rfl, rfl⟩
  exact (hfresh _).trans (hearly _ _)

theorem completeListening_ownKept : OwnKept s (completeListening s) := by
  unfold completeListening
  split
  · exact .refl s
  · exact .after (.of_lessReports (raiseSilent_lessReports _)) ⟨rfl, rfl, rfl, rfl⟩

theorem settleRaises_ownKept (t : State) : OwnKept t (settleRaises s t) := .of_lessReports (settleRaises_lessReports s t)

theorem applyOverride_ownKept (w : Word) : OwnKept s (applyOverride w s) := by
  unfold applyOverride
  split
  · refine .trans ?_ (recompute_ownKept _)
    exact .after (.of_lessReports (statusNotice_lessReports _)) ⟨rfl, rfl, rfl, rfl⟩
  · exact .refl s

/-! ### The commands that leave the register and own declaration alone -/

/-- The commands that move neither the register nor the mode, and leave own declaration and the hold of RESET. -/
def quiet : Instr → Bool
  | .resetHold5s | .lineIdle _ | .attemptStart | .arbitrationLost _ | .failedAttempt | .retryWaitEnd _ => true
  | .panelResetPulse | .ackPulse _ | .pulseLineReturnInactive _ => true
  | .statusPeriodTimerExpiry | .spacingTimerExpiry _ | .silenceTimerExpiry _ => true
  | .holdOffExpiry | .provingTimerExpiry _ | .runDownTimerExpiry _ | .travelTimerExpiry _ => true
  | .provingSwitchChange _ _ | .limitChange _ _ _ => true
  | .graceTimerExpiry | .conversionADone _ | .pairComplete _ | .supplySample _ => true
  | _ => false

theorem storeInput_ownKept (c : ChannelNo) (i j : Input) (made : Bool) :
    OwnKept s ((storeInput c i made s).outside (inputEvent c j made)) :=
  .trans (t := storeInput c i made s) ⟨rfl, rfl, rfl, rfl⟩ (.outside (inputEvent_ownKept _ c j made))

theorem exec_quiet {i : Instr} {s t : State} (hq : quiet i = true) (h : exec i s = .next t) : OwnKept s t := by
  cases i with
  | resetHold5s =>
    obtain rfl := Host.Outcome.next.inj h
    exact .ite ⟨rfl, rfl, rfl, rfl⟩ (.refl s)
  | lineIdle levels =>
    obtain rfl := Host.Outcome.next.inj h
    exact .outside (.ite ⟨rfl, rfl, rfl, rfl⟩ (.refl s))
  | attemptStart =>
    obtain rfl := Host.Outcome.next.inj h
    refine .outside (.ite ?_ (.refl s))
    split
    · exact sendKind_ownKept s _
    · exact .refl s
  | arbitrationLost bit =>
    obtain rfl := Host.Outcome.next.inj h
    exact .outside (stopSending_ownKept s bit)
  | failedAttempt =>
    obtain rfl := Host.Outcome.next.inj h
    refine .outside (.ite (.trans ?_ (startTests_ownKept _)) (.refl s))
    refine .trans ?_ (countFailure_ownKept _)
    exact (endAttempt_ownKept s _ _).trans ⟨rfl, rfl, rfl, rfl⟩
  | retryWaitEnd b =>
    obtain rfl := Host.Outcome.next.inj h
    exact .outside (.ite (by cases b <;> exact ⟨rfl, rfl, rfl, rfl⟩) (.refl s))
  | panelResetPulse =>
    obtain rfl := Host.Outcome.next.inj h
    refine .ite (.refl s) (.after (.outside (.ite ⟨rfl, rfl, rfl, rfl⟩ (.refl _))) ⟨rfl, rfl, rfl, rfl⟩)
  | ackPulse together =>
    obtain rfl := Host.Outcome.next.inj h
    exact .ite (.refl s) (.after (.outside (.of_lessReports (acknowledge_lessReports _ _))) ⟨rfl, rfl, rfl, rfl⟩)
  | pulseLineReturnInactive line =>
    obtain rfl := Host.Outcome.next.inj h
    cases line <;> exact ⟨rfl, rfl, rfl, rfl⟩
  | statusPeriodTimerExpiry =>
    obtain rfl := Host.Outcome.next.inj h
    exact .outside (.ite (.after (queueStatus_ownKept _) ⟨rfl, rfl, rfl, rfl⟩) (.refl s))
  | spacingTimerExpiry peer =>
    obtain rfl := Host.Outcome.next.inj h
    exact .outside (setPeer_ownKept s _ _)
  | silenceTimerExpiry peer =>
    obtain rfl := Host.Outcome.next.inj h
    exact .outside ((silenceExpiry_ownKept s _).trans (settleRaises_ownKept s _))
  | holdOffExpiry =>
    obtain rfl := Host.Outcome.next.inj h
    exact .outside (.ite (.after (startTests_ownKept _) ⟨rfl, rfl, rfl, rfl⟩) (.refl s))
  | provingTimerExpiry c =>
    obtain rfl := Host.Outcome.next.inj h
    exact .outside (.of_lessSequencing (provingExpiry_lessSequencing s c))
  | runDownTimerExpiry c =>
    obtain rfl := Host.Outcome.next.inj h
    exact .outside (.of_lessSequencing (by simp))
  | travelTimerExpiry c =>
    obtain rfl := Host.Outcome.next.inj h
    exact .outside (.of_lessSequencing (by simp))
  | provingSwitchChange c made =>
    obtain rfl := Host.Outcome.next.inj h
    exact .ite (.refl s) (storeInput_ownKept s c _ _ made)
  | limitChange c i made =>
    obtain rfl := Host.Outcome.next.inj h
    exact .ite (.refl s) (storeInput_ownKept s c _ _ made)
  | graceTimerExpiry =>
    obtain rfl := Host.Outcome.next.inj h
    exact .outside (.of_lessRoles (graceExpiry_lessRoles s))
  | conversionADone code =>
    obtain rfl := Host.Outcome.next.inj h
    refine .outside ?_
    split
    · exact ⟨rfl, rfl, rfl, rfl⟩
    · exact .refl s
  | pairComplete code =>
    obtain rfl := Host.Outcome.next.inj h
    refine .outside ?_
    split
    · refine .trans ?_ (.ite (settleRaises_ownKept s _) (.refl _))
      exact .after (pairEvent_ownKept _ _ _ _) ⟨rfl, rfl, rfl, rfl⟩
    · exact .refl s
  | supplySample code =>
    obtain rfl := Host.Outcome.next.inj h
    refine .outside ?_
    split
    · exact .after (supplyEvent_ownKept _ _) ⟨rfl, rfl, rfl, rfl⟩
    · exact .refl s
  | _ => cases hq

end Sys2Proof.Machine
end

section
/-! Every command is a run of the register's events, and every run keeps the register's laws (R1 to R26). -/

namespace Sys2Proof.Machine

/-! ### The events of the register -/

/-- What an event makes of the register of a node in LISTEN, ACTIVE or MUTE (1.1, events that reach the register; R9, R12, R26). -/
inductive RegisterEvent (s : State) : IncidentRegister → Prop
  /-- A CLEAR (R14). -/
  | clear : RegisterEvent s (clearRegister s.reg)
  /-- Own FIRE-DECLARE, as far as it concerns own declaration (R12). -/
  | declared : RegisterEvent s (ownDeclared s.reg)
  /-- A FIRE-DECLARE (R6, R7). -/
  | declare (zone : Station) (words : List Word) : RegisterEvent s (declareFrame s.station zone.toNat words s.reg)
  /-- A STATUS (R16). -/
  | view (w2 w3 : Word) : RegisterEvent s (viewFrame s.station (readView w2 w3) s.reg)
  /-- The isolated-declaration timer expires (R13). -/
  | isolated (own : 1 ≤ s.station ∧ s.station ≤ 63) (list : NeighbourLaw s.station s.cfg.neighbours) :
    RegisterEvent s (isolatedExpiry s.station s.cfg.neighbours s.reg)
  /-- The declaration check succeeds (R9). -/
  | owed (absent : holdsZone s.station s.reg.records = false) : RegisterEvent s (oweDeclaration s.reg)
  /-- Sequencing resumes with a declaration owed (R26). -/
  | resumed (owed : s.reg.owed = true) : RegisterEvent s (resumeOwed s.station s.reg)

/-- What a command but RESET_HELD can do to register and mode: a run of register events in LISTEN, ACTIVE and MUTE, of moves into these
modes, of samplings of the straps and of cold resets. -/
inductive RegisterRun : State → State → Prop
  /-- Register, station and the standing of the mode stay, or the node enters LISTEN, ACTIVE or MUTE. -/
  | moved {s t : State} (reg : t.reg = s.reg) (station : t.station = s.station)
      (mode : t.ctl.mode.applies = false → s.ctl.mode.applies = false) (held : t.inReset = true → s.inReset = true) :
    RegisterRun s t
  | event {s t : State} {new : IncidentRegister} (applies : s.ctl.mode.applies = true) (h : RegisterEvent s new)
      (reg : t.reg = new) (ctl : t.ctl = s.ctl) (panel : t.panel = s.panel) : RegisterRun s t
  /-- Outside LISTEN, ACTIVE and MUTE the register stays, whatever station the straps give. -/
  | sampled {s t : State} (reg : t.reg = s.reg) (mode : s.ctl.mode.applies = false)
      (held : t.inReset = true → s.inReset = true) : RegisterRun s t
  | cold {s t : State} (reg : t.reg = State.reset.reg) (held : t.inReset = true → s.inReset = true) : RegisterRun s t
  | trans {s t u : State} (first : RegisterRun s t) (then_ : RegisterRun t u) : RegisterRun s u

namespace RegisterRun

variable {s t u : State}

theorem refl (s : State) : RegisterRun s s := .moved rfl rfl id id

theorem of_ownKept (h : OwnKept s t) : RegisterRun s t :=
  .moved h.reg (by simp only [State.station, h.ctl]) (by rw [h.ctl]; exact id) (by rw [h.held]; exact id)

theorem of_same (reg : t.reg = s.reg) (ctl : t.ctl = s.ctl) (panel : t.panel = s.panel) : RegisterRun s t :=
  .moved reg (by simp only [State.station, ctl]) (by rw [ctl]; exact id) (by simp only [State.inReset, panel]; exact id)

/-- Transitivity, the later part first. -/
theorem after (k : RegisterRun t u) (h : RegisterRun s t) : RegisterRun s u := h.trans k

theorem ite {p : Prop} [Decidable p] (h : RegisterRun s t) (k : RegisterRun s u) :
    RegisterRun s (if p then t else u) := by
  split
  · exact h
  · exact k

theorem outside {f : State → State} (h : RegisterRun s (f s)) : RegisterRun s (s.outside f) := .ite (.refl s) h

theorem settled (h : RegisterRun s t) : RegisterRun s (settleRaises u t) :=
  h.trans (.of_ownKept (settleRaises_ownKept u t))

theorem startTests (h : RegisterRun s t) : RegisterRun s (startTests t) := h.trans (.of_ownKept (startTests_ownKept t))

theorem recompute (h : RegisterRun s t) : RegisterRun s (recompute t) := h.trans (.of_ownKept (recompute_ownKept t))

theorem whenApplied {f : State → State} (h : s.ctl.mode.applies = true → RegisterRun s (f s)) :
    RegisterRun s (whenApplied f s) := by
  unfold Machine.whenApplied
  split
  · next ha => exact h ha
  · exact .refl s

end RegisterRun

variable (s : State)

/-! ### The register's events as they reach the node -/

theorem registerEvent_run {new : IncidentRegister} (ha : s.ctl.mode.applies = true) (h : RegisterEvent s new) :
    RegisterRun s (registerEvent new s) := by
  obtain ⟨hctl, hreg, -, -, -, hpanel, -⟩ := lessRoles_eq (registerEvent_lessRoles s new)
  exact .event ha h hreg hctl hpanel

theorem placeDeclare_keeps :
    (placeDeclare s).reg = s.reg ∧ (placeDeclare s).ctl = s.ctl ∧ (placeDeclare s).panel = s.panel := by
  unfold placeDeclare
  split <;> exact ⟨rfl, rfl, rfl⟩

theorem replaceDeclare_run : RegisterRun s (replaceDeclare s) := by
  obtain ⟨hreg, hctl, hpanel⟩ := placeDeclare_keeps s
  exact .ite (.of_same hreg hctl hpanel) (.refl s)

theorem declarationCheck_run : RegisterRun s (declarationCheck s) := by
  unfold declarationCheck
  split
  · next h =>
    obtain ⟨ha, -, habsent, -⟩ := h
    obtain ⟨hreg, hctl, hpanel⟩ := placeDeclare_keeps (s.withReg (oweDeclaration s.reg))
    exact .event ha (.owed habsent) hreg hctl hpanel
  · exact .refl s

theorem resumeDeclaration_run (ha : s.ctl.mode.applies = true) : RegisterRun s (resumeDeclaration s) := by
  unfold resumeDeclaration
  split
  · next howed =>
    obtain ⟨hreg, hctl, hpanel⟩ := placeDeclare_keeps (s.withReg (resumeOwed s.station s.reg))
    exact .event ha (.resumed howed) hreg hctl hpanel
  · exact declarationCheck_run s

/-! ### The modes -/

/-- An entry to LISTEN, ACTIVE or MUTE that has set the mode and its timers. -/
theorem setMode_run (m : Mode) (x : ModeCtl) (hs : x.straps = s.ctl.straps) (hm : m.applies = true) :
    RegisterRun s (setMode m (s.withCtl x)) :=
  .moved (t := setMode m (s.withCtl x)) rfl (by change (x.straps.map _).getD 0 = _; rw [hs]; rfl)
    (fun h => by change m.applies = false at h; rw [hm] at h; cases h) id

theorem enterActive_run : RegisterRun s (enterActive s) := by
  refine .startTests (.after (.of_ownKept (completeListening_ownKept _)) ?_)
  refine .after (.of_ownKept (.of_lessRoles (graceStart_lessRoles _))) ?_
  refine .after (.of_ownKept (.of_lessSequencing (startSequencers_lessSequencing _))) ?_
  exact .recompute (setMode_run s _ _ rfl rfl)

theorem endListenOnAlarm_run : RegisterRun s (endListenOnAlarm s) := .ite (enterActive_run s) (.refl s)

theorem beginListen_run : RegisterRun s (beginListen s) :=
  .after (.of_ownKept (startStagger_ownKept _)) (setMode_run s _ _ rfl rfl)

theorem enterListen_run : RegisterRun s (enterListen s) := by
  refine .after (endListenOnAlarm_run _) (.recompute (.after (declarationCheck_run _) ?_))
  exact (beginListen_run s).trans (.moved rfl rfl id id)

theorem enterMute_run (o : Origin) : RegisterRun s (enterMute o s) := by
  refine .startTests (.recompute (.after (.of_ownKept (.of_lessReports (raise_lessReports _ _))) ?_))
  exact (setMode_run s .mute _ rfl rfl).trans (.moved rfl rfl id id)

theorem evidence_run : RegisterRun s (evidence s) := by
  unfold evidence
  split
  · exact enterMute_run s _
  · exact enterMute_run s _
  · exact .moved rfl rfl id id
  · exact .refl s

theorem leaveMute_run : RegisterRun s (leaveMute s) := by
  have hended : RegisterRun s (endCond (plainCond .stationConflict) s) :=
    .of_ownKept (.of_lessReports (endCond_lessReports _ _))
  refine hended.trans ?_
  unfold leaveMute
  dsimp only
  split
  · refine .after (endListenOnAlarm_run _) (.recompute (.after (declarationCheck_run _) ?_))
    exact .after (replaceDeclare_run _) (beginListen_run _)
  · refine .startTests (.after (.of_ownKept (completeListening_ownKept _)) (.recompute ?_))
    refine .after (replaceDeclare_run _) (.after (.of_ownKept (startStagger_ownKept _)) ?_)
    exact setMode_run _ _ _ rfl rfl

theorem enterLockout_ownKept : OwnKept (setMode .lockout s) (enterLockout s) :=
  .after (startStagger_ownKept _) (.of_lessReports (raise_lessReports _ _))

/-- The sampling leaves the register and the hold of RESET. -/
theorem sampleStraps_keeps (p : StrapPins) :
    (sampleStraps p s).reg = s.reg ∧ (sampleStraps p s).inReset = s.inReset := by
  unfold sampleStraps
  dsimp only
  split
  · exact ⟨(enterLockout_ownKept _).reg, (enterLockout_ownKept _).held⟩
  · exact ⟨rfl, rfl⟩

theorem sampleStraps_run (p : StrapPins) (h : s.ctl.mode.applies = false) : RegisterRun s (sampleStraps p s) := by
  obtain ⟨hreg, hheld⟩ := sampleStraps_keeps s p
  exact .sampled hreg h (by rw [hheld]; exact id)

theorem coldReset_run (p : StrapPins) : RegisterRun s (coldReset p s) := by
  obtain ⟨hreg, hheld⟩ := sampleStraps_keeps (coldState p s) p
  refine .cold hreg fun h => ?_
  rw [coldReset, hheld] at h
  cases h

theorem configRead_run (b : ConfigBytes) (h : s.ctl.mode.applies = false) : RegisterRun s (configRead b s) := by
  unfold configRead
  split
  · exact .after (enterListen_run _) (.moved rfl rfl id id)
  · exact .sampled (enterLockout_ownKept s).reg h (by rw [(enterLockout_ownKept s).held]; exact id)

/-! ### Warm reset -/

theorem resumeConditions_lessReports : (resumeConditions s).lessReports = s.lessReports := by simp [resumeConditions]

/-- The part of a resumption that comes before own declaration: scan, peers, stagger, hold-off and conditions. -/
def resumeBefore (s : State) : State :=
  let u := startStagger (resumePeers (resumeMeasure s))
  raiseSilent (resumeConditions (u.withStarts { u.starts with holdOff := some u.ownHoldOff }))

theorem resumeBlocks_eq : resumeBlocks s = resumeContain (recompute (resumeDeclaration (resumeBefore s))) := rfl

theorem resumeBefore_ownKept : OwnKept s (resumeBefore s) := by
  have hstagger : OwnKept s (startStagger (resumePeers (resumeMeasure s))) :=
    .after (startStagger_ownKept _) ⟨rfl, rfl, rfl, rfl⟩
  have hreports (t : State) : OwnKept t (raiseSilent (resumeConditions t)) :=
    .of_lessReports ((raiseSilent_lessReports _).trans (resumeConditions_lessReports t))
  exact .after (hreports _) (hstagger.trans ⟨rfl, rfl, rfl, rfl⟩)

/-- What comes after own declaration. -/
theorem resumeAfter_ownKept (t : State) : OwnKept t (resumeContain (recompute t)) :=
  (recompute_ownKept t).trans (.of_lessRoles (resumeContain_lessRoles _))

theorem resumeBlocks_run (ha : s.ctl.mode.applies = true) : RegisterRun s (resumeBlocks s) := by
  rw [resumeBlocks_eq]
  refine .after (.of_ownKept (resumeAfter_ownKept _)) ?_
  exact .after (resumeDeclaration_run _ (by rw [(resumeBefore_ownKept s).ctl]; exact ha)) (.of_ownKept (resumeBefore_ownKept s))

theorem resumeListen_run : RegisterRun s (resumeListen s) := by
  refine .after (endListenOnAlarm_run _) (.after (resumeBlocks_run _ rfl) ?_)
  exact .after (setMode_run _ _ _ rfl rfl) (.moved rfl rfl id id)

theorem resumeActive_run : RegisterRun s (resumeActive s) := by
  refine .startTests (.after (.of_ownKept (completeListening_ownKept _)) ?_)
  refine .after (.of_ownKept (.of_lessSequencing (resumeSequencers_lessSequencing _ _))) ?_
  exact .after (resumeBlocks_run _ rfl) (.after (setMode_run _ _ _ rfl rfl) (.moved rfl rfl id id))

theorem warmReset_run : RegisterRun s (warmReset s) := by
  have hreleased : RegisterRun s (releaseReset s) := .moved rfl rfl id fun h => by cases h
  refine hreleased.trans ?_
  unfold warmReset
  dsimp only
  split
  · next h => exact sampleStraps_run _ _ (by rw [h]; rfl)
  · exact .refl _
  · exact resumeListen_run _
  · exact resumeActive_run _
  · exact resumeActive_run _
  · exact .of_ownKept (.after (startStagger_ownKept _) (.of_lessReports (raise_lessReports _ _)))

/-! ### Accepted frames -/

theorem ownFrameOut_keeps :
    (ownFrameOut s).reg = s.reg ∧ (ownFrameOut s).ctl = s.ctl ∧ (ownFrameOut s).panel = s.panel := by
  unfold ownFrameOut
  split
  · exact ⟨rfl, rfl, rfl⟩
  · next a _ =>
    obtain ⟨hctl, hreg, -, -, -, -, -, -, hpanel, -⟩ := lessReports_eq (endCond_lessReports (s.withLink
      { s.link with
        line := .closed, run := 0, attempt := none, queue := s.link.queue.put a.kind false, failCount := 0, txFail := false })
      (plainCond .txFail))
    exact ⟨hreg, hctl, hpanel⟩

theorem detectConflict_run (own : Bool) (f : Frame) : RegisterRun s (detectConflict own f s) :=
  .ite (evidence_run s) (.refl s)

/-- An accepted frame is a run when the blocks' part is one. -/
theorem acceptFrame_run (own : Bool) (f : Frame) {blocks : State → State} (h : ∀ u, RegisterRun u (blocks u)) :
    RegisterRun s (acceptFrame own f blocks s) := by
  have hlink : RegisterRun s (if own then ownFrameOut s else otherFrameIn s) := by
    refine .ite ?_ (.of_ownKept (otherFrameIn_ownKept s))
    obtain ⟨hreg, hctl, hpanel⟩ := ownFrameOut_keeps s
    exact .of_same hreg hctl hpanel
  exact .ite (.settled (.startTests (.after (detectConflict_run _ _ _) (.after (h _) hlink)))) (.refl s)

theorem applyClear_run (ha : s.ctl.mode.applies = true) : RegisterRun s (applyClear s) :=
  .after (declarationCheck_run _) (registerEvent_run s ha .clear)

theorem applyDeclare_run (own : Bool) (z : Station) (words : List Word) (ha : s.ctl.mode.applies = true) :
    RegisterRun s (applyDeclare own z words s) := by
  unfold applyDeclare
  cases own with
  | false => exact registerEvent_run s ha (.declare z words)
  | true =>
    exact .after (registerEvent_run (s.withReg (ownDeclared s.reg)) ha (.declare z words))
      (.event ha .declared rfl rfl rfl)

theorem applyView_run (z : Station) (w2 w3 : Word) (ha : s.ctl.mode.applies = true) :
    RegisterRun s (applyView z w2 w3 s) := by
  unfold applyView
  split
  · exact .refl s
  · obtain ⟨hctl, hreg, -, -, -, -, -, -, hpanel, -⟩ :=
      lessReports_eq (storeRegister_lessReports s (viewFrame s.station (readView w2 w3) s.reg))
    exact .event ha (.view w2 w3) hreg hctl hpanel

theorem applyStatus_run (own : Bool) (z : Station) (w1 w2 w3 : Word) : RegisterRun s (applyStatus own z w1 w2 w3 s) := by
  have hpeer : RegisterRun s
      (if own then ownStatusAccepted s
        else whenApplied (storeStatus z.toNat { mode := readMode w1, contain := readContain w1 }) s) :=
    .ite (.of_ownKept (ownStatusAccepted_ownKept s)) (.whenApplied fun _ => .of_ownKept (storeStatus_ownKept s _ _))
  have hview (t : State) : RegisterRun t (whenApplied (applyView z w2 w3) t) :=
    .whenApplied (applyView_run t z w2 w3)
  exact .ite (.recompute (hpeer.trans (hview _))) (hpeer.trans (hview _))

theorem alarmEvent_run (active : Bool) : RegisterRun s (alarmEvent active s) := by
  have hnotice : RegisterRun s (statusNotice s) := .of_ownKept (.of_lessReports (statusNotice_lessReports s))
  refine hnotice.trans ?_
  unfold alarmEvent
  dsimp only
  split
  · exact (declarationCheck_run _).trans (.ite (enterActive_run _) (.refl _))
  · exact .refl _

/-! ### Every command -/

/-- In LISTEN, ACTIVE and MUTE own station is a zone, and own configured list is lawful (R166). -/
theorem modeLaw_own {s : State} (h : ModeLaw s) (ha : s.ctl.mode.applies = true) :
    (1 ≤ s.station ∧ s.station ≤ 63) ∧ NeighbourLaw s.station s.cfg.neighbours := by
  obtain ⟨-, -, -, -, -, hstart, hstraps, hone, hconfig, hlaw, -⟩ := h
  obtain ⟨k, hk⟩ := Option.isSome_iff_exists.1 (hconfig.2 ha)
  refine ⟨⟨hone (.inr ha), ?_⟩, ?_⟩
  · cases hx : s.ctl.straps with
    | none => simp [State.station, hx]
    | some x => simpa [State.station, hx] using (hstraps x (by simp [hx])).1
  · obtain ⟨hlist, -⟩ := hlaw k (by simp [hk])
    simpa [State.cfg, hk] using hlist

/-- A running isolated-declaration timer stands in LISTEN, ACTIVE or MUTE (R5, R9). -/
theorem applies_of_isoTimer {s : State} (h : RegisterLaw s) (ht : s.reg.isoTimer.isSome = true) :
    s.ctl.mode.applies = true := by
  obtain ⟨-, htimer, -, hempty⟩ := h
  by_contra ha
  have howed := (hempty (Bool.not_eq_true _ ▸ ha)).2
  rw [(htimer ht).1] at howed
  cases howed

theorem exec_run {i : Instr} {s t : State} (hi : i ≠ .resetHeld) (hmode : ModeLaw s) (hreg : RegisterLaw s)
    (h : exec i s = .next t) : RegisterRun s t := by
  by_cases hq : quiet i = true
  · exact .of_ownKept (exec_quiet hq h)
  cases i with
  | powerUp p =>
    obtain rfl := Host.Outcome.next.inj h
    exact coldReset_run s p
  | coldReset p =>
    obtain rfl := Host.Outcome.next.inj h
    exact coldReset_run s p
  | resetHeld => exact absurd rfl hi
  | warmReset =>
    obtain rfl := Host.Outcome.next.inj h
    exact .ite (.settled (warmReset_run s)) (.refl s)
  | configReadDone block =>
    obtain rfl := Host.Outcome.next.inj h
    refine .outside ?_
    split
    · next hm => exact .settled (configRead_run s block (by rw [hm]; rfl))
    · exact .refl s
  | listenTimerExpiry =>
    obtain rfl := Host.Outcome.next.inj h
    exact .outside (.ite (.settled (enterActive_run s)) (.refl s))
  | muteQuietTimerExpiry =>
    obtain rfl := Host.Outcome.next.inj h
    exact .outside (.ite (.settled (leaveMute_run s)) (.refl s))
  | duplicateKeyStop bit =>
    obtain rfl := Host.Outcome.next.inj h
    exact .outside (.ite (.after (evidence_run _) (.of_ownKept (stopSending_ownKept s bit))) (.refl s))
  | clearAccepted z w =>
    obtain rfl := Host.Outcome.next.inj h
    exact acceptFrame_run s _ _ fun u => .whenApplied (applyClear_run u)
  | overrideAccepted z w =>
    obtain rfl := Host.Outcome.next.inj h
    exact acceptFrame_run s _ _ fun u => .whenApplied fun _ => .of_ownKept (applyOverride_ownKept u w)
  | fireDeclareAccepted z words =>
    obtain rfl := Host.Outcome.next.inj h
    exact acceptFrame_run s _ _ fun u => .whenApplied (applyDeclare_run u _ z words)
  | startClaimAccepted urgent z w =>
    obtain rfl := Host.Outcome.next.inj h
    refine acceptFrame_run s _ _ fun u => ?_
    split
    · exact .of_ownKept (.of_lessSequencing (ownClaim_lessSequencing u))
    · exact .whenApplied fun _ => .of_ownKept (.of_lessSequencing (peerClaim_lessSequencing u _))
  | statusAccepted z w1 w2 w3 w4 =>
    obtain rfl := Host.Outcome.next.inj h
    exact acceptFrame_run s _ _ fun u => applyStatus_run u _ z w1 w2 w3
  | otherFrameAccepted cls z words =>
    obtain rfl := Host.Outcome.next.inj h
    exact acceptFrame_run s _ _ fun u => .refl u
  | isolatedDeclarationTimerExpiry =>
    obtain rfl := Host.Outcome.next.inj h
    refine .outside ?_
    split
    · next ht =>
      have ha := applies_of_isoTimer hreg ht
      obtain ⟨hown, hlist⟩ := modeLaw_own hmode ha
      exact registerEvent_run s ha (.isolated hown hlist)
    · exact .refl s
  | alarmChange active =>
    obtain rfl := Host.Outcome.next.inj h
    refine .ite (.refl s) (.settled ?_)
    exact .after (.outside (alarmEvent_run _ active)) (.moved rfl rfl id id)
  | _ => exact absurd rfl hq

/-! ### The laws along a run (R1, R2, R5, R9, R11) -/

/-- What the laws say of the register of a node in LISTEN, ACTIVE or MUTE with that station. -/
def RegisterOk (own : Nat) (reg : IncidentRegister) : Prop :=
  ListLaw reg.records ∧ (reg.isoTimer.isSome = true → reg.owed = true ∧ holdsZone own reg.records = false)
    ∧ AtMost isolatedTime reg.isoTimer

theorem registerLaw_iff {s : State} : RegisterLaw s ↔
    RegisterOk s.station s.reg ∧ (s.ctl.mode.applies = false → s.reg.records = [] ∧ s.reg.owed = false) := by
  simp only [RegisterLaw, RegisterOk, and_assoc]

theorem atMost_none (n : Nat) : AtMost n none := by simp [AtMost]

/-- A new list, with own declaration as it was: the timer stops where own zone enters (R11). -/
theorem RegisterOk.stopped {own : Nat} {reg new : IncidentRegister} (h : RegisterOk own reg) (hlist : ListLaw new.records)
    (howed : new.owed = reg.owed) (htime : new.isoTimer = reg.isoTimer) : RegisterOk own (stopIfEntered own reg new) := by
  obtain ⟨-, htimer, hatMost⟩ := h
  refine ⟨by rw [stopIfEntered_records]; exact hlist, ?_, ?_⟩
  all_goals rw [stopIfEntered_isoTimer, htime]
  · split
    · simp
    · next hstays =>
      intro hruns
      obtain ⟨hnow, habsent⟩ := htimer hruns
      rw [stopIfEntered_owed, howed, stopIfEntered_records]
      exact ⟨hnow, by simpa [habsent] using hstays⟩
  · split
    · exact atMost_none _
    · exact hatMost

/-- Every event of the register keeps its laws. -/
theorem RegisterEvent.ok {s : State} {new : IncidentRegister} (h : RegisterEvent s new) (hok : RegisterOk s.station s.reg) :
    RegisterOk s.station new := by
  obtain ⟨hlist, htimer, hatMost⟩ := id hok
  cases h with
  | clear =>
    refine ⟨listLaw_nil, fun hruns => ⟨?_, rfl⟩, ?_⟩
    · simp only [clearRegister] at hruns ⊢
      cases ho : s.reg.owed
      · simp [ho] at hruns
      · rfl
    · simp only [clearRegister]
      split
      · split
        · next t ht => rw [← ht]; exact hatMost
        · simp [AtMost]
      · exact atMost_none _
  | declared => exact ⟨hlist, by simp [ownDeclared], atMost_none _⟩
  | declare zone words =>
    unfold declareFrame
    split
    · exact hok
    · next hz =>
      split
      · exact hok
      · next ns hread =>
        exact hok.stopped (classify_listLaw hlist ⟨Nat.pos_of_ne_zero hz, Nat.le_of_lt_succ zone.isLt⟩ (by simp)
          (readDeclare_law hread)) (classify_owed ..) (classify_isoTimer ..)
  | view w2 w3 =>
    cases hv : readView w2 w3 with
    | none => exact hok
    | some v =>
      unfold viewFrame
      dsimp only
      split_ifs with hempty hagrees
      · exact hok.stopped (learnedRecords_listLaw (readView_law hv)) rfl rfl
      · exact hok
      · exact hok.stopped (mergeView_listLaw hlist hempty (readView_law hv)) (mergeView_owed ..) (mergeView_isoTimer ..)
  | isolated own list =>
    refine ⟨classify_listLaw hlist own (by simp) list, ?_, ?_⟩
    all_goals rw [isolatedExpiry, classify_isoTimer]
    · simp
    · exact atMost_none _
  | owed absent => exact ⟨hlist, fun _ => ⟨rfl, absent⟩, by simp [AtMost, oweDeclaration]⟩
  | resumed owed =>
    refine ⟨hlist, ?_, ?_⟩
    all_goals simp only [resumeOwed]
    · cases hh : holdsZone s.station s.reg.records <;> simp [owed]
    · split
      · exact atMost_none _
      · simp [AtMost]

/-- Outside LISTEN, ACTIVE and MUTE the register is lawful for whatever station. -/
theorem registerOk_of_empty {own : Nat} {reg : IncidentRegister} (h : RegisterOk own reg)
    (he : reg.records = [] ∧ reg.owed = false) (own' : Nat) : RegisterOk own' reg := by
  obtain ⟨hlist, htimer, hatMost⟩ := h
  exact ⟨hlist, fun hruns => absurd (htimer hruns).1 (by simp [he.2]), hatMost⟩

theorem registerOk_reset (own : Nat) : RegisterOk own State.reset.reg :=
  ⟨listLaw_nil, by simp [State.reset], atMost_none _⟩

theorem RegisterRun.held {s t : State} (h : RegisterRun s t) : t.inReset = true → s.inReset = true := by
  induction h with
  | moved _ _ _ held => exact held
  | event _ _ _ _ panel => simp only [State.inReset, panel]; exact id
  | sampled _ _ held => exact held
  | cold _ held => exact held
  | trans _ _ ih ih' => exact fun h => ih (ih' h)

theorem RegisterRun.keeps {s t : State} (h : RegisterRun s t) : RegisterLaw s → RegisterLaw t := by
  simp only [registerLaw_iff]
  induction h with
  | moved reg station mode _ =>
    rw [reg, station]
    exact fun ⟨hok, hempty⟩ => ⟨hok, fun hm => hempty (mode hm)⟩
  | event applies event reg ctl _ =>
    rintro ⟨hok, -⟩
    rw [reg, State.station, ctl]
    exact ⟨event.ok hok, fun hm => by rw [applies] at hm; cases hm⟩
  | sampled reg mode _ =>
    rintro ⟨hok, hempty⟩
    rw [reg]
    exact ⟨registerOk_of_empty hok (hempty mode) _, fun _ => hempty mode⟩
  | cold reg _ =>
    rw [reg]
    exact fun _ => ⟨registerOk_reset _, fun _ => ⟨rfl, rfl⟩⟩
  | trans _ _ ih ih' => exact fun hs => ih' (ih hs)

/-- RESET_HELD leaves the register and the Mode Controller (R156). -/
theorem resetHeld_keeps {s t : State} (h : exec .resetHeld s = .next t) : t.reg = s.reg ∧ t.ctl = s.ctl := by
  obtain rfl := Host.Outcome.next.inj h
  dsimp only [State.outside]
  split <;> exact ⟨rfl, rfl⟩

theorem exec_registerLaw {i : Instr} {s t : State} (hmode : ModeLaw s) (hreg : RegisterLaw s)
    (h : exec i s = .next t) : RegisterLaw t := by
  by_cases hi : i = .resetHeld
  · subst hi
    obtain ⟨hr, hc⟩ := resetHeld_keeps h
    simpa only [RegisterLaw, State.station, hr, hc] using hreg
  · exact (exec_run hi hmode hreg h).keeps hreg

/-! ### One millisecond -/

theorem countDown_isSome (n : Nat) (t : Option Nat) : (countDown n t).isSome = t.isSome := by cases t <;> rfl

theorem atMost_countDown {m : Nat} (n : Nat) {t : Option Nat} (h : AtMost m t) : AtMost m (countDown n t) := by
  cases t with
  | none => exact atMost_none m
  | some r =>
    have hr : r ≤ m := h r (by simp)
    simpa [AtMost, countDown] using Nat.le_trans (Nat.sub_le r n) hr

/-- Counting the sequencers' timers is sequencing. -/
theorem tickSequencers_lessSequencing : (tickSequencers s).lessSequencing = s.lessSequencing := by
  unfold tickSequencers
  refine foldl_keeps s State.lessSequencing _ (fun t c => ?_) allChannels
  exact setCh_lessSequencing t c _ (t.ch c).output

/-- A millisecond counts the register's timer, outside reset alone, and leaves mode, straps and configuration. -/
theorem passMs_register : (passMs s).ctl.mode = s.ctl.mode ∧ (passMs s).station = s.station
    ∧ (passMs s).reg = if s.inReset then s.reg else { s.reg with isoTimer := countDown 1 s.reg.isoTimer } := by
  have hlines (t : State) : (endAck (tickLines t)).ctl = t.ctl ∧ (endAck (tickLines t)).reg = t.reg := ⟨rfl, rfl⟩
  obtain ⟨hctl, hreg⟩ := hlines (s.outside tickTimers)
  have hpass : passMs s = endAck (tickLines (s.outside tickTimers)) := rfl
  simp only [State.station, hpass, hctl, hreg]
  cases hr : s.inReset with
  | true => rw [outside_of_inReset hr]; exact ⟨rfl, rfl, rfl⟩
  | false =>
    rw [outside_of_not_inReset hr]
    obtain ⟨hctl', hreg', -⟩ := lessSequencing_eq (tickSequencers_lessSequencing _)
    simp only [tickTimers]
    rw [hctl', hreg']
    exact ⟨rfl, rfl, rfl⟩

theorem passMs_registerLaw {s : State} (h : RegisterLaw s) : RegisterLaw (passMs s) := by
  obtain ⟨hmode, hstation, hreg⟩ := passMs_register s
  rw [registerLaw_iff] at h ⊢
  obtain ⟨⟨hlist, htimer, hatMost⟩, hempty⟩ := h
  rw [hmode, hstation, hreg]
  split
  · exact ⟨⟨hlist, htimer, hatMost⟩, hempty⟩
  · refine ⟨⟨hlist, fun hruns => htimer ?_, atMost_countDown 1 hatMost⟩, hempty⟩
    rwa [countDown_isSome] at hruns

end Sys2Proof.Machine

open Sys2Proof Sys2Proof.Machine in
/-- Settles O5: every command is a run of the register's events, each of which keeps the laws, and a millisecond counts the timer. -/
theorem stepKeepsRegisterLaw : Obligations.StepKeepsRegisterLaw := by
  intro s t hmode hreg hstep
  rcases step_cases hstep with ⟨i, rest, hexec⟩ | rfl
  · exact exec_registerLaw (s := s.withPending rest) hmode hreg hexec
  · exact passMs_registerLaw hreg
end

section
/-! The active condition set and what its causes read (R4, R58, R85, R95, R104, R115, R132, R152, R157, R158). -/

namespace Sys2Proof.Machine

/-! ### What the causes read -/

/-- What a node holds of everything that can be the cause of a condition; `seq` is the condition a channel's sequencer has. -/
structure Causes where
  mode     : Mode
  config   : Option NodeConfig
  txFail   : Bool
  supply   : Supply
  fault    : PressureNo → Bool
  contain  : ContainState
  presence : Nat → Presence
  listened : Bool
  split    : Bool
  full     : Bool
  seq      : ChannelNo → Option Cond

def causes (s : State) : Causes where
  mode := s.ctl.mode
  config := s.ctl.config
  txFail := s.link.txFail
  supply := s.meas.supply
  fault p := (s.pressure p).fault
  contain := s.contain.state
  presence z := (s.peer z).presence
  listened := s.peers.listened
  split := s.reg.splitLatch
  full := s.reg.fullLatch
  seq d := seqCond d (s.ch d).seq

/-- A code of a channel's sequencer. -/
def CondCode.ofChannel (k : CondCode) : Bool := decide (k.block = .channelSequencers)

/-- The cause of a condition, in terms of what the causes read. -/
def Causes.stand (x : Causes) (c : Cond) : Prop :=
  match c.code with
  | .configBad => x.mode = .lockout
  | .stationConflict => x.mode = .mute
  | .txFail => x.txFail = true
  | .fieldSupplyFail => x.supply = .fail
  | .fieldSupplyLow => x.supply ≠ .normal
  | .sensorFault => ∃ p : PressureNo, c = sensorFault p ∧ x.fault p = true
  | .containmentNotAchieved => x.contain = .notAchieved
  | .neighbourSilent =>
    c.qualifier ∈ (x.config.getD blankConfig).neighbours
      ∧ (x.presence c.qualifier = .lost ∨ (x.presence c.qualifier = .unknown ∧ x.listened = true))
  | .incidentSplit => x.split = true
  | .registerFull => x.full = true
  | _ => ∃ d, x.seq d = some c

/-- The condition of a sequencer is one of its own channel. -/
theorem seqCond_spec {d : ChannelNo} {q : Sequencer} {c : Cond} (h : seqCond d q = some c) :
    c.code.ofChannel = true ∧ c.qualifier = d.val + 1 := by
  unfold seqCond at h
  split at h <;> cases h <;> exact ⟨rfl, rfl⟩

theorem causeStands_iff (s : State) (c : Cond) : causeStands s c ↔ (causes s).stand c := by
  obtain ⟨code, n⟩ := c
  cases code <;> try exact Iff.rfl
  all_goals
    refine exists_congr fun d => ?_
    simp only [causes]
    generalize (s.ch d).seq = q
    rcases q with _ | ⟨st, t⟩ | ⟨st, p, r⟩
    · simp [seqCond, Sequencer.travelState, Sequencer.fanState]
    · cases st <;> simp [seqCond, Sequencer.travelState, Sequencer.fanState, chanCond, eq_comm]
    · rcases st with _ | _ | _ | _ | _ | _ | _ | _ | cause | _
      case failedOff => cases cause <;> simp [seqCond, Sequencer.travelState, Sequencer.fanState, chanCond, eq_comm]
      all_goals simp [seqCond, Sequencer.travelState, Sequencer.fanState, chanCond, eq_comm]

theorem masked_congr {s t : State} (h : t.ctl.config = s.ctl.config) (c : Cond) : masked c t = masked c s := by
  unfold masked masked.flagClear State.cfg
  rw [h]

/-- Only a channel's codes have a trouble-enable flag (R158). -/
theorem masked_plain {c : Cond} (h : c.code.ofChannel = false) (s : State) : masked c s = false := by
  obtain ⟨code, n⟩ := c
  cases code <;> first | rfl | cases h

/-- A code without a qualifier (R157). -/
def CondCode.plain (k : CondCode) : Bool :=
  !k.ofChannel && decide (k ≠ .sensorFault) && decide (k ≠ .neighbourSilent)

/-- A condition whose code has no qualifier is the one of that code. -/
theorem eq_plainCond {c : Cond} {k : CondCode} (h : QualifierLaw c) (hc : c.code = k) (hk : k.plain = true) :
    c = plainCond k := by
  subst hc
  obtain ⟨code, n⟩ := c
  cases code <;> first | (cases hk; done) | (cases h; rfl)

theorem code_ne_of_ne {c : Cond} {k : CondCode} (h : QualifierLaw c) (hne : c ≠ plainCond k) (hk : k.plain = true) :
    c.code ≠ k := fun hc => hne (eq_plainCond h hc hk)

/-! ### A condition in step with its cause -/

/-- The active set has the condition exactly while its cause stands and no cleared flag masks it (R157, R158). -/
def InStep (c : Cond) (s : State) : Prop := c ∈ s.trouble.active ↔ (causes s).stand c ∧ masked c s = false

theorem conditionLaw_iff {s : State} : ConditionLaw s ↔
    (s.inReset = true → s.trouble.active = []) ∧ (s.inReset = false → ∀ c, QualifierLaw c → InStep c s)
      ∧ (s.ctl.mode.applies = false → s.reg.fullLatch = false ∧ s.reg.splitLatch = false) := by
  simp only [ConditionLaw, InStep, causeStands_iff]

/-- What every cause reads and the active set itself are as they were. -/
structure SameConditions (s t : State) : Prop where
  causes : causes t = causes s
  active : t.trouble.active = s.trouble.active

variable {c d : Cond} {s t : State}

theorem SameConditions.trans {u : State} (h : SameConditions s t) (k : SameConditions t u) : SameConditions s u :=
  ⟨k.causes.trans h.causes, k.active.trans h.active⟩

theorem causes_config (h : causes t = causes s) : t.ctl.config = s.ctl.config := congrArg Causes.config h

theorem InStep.same (h : InStep c s) (hs : SameConditions s t) : InStep c t := by
  unfold InStep
  rw [hs.causes, hs.active, masked_congr (causes_config hs.causes)]
  exact h

/-- Reports read no cause but TX-FAIL, which they leave. -/
theorem causes_of_lessReports (h : t.lessReports = s.lessReports) : causes t = causes s := by
  obtain ⟨ctl, reg, -, chans, -, meas, contain, peers, -, -⟩ := lessReports_eq h
  obtain ⟨-, -, -, -, txFail, -⟩ := lessReports_eq_link h
  simp only [causes, State.pressure, State.peer, State.ch, ctl, reg, chans, meas, contain, peers, txFail]

theorem mem_raise_iff : c ∈ (raise d s).trouble.active ↔ c ∈ s.trouble.active ∨ (c = d ∧ masked c s = false) := by
  by_cases hm : masked d s = true
  · rw [raise_idle s d (.inl hm)]
    refine ⟨.inl, ?_⟩
    rintro (h | ⟨rfl, h⟩)
    · exact h
    · rw [hm] at h; cases h
  · have hm : masked d s = false := by simpa using hm
    rw [mem_raise s d c hm]
    refine ⟨?_, ?_⟩
    · rintro (rfl | h)
      · exact .inr ⟨rfl, hm⟩
      · exact .inl h
    · rintro (h | ⟨rfl, -⟩)
      · exact .inr h
      · exact .inl rfl

/-- A raise: the other conditions stay in step, and its own is in step where its cause stands. -/
theorem raise_inStep (h : c ≠ d → InStep c s) (hd : c = d → (causes s).stand d ∧ masked d s = false) :
    InStep c (raise d s) := by
  have hcauses := causes_of_lessReports (raise_lessReports s d)
  rw [InStep, mem_raise_iff, hcauses, masked_congr (causes_config hcauses)]
  by_cases e : c = d
  · subst e
    obtain ⟨hstand, hmask⟩ := hd rfl
    simp [hstand, hmask]
  · simpa [InStep, e] using h e

/-- An end: the other conditions stay in step, and its own is in step where no cause of it stands. -/
theorem endCond_inStep (h : c ≠ d → InStep c s) (hd : c = d → ¬ (causes s).stand d) : InStep c (endCond d s) := by
  have hcauses := causes_of_lessReports (endCond_lessReports s d)
  rw [InStep, mem_endCond, hcauses, masked_congr (causes_config hcauses)]
  by_cases e : c = d
  · subst e
    simp [hd rfl]
  · simpa [InStep, e] using h e

theorem followLatch_inStep {b : Bool} (h : c ≠ d → InStep c s)
    (hd : c = d → ((causes s).stand d ↔ b = true) ∧ masked d s = false) : InStep c (followLatch d b s) := by
  unfold followLatch
  split
  · next hb => exact raise_inStep h fun e => ⟨(hd e).1.2 hb, (hd e).2⟩
  · next hb => exact endCond_inStep h fun e hstand => hb ((hd e).1.1 hstand)

theorem mem_swapCond {old new : Option Cond} (hne : old ≠ new) : c ∈ (swapCond old new s).trouble.active
    ↔ (c ∈ s.trouble.active ∧ some c ≠ old) ∨ (some c = new ∧ masked c s = false) := by
  have hend : c ∈ (endOpt old s).trouble.active ↔ c ∈ s.trouble.active ∧ some c ≠ old := by
    cases old with
    | none => simp [endOpt]
    | some d => simp [endOpt, mem_endCond]
  have hmask := masked_congr (causes_config (causes_of_lessReports (endOpt_lessReports s old))) c
  rw [swapCond, if_neg hne]
  cases new with
  | none => simp [raiseOpt, hend]
  | some d => simp [raiseOpt, mem_raise_iff, hend, hmask]

/-- A block has moved from a state with one condition to a state with another: a condition that had the old one, or another
cause R, for its cause and now has the new one, or R, stays in step. -/
theorem swapCond_inStep {old new : Option Cond} {R : Prop}
    (h : c ∈ s.trouble.active ↔ (some c = old ∨ R) ∧ masked c s = false) (hR : R → some c ≠ old)
    (hnew : (causes s).stand c ↔ some c = new ∨ R) : InStep c (swapCond old new s) := by
  have hcauses := causes_of_lessReports (swapCond_lessReports s old new)
  rw [InStep, hcauses, masked_congr (causes_config hcauses), hnew]
  by_cases e : old = new
  · rw [swapCond, if_pos e, h, e]
  · rw [mem_swapCond e, h]
    tauto

end Sys2Proof.Machine
end

section
/-! Sequencing, containment and the recompute keep every condition in step with its cause (R58, R85, R115). -/

namespace Sys2Proof.Machine

variable {c : Cond} {s t : State}

/-! ### Sequencers and containment -/

theorem stand_channel (h : c.code.ofChannel = true) (x : Causes) : x.stand c ↔ ∃ d, x.seq d = some c := by
  obtain ⟨code, n⟩ := c
  cases code <;> first | exact Iff.rfl | cases h

/-- The other codes read no sequencer. -/
theorem stand_plain (h : c.code.ofChannel = false) {x y : Causes} (hxy : y = { x with seq := y.seq }) :
    y.stand c ↔ x.stand c := by
  obtain ⟨code, n⟩ := c
  rw [hxy]
  cases code <;> first | exact Iff.rfl | cases h

/-- A channel rewritten with another sequencer, before its condition follows. -/
theorem causes_setCh (d : ChannelNo) (x : Channel) : causes (s.setCh d x)
    = { causes s with seq := fun e => if d = e then seqCond e x.seq else (causes s).seq e } := by
  have hseq : (causes (s.setCh d x)).seq = fun e => if d = e then seqCond e x.seq else (causes s).seq e := by
    funext e
    simp only [causes, State.ch_setCh]
    split <;> rfl
  rw [← hseq]
  rfl

theorem setCh_same {d : ChannelNo} {x : Channel} (h : seqCond d x.seq = seqCond d (s.ch d).seq) :
    SameConditions s (s.setCh d x) where
  causes := by
    have hseq : (fun e => if d = e then seqCond e x.seq else (causes s).seq e) = (causes s).seq := by
      funext e
      split
      · next hd => subst hd; exact h
      · rfl
    rw [causes_setCh, hseq]
  active := rfl

theorem setSeq_inStep (h : InStep c s) (d : ChannelNo) (q : Sequencer) : InStep c (setSeq d q s) := by
  have hcauses := causes_setCh (s := s) d { s.ch d with seq := q, output := outputOf (s.ch d).target q }
  unfold setSeq
  cases hc : c.code.ofChannel with
  | true =>
    refine swapCond_inStep (R := ∃ e, e ≠ d ∧ (causes s).seq e = some c) ?_ ?_ ?_
    · refine h.trans (and_congr_left' ((stand_channel hc _).trans ⟨?_, ?_⟩))
      · rintro ⟨e, he⟩
        by_cases hde : e = d
        · subst hde; exact .inl he.symm
        · exact .inr ⟨e, hde, he⟩
      · rintro (he | ⟨e, -, he⟩)
        · exact ⟨d, he.symm⟩
        · exact ⟨e, he⟩
    · rintro ⟨e, hde, he⟩ hd
      have hqual := (seqCond_spec he).2.symm.trans (seqCond_spec hd.symm).2
      exact hde (Fin.ext (Nat.succ.inj hqual))
    · rw [stand_channel hc, hcauses]
      refine ⟨?_, ?_⟩
      · rintro ⟨e, he⟩
        dsimp only at he
        split at he
        · next hde => subst hde; exact .inl he.symm
        · next hde => exact .inr ⟨e, Ne.symm hde, he⟩
      · rintro (he | ⟨e, hde, he⟩)
        · exact ⟨d, by simpa using he.symm⟩
        · exact ⟨e, by simpa [Ne.symm hde] using he⟩
  | false =>
    have hno (q : Sequencer) : some c ≠ seqCond d q := fun e => by
      have := (seqCond_spec e.symm).1
      rw [hc] at this
      cases this
    refine swapCond_inStep (R := (causes s).stand c) ?_ (fun _ => hno _) ?_
    · rw [eq_false (hno _), false_or]; exact h
    · simpa [hno] using stand_plain hc (by rw [hcauses])

theorem containCond_eq {x : ContainState} : some (plainCond .containmentNotAchieved) = containCond x ↔ x = .notAchieved := by
  cases x <;> simp [containCond]

/-- The monitor's condition is the one of its code. -/
theorem containCond_spec {x : ContainState} (h : some c = containCond x) : c = plainCond .containmentNotAchieved := by
  cases x <;> simp [containCond] at h
  exact h

theorem queueStatus_same (s : State) : SameConditions s (queueStatus s) :=
  ⟨causes_of_lessReports (queueStatus_lessReports s), by rw [queueStatus_trouble]⟩

theorem statusNotice_same (s : State) : SameConditions s (statusNotice s) :=
  ⟨causes_of_lessReports (statusNotice_lessReports s), by rw [statusNotice_trouble]⟩

/-- A new state of the monitor, with its notice, before its condition follows. -/
theorem causes_withContain (st : ContainState) (g : Option Nat) (s : State) :
    causes (s.withContain { state := st, grace := g }) = { causes s with contain := st } := rfl

theorem setContain_inStep (hq : QualifierLaw c) (h : InStep c s) (st : ContainState) (g : Option Nat) :
    InStep c (setContain st g s) := by
  have hnotice : SameConditions (s.withContain { state := st, grace := g }) _ := statusNotice_same _
  have hmask : masked c (statusNotice (s.withContain { state := st, grace := g })) = masked c s :=
    masked_congr (causes_config hnotice.causes) c
  unfold setContain
  dsimp only
  split
  · next hst => exact h.same ⟨by rw [causes_withContain, hst]; rfl, rfl⟩
  by_cases hc : c.code = .containmentNotAchieved
  · obtain rfl := eq_plainCond hq hc rfl
    refine swapCond_inStep (R := False) ?_ False.elim ?_
    · rw [hnotice.active, hmask, or_false, containCond_eq]
      exact h
    · rw [hnotice.causes, causes_withContain, or_false, containCond_eq]
      rfl
  · have hno (x : ContainState) : some c ≠ containCond x := fun e => hc (by rw [containCond_spec e]; rfl)
    refine swapCond_inStep (R := (causes s).stand c) ?_ (fun _ => hno _) ?_
    · rw [hnotice.active, hmask]
      rw [eq_false (hno _), false_or]; exact h
    · rw [hnotice.causes, causes_withContain]
      obtain ⟨code, n⟩ := c
      cases code <;> first | exact absurd rfl hc | simp [hno, Causes.stand]

/-! ### Properties that sequencing and the recompute keep -/

/-- A property of the conditions that every sequencer's move keeps, and every move of the Containment Monitor but to
NOT-ACHIEVED: so does all the work of sequencing and of a recompute. -/
structure Tracks (P : State → Prop) : Prop where
  same    : ∀ {s t}, SameConditions s t → P s → P t
  seq     : ∀ (d q) {s}, P s → P (setSeq d q s)
  contain : ∀ (st g) {s}, st ≠ .notAchieved → P s → P (setContain st g s)

theorem inStep_tracks (hq : QualifierLaw c) : Tracks (InStep c) where
  same hs h := h.same hs
  seq d q _ h := setSeq_inStep h d q
  contain st g _ _ h := setContain_inStep hq h st g

/-- No such work raises CONTAINMENT-NOT-ACHIEVED. -/
theorem notContained_tracks : Tracks fun s => plainCond .containmentNotAchieved ∉ s.trouble.active where
  same hs h := by rw [hs.active]; exact h
  seq d q s h := by
    unfold setSeq
    dsimp only
    by_cases e : seqCond d (s.ch d).seq = seqCond d q
    · rw [swapCond, if_pos e]; exact h
    · rw [mem_swapCond e]
      rintro (⟨hm, -⟩ | ⟨hm, -⟩)
      · exact h hm
      · exact absurd (seqCond_spec hm.symm).1 (by decide)
  contain st g s hst h := by
    unfold setContain
    dsimp only
    split
    · exact h
    · by_cases e : containCond s.contain.state = containCond st
      · rw [swapCond, if_pos e, statusNotice_trouble]; exact h
      · rw [mem_swapCond e, statusNotice_trouble]
        rintro (⟨hm, -⟩ | ⟨hm, -⟩)
        · exact h hm
        · exact hst (containCond_eq.1 hm)

section Work

variable {P : State → Prop}

theorem holds_ite {p : Prop} [Decidable p] (h : P s) (k : P t) : P (if p then s else t) := by
  split
  · exact h
  · exact k

/-- A write that no cause and no condition is in. -/
theorem Tracks.write (hP : Tracks P) (h : P s) (hc : causes t = causes s) (ha : t.trouble.active = s.trouble.active) :
    P t := hP.same ⟨hc, ha⟩ h

variable (hP : Tracks P)
include hP

theorem enterStopped_tracks (d : ChannelNo) (h : P s) : P (enterStopped d s) := by
  unfold enterStopped
  split <;> exact hP.seq _ _ h

theorem enterStarting_tracks (d : ChannelNo) (h : P s) : P (enterStarting d s) :=
  holds_ite (hP.seq _ _ h) (hP.seq _ _ h)

theorem enterStopping_tracks (d : ChannelNo) (h : P s) : P (enterStopping d s) :=
  holds_ite (enterStopped_tracks hP d h) (hP.seq _ _ h)

theorem fanTarget_tracks (d : ChannelNo) (h : P s) : P (fanTarget d s) := by
  unfold fanTarget
  split <;> first | exact enterStopped_tracks hP d h | exact enterStopping_tracks hP d h | exact h

theorem fanRole_tracks (d : ChannelNo) (h : P s) : P (fanRole d s) := by
  unfold fanRole
  split
  · exact holds_ite h (hP.seq _ _ h)
  · exact holds_ite h (hP.seq _ _ h)
  · exact enterStopped_tracks hP d h
  · exact h

theorem fanNotice_tracks (a b : Bool) (d : ChannelNo) (h : P s) : P (fanNotice a b d s) := by
  have htarget : P (if a then fanTarget d s else s) := holds_ite (fanTarget_tracks hP d h) h
  exact holds_ite (fanRole_tracks hP d htarget) htarget

theorem provingEvent_tracks (b : Bool) (d : ChannelNo) (h : P s) : P (provingEvent b d s) := by
  unfold provingEvent
  split
  · exact hP.seq _ _ h
  · exact hP.seq _ _ h
  · exact hP.seq _ _ h
  · exact holds_ite (hP.seq _ _ h) (hP.seq _ _ h)
  · exact h

theorem provingExpiry_tracks (d : ChannelNo) (h : P s) : P (provingExpiry d s) := by
  unfold provingExpiry
  split
  · exact holds_ite h (holds_ite (hP.seq _ _ h) (hP.seq _ _ h))
  · exact h

theorem runDownExpiry_tracks (d : ChannelNo) (h : P s) : P (runDownExpiry d s) := by
  unfold runDownExpiry
  split
  · exact enterStopped_tracks hP d h
  · exact h

theorem interlockEvent_tracks (d e : ChannelNo) (h : P s) : P (interlockEvent d s e) := by
  unfold interlockEvent
  split
  · split
    · exact hP.seq _ _ h
    · exact hP.seq _ _ h
    · exact holds_ite (hP.seq _ _ h) h
    · exact h
  · exact h

theorem setTravel_tracks (d : ChannelNo) (q : Sequencer) (h : P s) : P (setTravel d q s) :=
  holds_ite
    (foldl_preserves _ P _ (fun _ e => interlockEvent_tracks hP d e) allChannels (hP.seq d q h)) (hP.seq d q h)

theorem damperTarget_tracks (d : ChannelNo) (h : P s) : P (damperTarget d s) := by
  unfold damperTarget
  split
  · exact holds_ite h (setTravel_tracks hP _ _ h)
  · exact setTravel_tracks hP _ _ h
  · exact h

theorem limitEvent_tracks (d : ChannelNo) (h : P s) : P (limitEvent d s) := by
  have htravel (q : Sequencer) : P (setTravel d q s) := setTravel_tracks hP d q h
  simp only [limitEvent]
  split
  · refine holds_ite (htravel _) ?_
    split
    · exact htravel _
    · exact holds_ite h (htravel _)
    · exact holds_ite h (htravel _)
    · exact holds_ite (htravel _) h
    · exact holds_ite (htravel _) h
    · exact holds_ite (htravel _) h
  · exact h

theorem travelExpiry_tracks (d : ChannelNo) (h : P s) : P (travelExpiry d s) := by
  unfold travelExpiry
  split
  · exact holds_ite h (setTravel_tracks hP _ _ h)
  · exact h

theorem startDamper_tracks (d : ChannelNo) (h : P s) : P (startDamper d s) :=
  holds_ite (setTravel_tracks hP _ _ h) h

theorem startFan_tracks (d : ChannelNo) (h : P s) : P (startFan d s) := holds_ite (enterStopped_tracks hP d h) h

theorem resumeFan_tracks (q : Sequencer) (d : ChannelNo) (h : P s) : P (resumeFan q d s) := by
  unfold resumeFan
  refine holds_ite ?_ h
  split <;> first | exact enterStarting_tracks hP d h | exact enterStopping_tracks hP d h | exact enterStopped_tracks hP d h

theorem startSequencers_tracks (h : P s) : P (startSequencers s) :=
  foldl_preserves _ P _ (fun _ d => startFan_tracks hP d) allChannels
    (foldl_preserves _ P _ (fun _ d => startDamper_tracks hP d) allChannels h)

theorem resumeSequencers_tracks (v : Vector Channel 12) (h : P s) : P (resumeSequencers v s) :=
  foldl_preserves _ P _ (fun _ d => resumeFan_tracks hP _ d) allChannels
    (foldl_preserves _ P _ (fun _ d => startDamper_tracks hP d) allChannels h)

/-! ### The start logic -/

theorem withStarts_tracks (x : StartLogic) (h : P s) : P (s.withStarts x) := hP.write h rfl rfl

theorem setQueued_tracks (k : FrameKind) (b : Bool) (h : P s) : P (s.setQueued k b) := hP.write h rfl rfl

theorem withdrawClaim_tracks (h : P s) : P (withdrawClaim s) := by
  unfold withdrawClaim
  split
  · exact withStarts_tracks hP _ (setQueued_tracks hP _ _ h)
  · exact h

theorem startTests_tracks (h : P s) : P (startTests s) := by
  have hwithdraw : P (withdrawTest s) := holds_ite (withdrawClaim_tracks hP h) h
  have hclaim : P (claimTest (withdrawTest s)) :=
    holds_ite (withStarts_tracks hP _ (setQueued_tracks hP _ _ hwithdraw)) hwithdraw
  unfold startTests isolatedTest
  split
  · exact hclaim
  · exact holds_ite (withStarts_tracks hP _ (withdrawClaim_tracks hP (enterStarting_tracks hP _ hclaim))) hclaim

theorem peerClaim_tracks (n : Nat) (h : P s) : P (peerClaim n s) := withdrawClaim_tracks hP (withStarts_tracks hP _ h)

theorem ownClaim_tracks (h : P s) : P (ownClaim s) := by
  unfold ownClaim
  split
  · have hraised (n : Nat) (x : StartLogic) : P (raiseHoldOff n (s.withStarts x)) :=
      withStarts_tracks hP _ (withStarts_tracks hP _ h)
    exact holds_ite (enterStarting_tracks hP _ (hraised _ _)) (hraised _ _)
  · exact h

theorem claimRequeued_tracks (h : P s) : P (claimRequeued s) := by
  unfold claimRequeued
  split
  · exact withStarts_tracks hP _ h
  · exact h

/-! ### Containment and the recompute -/

theorem deriveContain_tracks (h : P s) : P (deriveContain s) :=
  holds_ite (hP.contain _ _ (by simp) h)
    (holds_ite (hP.contain _ _ (by simp) h) (hP.contain _ _ (by simp) h))

theorem containRole_tracks (a b : ZoneRole) (h : P s) : P (containRole a b s) :=
  holds_ite (holds_ite h (deriveContain_tracks hP h)) (hP.contain _ _ (by simp) h)

theorem graceStart_tracks (h : P s) : P (graceStart s) := holds_ite (hP.write h rfl rfl) h

theorem resumeContain_tracks (h : P s) : P (resumeContain s) :=
  holds_ite (holds_ite (hP.contain _ _ (by simp) h) (hP.contain _ _ (by simp) h)) (hP.contain _ _ (by simp) h)

theorem replaceTarget_tracks (d : ChannelNo) (x : Target) (h : P s) : P (replaceTarget d x s) := hP.same (setCh_same rfl) h

theorem recompute_tracks (h : P s) : P (recompute s) := by
  unfold recompute
  split
  · refine startTests_tracks hP (foldl_preserves _ P _ (fun _ d => fanNotice_tracks hP _ _ d) allChannels ?_)
    refine foldl_preserves _ P _ (fun _ d => damperTarget_tracks hP d) _ ?_
    refine holds_ite (containRole_tracks hP _ _ (hP.same (statusNotice_same _) ?_)) ?_
    all_goals exact foldl_preserves _ P _ (fun _ d => replaceTarget_tracks hP d _) _ (hP.write h rfl rfl)
  · exact h

theorem queueStatus_tracks (h : P s) : P (queueStatus s) := hP.same (queueStatus_same s) h

theorem statusNotice_tracks (h : P s) : P (statusNotice s) := hP.same (statusNotice_same s) h

theorem startStagger_tracks (h : P s) : P (startStagger s) :=
  holds_ite (queueStatus_tracks hP (hP.write h rfl rfl)) (hP.write h rfl rfl)

end Work

end Sys2Proof.Machine
end

section
/-! Each block's work keeps the conditions in step with their causes (R4, R95, R104, R132, R152, R171, R172). -/

namespace Sys2Proof.Machine

variable {c : Cond} {s t : State}

/-! ### Which causes read what -/

theorem stand_mode (hl : c.code ≠ .configBad) (hm : c.code ≠ .stationConflict) (x : Causes) (m : Mode) :
    ({ x with mode := m } : Causes).stand c ↔ x.stand c := by
  obtain ⟨code, n⟩ := c
  cases code <;> first | exact Iff.rfl | exact absurd rfl hl | exact absurd rfl hm

theorem stand_txFail (h : c.code ≠ .txFail) (x : Causes) (b : Bool) :
    ({ x with txFail := b } : Causes).stand c ↔ x.stand c := by
  obtain ⟨code, n⟩ := c
  cases code <;> first | exact Iff.rfl | exact absurd rfl h

theorem stand_supply (hf : c.code ≠ .fieldSupplyFail) (hl : c.code ≠ .fieldSupplyLow) (x : Causes) (u : Supply) :
    ({ x with supply := u } : Causes).stand c ↔ x.stand c := by
  obtain ⟨code, n⟩ := c
  cases code <;> first | exact Iff.rfl | exact absurd rfl hf | exact absurd rfl hl

theorem stand_latches (hs : c.code ≠ .incidentSplit) (hf : c.code ≠ .registerFull) (x : Causes) (a b : Bool) :
    ({ x with split := a, full := b } : Causes).stand c ↔ x.stand c := by
  obtain ⟨code, n⟩ := c
  cases code <;> first | exact Iff.rfl | exact absurd rfl hs | exact absurd rfl hf

theorem stand_peers (h : c.code ≠ .neighbourSilent) (x : Causes) (f : Nat → Presence) (b : Bool) :
    ({ x with presence := f, listened := b } : Causes).stand c ↔ x.stand c := by
  obtain ⟨code, n⟩ := c
  cases code <;> first | exact Iff.rfl | exact absurd rfl h

theorem stand_fault (x : Causes) (f : PressureNo → Bool) (h : ∀ p, c = sensorFault p → f p = x.fault p) :
    ({ x with fault := f } : Causes).stand c ↔ x.stand c := by
  obtain ⟨code, n⟩ := c
  cases code with
  | sensorFault =>
    refine exists_congr fun p => and_congr_right fun e => ?_
    change f p = true ↔ _
    rw [h p e]
  | _ => exact Iff.rfl

/-- A write that leaves the active set, the configuration and the condition's own cause. -/
theorem InStep.write (h : InStep c s) (hs : (causes t).stand c ↔ (causes s).stand c) (hk : t.ctl.config = s.ctl.config)
    (ha : t.trouble.active = s.trouble.active) : InStep c t := by
  unfold InStep
  rw [hs, ha, masked_congr hk]
  exact h

theorem inStep_plain (hc : c.code.ofChannel = false) : InStep c s ↔ (c ∈ s.trouble.active ↔ (causes s).stand c) := by
  simp only [InStep, masked_plain hc, and_true]

theorem causes_raise (d : Cond) (s : State) : causes (raise d s) = causes s := causes_of_lessReports (raise_lessReports s d)

theorem causes_endCond (d : Cond) (s : State) : causes (endCond d s) = causes s :=
  causes_of_lessReports (endCond_lessReports s d)

theorem causes_followLatch (d : Cond) (b : Bool) (s : State) : causes (followLatch d b s) = causes s :=
  causes_of_lessReports (followLatch_lessReports s d b)

theorem settleRaises_same (s t : State) : SameConditions t (settleRaises s t) where
  causes := causes_of_lessReports (settleRaises_lessReports s t)
  active := by
    unfold settleRaises
    split
    · dsimp only
      split <;> rfl
    · rfl

/-! ### The register (R4) -/

theorem storeRegister_inStep (hq : QualifierLaw c) (new : IncidentRegister)
    (h : InStep c s) : InStep c (storeRegister new s) := by
  have hnotice : SameConditions (s.withReg new)
      (if viewOf new.records = viewOf s.reg.records then s.withReg new else statusNotice (s.withReg new)) := by
    split
    · exact ⟨rfl, rfl⟩
    · exact statusNotice_same _
  refine followLatch_inStep (fun hfull => followLatch_inStep (fun hsplit => InStep.same ?_ hnotice) ?_) ?_
  · exact h.write (stand_latches (code_ne_of_ne hq hsplit rfl) (code_ne_of_ne hq hfull rfl) (causes s) _ _) rfl rfl
  · rintro rfl
    rw [hnotice.causes]
    exact ⟨Iff.rfl, rfl⟩
  · rintro rfl
    rw [causes_followLatch, hnotice.causes]
    exact ⟨Iff.rfl, rfl⟩

theorem registerEvent_inStep (hq : QualifierLaw c) (new : IncidentRegister) (h : InStep c s) :
    InStep c (registerEvent new s) :=
  holds_ite (P := InStep c) (storeRegister_inStep hq new h)
    (recompute_tracks (inStep_tracks hq) (storeRegister_inStep hq new h))

theorem placeDeclare_same (s : State) : SameConditions s (placeDeclare s) := by
  unfold placeDeclare
  split <;> exact ⟨rfl, rfl⟩

/-- A declaration owed or placed is no condition's cause. -/
theorem declarationCheck_same (s : State) : SameConditions s (declarationCheck s) := by
  unfold declarationCheck
  split
  · exact SameConditions.trans (t := s.withReg (oweDeclaration s.reg)) ⟨rfl, rfl⟩ (placeDeclare_same _)
  · exact ⟨rfl, rfl⟩

theorem replaceDeclare_same (s : State) : SameConditions s (replaceDeclare s) := by
  unfold replaceDeclare
  split
  · exact placeDeclare_same s
  · exact ⟨rfl, rfl⟩

theorem resumeDeclaration_same (s : State) : SameConditions s (resumeDeclaration s) := by
  unfold resumeDeclaration
  split
  · exact SameConditions.trans (t := s.withReg (resumeOwed s.station s.reg)) ⟨rfl, rfl⟩ (placeDeclare_same _)
  · exact declarationCheck_same s

/-! ### The supply (R104) and the pressure channels (R95) -/

theorem followSupply_inStep
    (h : c ≠ plainCond .fieldSupplyFail → c ≠ plainCond .fieldSupplyLow → InStep c s) :
    InStep c (followSupply s.meas.supply s) := by
  have hfail : (causes s).stand (plainCond .fieldSupplyFail) ↔ s.meas.supply = .fail := Iff.rfl
  have hlow : (causes s).stand (plainCond .fieldSupplyLow) ↔ s.meas.supply ≠ .normal := Iff.rfl
  cases e : s.meas.supply with
  | normal =>
    refine endCond_inStep (fun hl => endCond_inStep (fun hf => h hf hl) fun _ => ?_) fun _ => ?_
    · simp [hfail, e]
    · simp [causes_endCond, hlow, e]
  | low =>
    refine raise_inStep (fun hl => endCond_inStep (fun hf => h hf hl) fun _ => ?_) fun _ => ⟨?_, rfl⟩
    · simp [hfail, e]
    · simp [causes_endCond, hlow, e]
  | fail =>
    refine raise_inStep (fun hl => raise_inStep (fun hf => h hf hl) fun _ => ⟨?_, rfl⟩) fun _ => ⟨?_, rfl⟩
    · simp [hfail, e]
    · simp [causes_raise, hlow, e]

theorem supplyEvent_inStep (hq : QualifierLaw c) (v : Nat) (h : InStep c s) : InStep c (supplyEvent v s) := by
  refine holds_ite (P := InStep c) h (startTests_tracks (inStep_tracks hq) ?_)
  refine followSupply_inStep (s := s.withMeas { s.meas with supply := nextSupply s.meas.supply v }) fun hf hl => ?_
  exact h.write (stand_supply (code_ne_of_ne hq hf rfl) (code_ne_of_ne hq hl rfl) (causes s) _) rfl rfl

theorem sensorFault_inj {p q : PressureNo} (h : sensorFault p = sensorFault q) : p = q := by
  simp only [sensorFault, Cond.mk.injEq, Nat.add_right_cancel_iff, true_and] at h
  exact Fin.ext h

theorem causes_setPressure (p : PressureNo) (y : PressureState) (s : State) :
    causes (s.setPressure p y) = { causes s with fault := fun q => if p = q then y.fault else (causes s).fault q } := by
  have hfault : (causes (s.setPressure p y)).fault = fun q => if p = q then y.fault else (causes s).fault q := by
    funext q
    simp only [causes, State.pressure_setPressure]
    split <;> rfl
  rw [← hfault]
  rfl

/-- A pressure channel rewritten, and SENSOR-FAULT following it (R95). -/
theorem setPressure_inStep (p : PressureNo) (y : PressureState) (h : InStep c s) :
    InStep c (if y.fault = (s.pressure p).fault then s.setPressure p y
      else followLatch (sensorFault p) y.fault (s.setPressure p y)) := by
  have hother (hne : y.fault = (s.pressure p).fault ∨ c ≠ sensorFault p) : InStep c (s.setPressure p y) := by
    refine h.write ?_ rfl rfl
    rw [causes_setPressure]
    refine stand_fault (causes s) _ fun q e => ?_
    split
    · next hpq =>
      subst hpq
      exact hne.resolve_right (not_not.2 e)
    · rfl
  split
  · next hsame => exact hother (.inl hsame)
  · refine followLatch_inStep (fun hne => hother (.inr hne)) fun _ => ⟨?_, rfl⟩
    rw [causes_setPressure]
    refine ⟨fun ⟨q, e, hf⟩ => ?_, fun hf => ⟨p, rfl, by simpa using hf⟩⟩
    simpa [← sensorFault_inj e] using hf

theorem containComparator_inStep (hq : QualifierLaw c) (h : InStep c s) : InStep c (containComparator s) := by
  have hset (st : ContainState) (g : Option Nat) : InStep c (setContain st g s) := setContain_inStep hq h st g
  unfold containComparator
  split
  · exact holds_ite (P := InStep c) (hset _ _) h
  · exact holds_ite (P := InStep c) h (hset _ _)
  · exact holds_ite (P := InStep c) (hset _ _) h
  · exact h
  · exact h

theorem passComparator_inStep (hq : QualifierLaw c) (p : PressureNo) (b : Bool) (h : InStep c s) :
    InStep c (passComparator p b s) := by
  unfold passComparator
  split
  · exact foldl_preserves _ (InStep c) _
      (fun _ d k => holds_ite (P := InStep c) (provingEvent_tracks (inStep_tracks hq) b d k) k) allChannels h
  · exact containComparator_inStep hq h
  · exact h

theorem pairEvent_inStep (hq : QualifierLaw c) (p : PressureNo) (a b : Code) (h : InStep c s) :
    InStep c (pairEvent p a b s) := by
  have hset := setPressure_inStep p (applyPair (s.prCfg p) a b (s.pressure p)) h
  exact holds_ite (P := InStep c) hset (passComparator_inStep hq p _ hset)

theorem graceExpiry_inStep (hq : QualifierLaw c) (h : InStep c s) : InStep c (graceExpiry s) := by
  unfold graceExpiry
  split
  · exact holds_ite (P := InStep c) (setContain_inStep hq h _ _) h
  · exact h

/-! ### The Peer Table (R132) -/

theorem isNeighbour_iff {z : Nat} : isNeighbour s z = true ↔ z ∈ ((causes s).config.getD blankConfig).neighbours :=
  decide_eq_true_iff

theorem isNeighbour_congr (h : t.ctl.config = s.ctl.config) (z : Nat) : isNeighbour t z = isNeighbour s z := by
  unfold isNeighbour State.cfg
  rw [h]

/-- NEIGHBOUR-SILENT stands for a silent neighbour. -/
theorem isSilent_iff {z : Nat} : isSilent s z = true ↔ (causes s).stand (neighbourSilent z) := by
  simp only [isSilent, Bool.and_eq_true, isNeighbour_iff, Bool.or_eq_true, decide_eq_true_eq]
  exact Iff.rfl

theorem mem_raiseSilent : c ∈ (raiseSilent s).trouble.active
    ↔ c ∈ s.trouble.active ∨ ∃ z, (1 ≤ z ∧ z ≤ 63) ∧ c = neighbourSilent z ∧ (causes s).stand c := by
  have fold (l : List Nat) (u : State) (hu : causes u = causes s) :
      c ∈ (l.foldl (fun s z => if isSilent s z then raise (neighbourSilent z) s else s) u).trouble.active
        ↔ c ∈ u.trouble.active ∨ ∃ z ∈ l, c = neighbourSilent z ∧ (causes s).stand c := by
    induction l generalizing u with
    | nil => simp
    | cons z zs ih =>
      have hone : causes (if isSilent u z then raise (neighbourSilent z) u else u) = causes s := by
        split
        · rw [causes_raise, hu]
        · exact hu
      have hmem : c ∈ (if isSilent u z then raise (neighbourSilent z) u else u).trouble.active
          ↔ c ∈ u.trouble.active ∨ (c = neighbourSilent z ∧ (causes s).stand c) := by
        split
        · next hs =>
          rw [isSilent_iff, hu] at hs
          rw [mem_raise_iff]
          refine or_congr_right ⟨?_, ?_⟩
          · rintro ⟨rfl, -⟩; exact ⟨rfl, hs⟩
          · rintro ⟨rfl, -⟩; exact ⟨rfl, rfl⟩
        · next hs =>
          rw [isSilent_iff, hu] at hs
          refine ⟨.inl, ?_⟩
          rintro (hm | ⟨rfl, hstand⟩)
          · exact hm
          · exact absurd hstand hs
      rw [List.foldl_cons, ih _ hone, hmem, or_assoc]
      simp only [List.mem_cons, exists_eq_or_imp]
  unfold raiseSilent
  rw [fold allZones s rfl]
  simp only [mem_allZones]

theorem raiseSilent_inStep (hq : QualifierLaw c) (h : c.code ≠ .neighbourSilent → InStep c s)
    (hn : c.code = .neighbourSilent → c ∈ s.trouble.active → (causes s).stand c) : InStep c (raiseSilent s) := by
  have hcauses := causes_of_lessReports (raiseSilent_lessReports s)
  rw [InStep, mem_raiseSilent, hcauses, masked_congr (causes_config hcauses)]
  by_cases hc : c.code = .neighbourSilent
  · have hmask : masked c s = false := masked_plain (by rw [hc]; rfl) s
    rw [hmask]
    simp only [and_true]
    refine ⟨?_, fun hs => .inr ⟨c.qualifier, ?_, ?_, hs⟩⟩
    · rintro (hm | ⟨-, -, -, hs⟩)
      · exact hn hc hm
      · exact hs
    · simpa [QualifierLaw, hc] using hq
    · obtain ⟨code, n⟩ := c; cases hc; rfl
  · have hno : ¬ ∃ z, (1 ≤ z ∧ z ≤ 63) ∧ c = neighbourSilent z ∧ (causes s).stand c := by
      rintro ⟨z, -, rfl, -⟩; exact hc rfl
    rw [eq_false hno, or_false]
    exact h hc

theorem completeListening_inStep (hq : QualifierLaw c) (h : InStep c s) : InStep c (completeListening s) := by
  unfold completeListening
  split
  · exact h
  · next hl =>
    refine raiseSilent_inStep hq (fun hc => ?_) fun hc hm => ?_
    · exact h.write (stand_peers hc (causes s) (causes s).presence true) rfl rfl
    · have hold := ((inStep_plain (by rw [hc]; rfl)).1 h).1 hm
      simp only [Causes.stand, hc] at hold ⊢
      refine ⟨hold.1, hold.2.imp_right fun k => ?_⟩
      exact absurd k.2 hl

theorem causes_setPeer {z : Nat} (hz : 1 ≤ z ∧ z ≤ 63) (x : Peer) (s : State) : causes (s.setPeer z x)
    = { causes s with presence := fun y => if z = y then x.presence else (causes s).presence y } := by
  have hpresence : (causes (s.setPeer z x)).presence = fun y => if z = y then x.presence else (causes s).presence y := by
    funext y
    simp only [causes, State.peer_setPeer, hz, and_true]
    split <;> rfl
  rw [← hpresence, State.setPeer, dif_pos hz]
  rfl

theorem setPeer_active (z : Nat) (x : Peer) (s : State) : (s.setPeer z x).trouble = s.trouble
    ∧ (s.setPeer z x).ctl = s.ctl := by
  unfold State.setPeer
  split <;> exact ⟨rfl, rfl⟩

/-- An entry that keeps its presence. -/
theorem setPeer_same (z : Nat) {x : Peer} (h : x.presence = (s.peer z).presence) : SameConditions s (s.setPeer z x) := by
  refine ⟨?_, by rw [(setPeer_active z x s).1]⟩
  by_cases hz : 1 ≤ z ∧ z ≤ 63
  · have hpresence : (fun y => if z = y then x.presence else (causes s).presence y) = (causes s).presence := by
      funext y
      split
      · next e => subst e; exact h
      · rfl
    rw [causes_setPeer hz, hpresence]
  · unfold State.setPeer
    rw [dif_neg hz]

/-- A rewritten entry leaves every condition in step but its own neighbour's, and leaves that of a zone that is no neighbour. -/
theorem setPeer_inStep {z : Nat} (hz : 1 ≤ z ∧ z ≤ 63) (x : Peer) (h : InStep c s)
    (hc : c ≠ neighbourSilent z ∨ isNeighbour s z = false) : InStep c (s.setPeer z x) := by
  refine h.write ?_ (by rw [(setPeer_active z x s).2]) (by rw [(setPeer_active z x s).1])
  rw [causes_setPeer hz]
  by_cases hcode : c.code = .neighbourSilent
  · simp only [Causes.stand, hcode]
    by_cases hqual : z = c.qualifier
    · have hc : isNeighbour s z = false := hc.resolve_left (not_not.2 (by
        obtain ⟨code, n⟩ := c; cases hcode; cases hqual; rfl))
      have hout : c.qualifier ∉ ((causes s).config.getD blankConfig).neighbours := by
        rw [← isNeighbour_iff, ← hqual, hc]; exact Bool.false_ne_true
      simp [hout]
    · simp [hqual]
  · exact stand_peers hcode (causes s) _ _

theorem heardPeer_presence (n : Nat) (r : StatusRecord) (x : Peer) :
    (heardPeer n r x).presence = .seen ∨ (heardPeer n r x).presence = .present := by
  unfold heardPeer
  cases x.presence
  · exact .inl rfl
  · dsimp only
    split
    · exact .inl rfl
    · split
      · exact .inl rfl
      · exact .inr rfl
  · exact .inr rfl
  · exact .inl rfl

theorem storeStatus_inStep (z : Station) (r : StatusRecord) (h : InStep c s) : InStep c (storeStatus z.toNat r s) := by
  unfold storeStatus
  split
  · exact h
  · next hz =>
    have hrange : 1 ≤ z.toNat ∧ z.toNat ≤ 63 := ⟨Nat.pos_of_ne_zero (not_or.1 hz).1, Nat.le_of_lt_succ z.isLt⟩
    have hneigh : isNeighbour (s.setPeer z.toNat (heardPeer s.silence r (s.peer z.toNat))) z.toNat = isNeighbour s z.toNat := by
      exact isNeighbour_congr (by rw [(setPeer_active _ _ s).2]) _
    dsimp only
    rw [hneigh]
    split
    · refine endCond_inStep (fun hne => setPeer_inStep hrange _ h (.inl hne)) fun _ => ?_
      rw [causes_setPeer hrange]
      rcases heardPeer_presence s.silence r (s.peer z.toNat) with e | e <;> simp [Causes.stand, neighbourSilent, e]
    · next hn => exact setPeer_inStep hrange _ h (.inr (by simpa using hn))

theorem silenceExpiry_inStep (hq : QualifierLaw c) (z : Nat) (h : InStep c s) : InStep c (silenceExpiry z s) := by
  unfold silenceExpiry
  split
  · next hruns =>
    have hrange : 1 ≤ z ∧ z ≤ 63 := by
      by_contra hz
      simp [State.peer, dif_neg hz, Peer.reset] at hruns
    have hneigh : isNeighbour (s.setPeer z (silentPeer (s.peer z))) z = isNeighbour s z := by
      exact isNeighbour_congr (by rw [(setPeer_active _ _ s).2]) _
    dsimp only
    rw [hneigh]
    split
    · next hn =>
      refine recompute_tracks (inStep_tracks hq) (raise_inStep (fun hne => setPeer_inStep hrange _ h (.inl hne)) fun _ => ?_)
      rw [causes_setPeer hrange]
      refine ⟨⟨isNeighbour_iff.1 hn, .inl ?_⟩, rfl⟩
      simp [neighbourSilent, silentPeer]
    · next hn => exact setPeer_inStep hrange _ h (.inr (by simpa using hn))
  · exact h

/-! ### The link (R152) -/

theorem endAttempt_inStep (hq : QualifierLaw c) (l : Line) (n : Nat) (h : InStep c s) : InStep c (endAttempt l n s) := by
  refine claimRequeued_tracks (inStep_tracks hq) (holds_ite (P := InStep c) ?_ ?_)
  · exact h.same ⟨rfl, rfl⟩
  · exact h.same ⟨rfl, rfl⟩

theorem stopSending_inStep (hq : QualifierLaw c) (bit : Nat) (h : InStep c s) : InStep c (stopSending bit s) := by
  unfold stopSending
  split
  · exact h
  · exact startTests_tracks (inStep_tracks hq) (endAttempt_inStep hq _ _ h)

theorem countFailure_inStep (hq : QualifierLaw c) (h : InStep c s) : InStep c (countFailure s) := by
  unfold countFailure
  split
  · exact h.same ⟨rfl, rfl⟩
  · refine raise_inStep (fun hne => ?_) fun _ => ⟨rfl, rfl⟩
    exact h.write (stand_txFail (code_ne_of_ne hq hne rfl) (causes s) true) rfl rfl

theorem ownFrameOut_inStep (hq : QualifierLaw c) (h : InStep c s) : InStep c (ownFrameOut s) := by
  unfold ownFrameOut
  split
  · exact h
  · refine endCond_inStep (fun hne => ?_) fun _ hs => by cases hs
    exact h.write (stand_txFail (code_ne_of_ne hq hne rfl) (causes s) false) rfl rfl

theorem otherFrameIn_inStep (hq : QualifierLaw c) (h : InStep c s) : InStep c (otherFrameIn s) := by
  have hline : InStep c (if s.link.attempt.isSome then endAttempt .closed 0 s else s.setLine .closed) :=
    holds_ite (P := InStep c) (endAttempt_inStep hq _ _ h) (h.same ⟨rfl, rfl⟩)
  exact hline.same ⟨rfl, rfl⟩

theorem sendKind_inStep (hq : QualifierLaw c) (k : FrameKind) (h : InStep c s) : InStep c (sendKind k s) := by
  cases k with
  | clear => exact h.same ⟨rfl, rfl⟩
  | fireDeclare => exact h.same ⟨rfl, rfl⟩
  | claim =>
    change InStep c (sendClaim s)
    unfold sendClaim
    split
    · exact withdrawClaim_tracks (inStep_tracks hq) h
    · exact h.same ⟨rfl, rfl⟩
  | status => exact h.same ⟨rfl, rfl⟩

end Sys2Proof.Machine
end

section
/-! Mode entries and resets leave every condition in step with its cause (R162, R169 to R174). -/

namespace Sys2Proof.Machine

variable {c : Cond} {s t : State}

/-! ### Modes and their conditions (R171, R172) -/

/-- A mode that is no condition's cause. -/
@[reducible] def Mode.unmarked (m : Mode) : Prop := m ≠ .lockout ∧ m ≠ .mute

theorem Mode.unmarked_listen : Mode.listen.unmarked := by decide

theorem Mode.unmarked_active : Mode.active.unmarked := by decide

/-- A change of mode leaves every condition in step whose own mode is neither left nor entered. -/
theorem mode_inStep (hq : QualifierLaw c) (h : InStep c s) (hc : causes t = { causes s with mode := t.ctl.mode })
    (ha : t.trouble.active = s.trouble.active)
    (hl : c = plainCond .configBad → (t.ctl.mode = .lockout ↔ s.ctl.mode = .lockout))
    (hm : c = plainCond .stationConflict → (t.ctl.mode = .mute ↔ s.ctl.mode = .mute)) : InStep c t := by
  refine h.write ?_ (by simpa only [causes] using congrArg Causes.config hc) ha
  by_cases el : c = plainCond .configBad
  · have := hl el; subst el; exact this
  by_cases em : c = plainCond .stationConflict
  · have := hm em; subst em; exact this
  rw [hc]
  exact stand_mode (code_ne_of_ne hq el rfl) (code_ne_of_ne hq em rfl) (causes s) _

theorem setMode_inStep (hq : QualifierLaw c) (m : Mode) (x : ModeCtl) (hx : x.config = s.ctl.config)
    (hs : s.ctl.mode.unmarked) (hm : m.unmarked) (h : InStep c s) : InStep c (setMode m (s.withCtl x)) := by
  refine mode_inStep hq h ?_ rfl (fun _ => iff_of_false hm.1 hs.1) (fun _ => iff_of_false hm.2 hs.2)
  have e : causes (setMode m (s.withCtl x)) = { causes s with mode := m, config := x.config } := rfl
  rw [e, hx]
  rfl

theorem declarationCheck_ctl (s : State) : (declarationCheck s).ctl = s.ctl := by
  unfold declarationCheck
  split
  · exact (placeDeclare_keeps _).2.1
  · rfl

theorem replaceDeclare_ctl (s : State) : (replaceDeclare s).ctl = s.ctl := by
  unfold replaceDeclare
  split
  · exact (placeDeclare_keeps _).2.1
  · rfl

theorem enterActive_inStep (hq : QualifierLaw c) (hs : s.ctl.mode.unmarked) (h : InStep c s) :
    InStep c (enterActive s) := by
  have hT := inStep_tracks hq
  refine startTests_tracks hT (completeListening_inStep hq (graceStart_tracks hT (startSequencers_tracks hT ?_)))
  exact recompute_tracks hT (setMode_inStep hq .active _ rfl hs (by decide) h)

theorem endListenOnAlarm_inStep (hq : QualifierLaw c) (hs : s.ctl.mode.unmarked) (h : InStep c s) :
    InStep c (endListenOnAlarm s) := holds_ite (P := InStep c) (enterActive_inStep hq hs h) h

/-- What ends every entry to LISTEN: the declaration check, one recompute, and ACTIVE at once while ALARM is active (R169). -/
theorem listenEntered_inStep (hq : QualifierLaw c) (hs : s.ctl.mode = .listen) (h : InStep c s) :
    InStep c (endListenOnAlarm (recompute (declarationCheck s))) := by
  refine endListenOnAlarm_inStep hq ?_ (recompute_tracks (inStep_tracks hq) (h.same (declarationCheck_same s)))
  rw [(recompute_ownKept _).ctl, declarationCheck_ctl, hs]
  exact (by decide)

theorem beginListen_mode (s : State) : (beginListen s).ctl.mode = .listen := by
  unfold beginListen
  rw [(startStagger_ownKept _).ctl]
  rfl

theorem enterListen_inStep (hq : QualifierLaw c) (hs : s.ctl.mode.unmarked) (h : InStep c s) :
    InStep c (enterListen s) := by
  have hbegun : InStep c (beginListen s) :=
    startStagger_tracks (inStep_tracks hq) (setMode_inStep hq .listen _ rfl hs (by decide) h)
  exact listenEntered_inStep (s := setScan (scanFrom (beginListen s) 0) (beginListen s)) hq (beginListen_mode s)
    (hbegun.same ⟨rfl, rfl⟩)

theorem enterMute_inStep (hq : QualifierLaw c) (o : Origin) (hs : s.ctl.mode.unmarked) (h : InStep c s) :
    InStep c (enterMute o s) := by
  have hT := inStep_tracks hq
  refine startTests_tracks hT (recompute_tracks hT (raise_inStep (fun hne => ?_) fun _ => ⟨rfl, rfl⟩))
  exact mode_inStep hq h rfl rfl (fun _ => iff_of_false (by simp [setMode, refreshTrouble, emptyQueue]) hs.1)
    fun e => absurd e hne

theorem evidence_inStep (hq : QualifierLaw c) (h : InStep c s) : InStep c (evidence s) := by
  unfold evidence
  split
  · next hm => exact enterMute_inStep hq _ (by rw [hm]; exact (by decide)) h
  · next hm => exact enterMute_inStep hq _ (by rw [hm]; exact (by decide)) h
  · exact h.same ⟨rfl, rfl⟩
  · exact h

/-- STATION-CONFLICT ends and the mode is set: MUTE is left (R171). -/
theorem unmute_inStep (hq : QualifierLaw c) (hs : s.ctl.mode = .mute) (m : Mode) (x : ModeCtl)
    (hx : x.config = s.ctl.config) (hm : m.unmarked) (h : InStep c s) :
    InStep c (setMode m ((endCond (plainCond .stationConflict) s).withCtl x)) := by
  have hctl : (endCond (plainCond .stationConflict) s).ctl = s.ctl :=
    (OwnKept.of_lessReports (endCond_lessReports s _)).ctl
  by_cases e : c = plainCond .stationConflict
  · subst e
    refine (inStep_plain rfl).2 (iff_of_false ?_ hm.2)
    change _ ∉ (endCond (plainCond .stationConflict) s).trouble.active
    rw [mem_endCond]
    exact fun k => k.2 rfl
  · have hend : InStep c (endCond (plainCond .stationConflict) s) := endCond_inStep (fun _ => h) fun k => absurd k e
    refine mode_inStep hq hend ?_ rfl (fun _ => iff_of_false hm.1 ?_) fun k => absurd k e
    · have e : causes (setMode m ((endCond (plainCond .stationConflict) s).withCtl x))
          = { causes (endCond (plainCond .stationConflict) s) with mode := m, config := x.config } := rfl
      rw [e, hx, ← hctl]
      rfl
    · rw [hctl, hs]; simp

theorem leaveMute_inStep (hq : QualifierLaw c) (hs : s.ctl.mode = .mute) (h : InStep c s) : InStep c (leaveMute s) := by
  have hT := inStep_tracks hq
  have hctl : (endCond (plainCond .stationConflict) s).ctl = s.ctl :=
    (OwnKept.of_lessReports (endCond_lessReports s _)).ctl
  have hleft (m : Mode) (x : ModeCtl) (hx : x.config = s.ctl.config) (hm : m.unmarked) :=
    startStagger_tracks hT (unmute_inStep hq hs m x hx hm h)
  unfold leaveMute
  dsimp only
  split
  · refine listenEntered_inStep hq ?_ (InStep.same ?_ (replaceDeclare_same _))
    · rw [replaceDeclare_ctl, beginListen_mode]
    · exact hleft .listen _ (by rw [hctl]) (by decide)
  · refine startTests_tracks hT (completeListening_inStep hq (recompute_tracks hT (InStep.same ?_ (replaceDeclare_same _))))
    exact hleft .active _ (by rw [hctl]) (by decide)

theorem enterLockout_inStep (hq : QualifierLaw c) (hs : s.ctl.mode.unmarked) (h : InStep c s) :
    InStep c (enterLockout s) := by
  refine startStagger_tracks (inStep_tracks hq) (raise_inStep (fun hne => ?_) fun _ => ⟨rfl, rfl⟩)
  exact mode_inStep hq h rfl rfl (fun e => absurd e hne)
    fun _ => iff_of_false (by simp [setMode, refreshTrouble]) hs.2

theorem sampleStraps_inStep (hq : QualifierLaw c) (p : StrapPins) (hs : s.ctl.mode.unmarked) (h : InStep c s) :
    InStep c (sampleStraps p s) := by
  have hsampled : InStep c (s.withCtl
      { s.ctl with straps := some { station := p.station.toNat, missLimit := missLimitOf p.miss, rate := p.rate } }) :=
    h.same ⟨rfl, rfl⟩
  refine holds_ite (P := InStep c) (enterLockout_inStep hq hs hsampled) ?_
  exact setMode_inStep hq .config _ rfl hs (by decide) h

/-! ### A node outside LISTEN, ACTIVE and MUTE -/

/-- Every cause but mode and TX-FAIL is as after cold reset (R174). -/
structure Causes.Blank (x : Causes) : Prop where
  supply   : x.supply = .normal
  fault    : ∀ p, x.fault p = false
  contain  : x.contain = .notApplicable
  presence : ∀ z, x.presence z = .unknown
  listened : x.listened = false
  split    : x.split = false
  full     : x.full = false
  seq      : ∀ d, x.seq d = none

theorem Causes.Blank.not_stand {x : Causes} (hb : x.Blank) (hl : c.code = .configBad → x.mode ≠ .lockout)
    (hm : c.code = .stationConflict → x.mode ≠ .mute) (ht : c.code = .txFail → x.txFail = false) : ¬ x.stand c := by
  obtain ⟨supply, fault, contain, presence, listened, split, full, seq⟩ := hb
  obtain ⟨code, n⟩ := c
  cases code with
  | configBad => exact hl rfl
  | stationConflict => exact hm rfl
  | txFail => simpa [Causes.stand] using ht rfl
  | _ => simp [Causes.stand, supply, fault, contain, presence, listened, split, full, seq]

/-- With an empty active set and no cause, every condition is in step. -/
theorem inStep_of_nil (ha : s.trouble.active = []) (hn : ¬ (causes s).stand c) : InStep c s := by
  simp [InStep, ha, hn]

theorem blank_of_reset (hmeas : s.meas = State.reset.meas) (hcontain : s.contain = State.reset.contain)
    (hpeers : s.peers = State.reset.peers) (hlatch : s.reg.fullLatch = false ∧ s.reg.splitLatch = false)
    (hseq : ∀ d, seqCond d (s.ch d).seq = none) : (causes s).Blank := by
  constructor
  case presence =>
    intro z
    simp only [causes, State.peer, hpeers]
    split
    · exact congrArg Peer.presence (Vector.getElem_replicate ..)
    · rfl
  case fault =>
    intro p
    simp only [causes, State.pressure, hmeas]
    exact congrArg PressureState.fault (Vector.getElem_replicate ..)
  case seq => exact hseq
  case split => exact hlatch.2
  case full => exact hlatch.1
  case supply => simp only [causes, hmeas]; rfl
  case contain => simp only [causes, hcontain]; rfl
  case listened => simp only [causes, hpeers]; rfl

/-- The laws of the blocks outside LISTEN, ACTIVE and MUTE. -/
theorem blank_of_laws (ha : s.ctl.mode.applies = false) (hch : ChannelsLaw s) (hme : MeasureLaw s) (hco : ContainLaw s)
    (hpe : PeerLaw s) (hlatch : s.reg.fullLatch = false ∧ s.reg.splitLatch = false) : (causes s).Blank := by
  obtain ⟨-, -, -, hmeas⟩ := hme
  obtain ⟨-, -, -, hcontain⟩ := hco
  obtain ⟨-, -, hpeers⟩ := hpe
  have hsequencing : s.sequencing = false := by
    unfold State.sequencing
    revert ha
    cases s.ctl.mode <;> simp [Mode.applies]
  refine blank_of_reset (hmeas ha) (hcontain ha) (hpeers ha) hlatch fun d => ?_
  have hlaw := (hch d).2
  cases e : (s.ch d).seq with
  | stopped => rfl
  | damper st x => simp [e, State.running, hsequencing] at hlaw
  | fan st p r => simp [e, State.running, hsequencing] at hlaw

theorem stand_config (h : c.code.ofChannel = false) (hn : c.code ≠ .neighbourSilent) (x : Causes)
    (k : Option NodeConfig) : ({ x with config := k } : Causes).stand c ↔ x.stand c := by
  obtain ⟨code, n⟩ := c
  cases code <;> first | (cases h; done) | exact Iff.rfl | exact absurd rfl hn

/-- A configuration is loaded while every cause that reads one is as after cold reset. -/
theorem config_inStep (hb : (causes s).Blank) (k : Option NodeConfig) (h : InStep c s) :
    InStep c (s.withCtl { s.ctl with config := k }) := by
  have hcauses : causes (s.withCtl { s.ctl with config := k }) = { causes s with config := k } := rfl
  by_cases hread : c.code.ofChannel = true ∨ c.code = .neighbourSilent
  · have hno {x : Causes} (hx : x.Blank) : ¬ x.stand c := by
      refine hx.not_stand ?_ ?_ ?_ <;> intro e <;> rw [e] at hread <;> exact absurd hread (by decide)
    have hb' : ({ causes s with config := k } : Causes).Blank :=
      ⟨hb.supply, hb.fault, hb.contain, hb.presence, hb.listened, hb.split, hb.full, hb.seq⟩
    have hout : c ∉ s.trouble.active := fun hm => hno hb (h.1 hm).1
    refine iff_of_false hout fun hs => hno hb' ?_
    rw [← hcauses]
    exact hs.1
  · obtain ⟨hchannel, hn⟩ := not_or.1 hread
    have hchannel : c.code.ofChannel = false := by simpa using hchannel
    rw [inStep_plain hchannel] at h ⊢
    rw [hcauses, stand_config hchannel hn]
    exact h

theorem configRead_inStep (hq : QualifierLaw c) (b : ConfigBytes) (hs : s.ctl.mode = .config) (hb : (causes s).Blank)
    (h : InStep c s) : InStep c (configRead b s) := by
  have hmode : s.ctl.mode.unmarked := by rw [hs]; exact (by decide)
  exact holds_ite (P := InStep c) (enterListen_inStep hq hmode (config_inStep hb _ h)) (enterLockout_inStep hq hmode h)

theorem coldReset_inStep (hq : QualifierLaw c) (p : StrapPins) (s : State) : InStep c (coldReset p s) := by
  have hb : (causes (coldState p s)).Blank :=
    blank_of_reset rfl rfl rfl ⟨rfl, rfl⟩ fun d => by simp [coldState, State.ch, Channel.reset, seqCond]
  have hmode : (coldState p s).ctl.mode.unmarked := ⟨by simp [coldState, State.reset], by simp [coldState, State.reset]⟩
  exact sampleStraps_inStep hq p hmode
    (inStep_of_nil rfl (hb.not_stand (fun _ => hmode.1) (fun _ => hmode.2) fun _ => rfl))

/-! ### Warm reset (R107, R108, R117, R133, R162) -/

theorem mem_followLatch_of_ne {d : Cond} (b : Bool) (h : c ≠ d) :
    c ∈ (followLatch d b s).trouble.active ↔ c ∈ s.trouble.active := by
  unfold followLatch
  split
  · rw [mem_raise_iff]; simp [h]
  · rw [mem_endCond]; simp [h]

theorem mem_followSupply_of_ne (x : Supply) (hf : c ≠ plainCond .fieldSupplyFail) (hl : c ≠ plainCond .fieldSupplyLow) :
    c ∈ (followSupply x s).trouble.active ↔ c ∈ s.trouble.active := by
  cases x <;> simp [followSupply, mem_raise_iff, mem_endCond, hf, hl]

/-- The resumption's own raises and ends put the supply's and the latches' conditions in step (R25, R108). -/
theorem resumeConditions_inStep (hq : QualifierLaw c)
    (h : c.code ≠ .fieldSupplyFail → c.code ≠ .fieldSupplyLow → c.code ≠ .incidentSplit → c.code ≠ .registerFull →
      InStep c s) : InStep c (resumeConditions s) := by
  refine followLatch_inStep (fun hfull => followLatch_inStep (fun hsplit => followSupply_inStep fun hf hl => ?_) ?_) ?_
  · exact h (code_ne_of_ne hq hf rfl) (code_ne_of_ne hq hl rfl) (code_ne_of_ne hq hsplit rfl) (code_ne_of_ne hq hfull rfl)
  · rintro rfl
    exact ⟨Iff.rfl, rfl⟩
  · rintro rfl
    exact ⟨Iff.rfl, rfl⟩

/-- They touch no other condition. -/
theorem mem_resumeConditions_of_ne (hf : c ≠ plainCond .fieldSupplyFail) (hl : c ≠ plainCond .fieldSupplyLow)
    (hs : c ≠ plainCond .incidentSplit) (hr : c ≠ plainCond .registerFull) :
    c ∈ (resumeConditions s).trouble.active ↔ c ∈ s.trouble.active := by
  unfold resumeConditions
  dsimp only
  rw [mem_followLatch_of_ne _ hr, mem_followLatch_of_ne _ hs, mem_followSupply_of_ne _ hf hl]

/-- After a resumption the monitor is not in NOT-ACHIEVED (R117). -/
theorem resumeContain_not_stand (s : State) : ¬ (causes (resumeContain s)).stand (plainCond .containmentNotAchieved) := by
  have hset (st : ContainState) (g : Option Nat) : (setContain st g s).contain.state = st := by
    rw [(setContain_keeps s st g).1]
  have hstate : (resumeContain s).contain.state ≠ .notAchieved := by
    unfold resumeContain
    split_ifs <;> simp [hset]
  exact hstate

theorem startStagger_same (s : State) : SameConditions s (startStagger s) := by
  unfold startStagger
  split
  · exact SameConditions.trans (t := s.withStatus { s.status with period := none }) ⟨rfl, rfl⟩ (queueStatus_same _)
  · exact ⟨rfl, rfl⟩

/-- With the sequencers stopped and the pressure channels zeroed, the causes left are those that the resumption takes up. -/
theorem not_stand_of_halted {x : Causes} (hmode : x.mode.unmarked) (hx : x.txFail = false) (hfault : ∀ p, x.fault p = false)
    (hseq : ∀ d, x.seq d = none) (hf : c.code ≠ .fieldSupplyFail) (hl : c.code ≠ .fieldSupplyLow)
    (hs : c.code ≠ .incidentSplit) (hr : c.code ≠ .registerFull) (hn : c.code ≠ .neighbourSilent)
    (hc : c.code ≠ .containmentNotAchieved) : ¬ x.stand c := by
  obtain ⟨code, n⟩ := c
  cases code with
  | configBad => exact hmode.1
  | stationConflict => exact hmode.2
  | fieldSupplyFail => exact absurd rfl hf
  | fieldSupplyLow => exact absurd rfl hl
  | incidentSplit => exact absurd rfl hs
  | registerFull => exact absurd rfl hr
  | neighbourSilent => exact absurd rfl hn
  | containmentNotAchieved => exact absurd rfl hc
  | _ => simp [Causes.stand, hx, hfault, hseq]

/-- At the release the set is empty, the sequencers are halted and the pressure channels zeroed: every condition is in step
once its own block has resumed. -/
theorem resumeBlocks_inStep (hq : QualifierLaw c) (ha : s.trouble.active = []) (hmode : s.ctl.mode.unmarked)
    (hx : s.link.txFail = false) (hseq : ∀ d, (s.ch d).seq = .stopped) : InStep c (resumeBlocks s) := by
  rw [resumeBlocks_eq, resumeBefore]
  dsimp only
  generalize hu : (startStagger (resumePeers (resumeMeasure s))).withStarts _ = u
  have hsame : SameConditions (resumePeers (resumeMeasure s)) u := by
    rw [← hu]
    exact (startStagger_same _).trans ⟨rfl, rfl⟩
  have hnil : u.trouble.active = [] := hsame.active.trans ha
  have hhalted (hf : c.code ≠ .fieldSupplyFail) (hl : c.code ≠ .fieldSupplyLow) (hs : c.code ≠ .incidentSplit)
      (hr : c.code ≠ .registerFull) (hn : c.code ≠ .neighbourSilent) (hc : c.code ≠ .containmentNotAchieved) :
      ¬ (causes u).stand c := by
    rw [hsame.causes]
    refine not_stand_of_halted hmode hx (fun p => ?_) (fun d => ?_) hf hl hs hr hn hc
    · exact congrArg PressureState.fault (Vector.getElem_replicate ..)
    · exact congrArg (seqCond d) (hseq d)
  have hdeclared := resumeDeclaration_same (raiseSilent (resumeConditions u))
  by_cases hc : c = plainCond .containmentNotAchieved
  · subst hc
    have hout : plainCond .containmentNotAchieved ∉ (raiseSilent (resumeConditions u)).trouble.active := by
      rw [mem_raiseSilent, mem_resumeConditions_of_ne (c := plainCond .containmentNotAchieved) (by decide) (by decide)
        (by decide) (by decide), hnil]
      simp [neighbourSilent, plainCond]
    have hT := notContained_tracks
    refine (inStep_plain rfl).2 (iff_of_false ?_ (resumeContain_not_stand _))
    exact resumeContain_tracks hT (recompute_tracks hT (hT.same hdeclared hout))
  · have hT := inStep_tracks hq
    refine resumeContain_tracks hT (recompute_tracks hT (hT.same hdeclared (raiseSilent_inStep hq (fun hn => ?_) ?_)))
    · exact resumeConditions_inStep hq fun hf hl hs hr =>
        inStep_of_nil hnil (hhalted hf hl hs hr hn (code_ne_of_ne hq hc rfl))
    · intro hn hm
      rw [mem_resumeConditions_of_ne (by rintro rfl; cases hn) (by rintro rfl; cases hn) (by rintro rfl; cases hn)
        (by rintro rfl; cases hn), hnil] at hm
      cases hm

theorem resumeDeclaration_ctl (s : State) : (resumeDeclaration s).ctl = s.ctl := by
  unfold resumeDeclaration
  split
  · exact (placeDeclare_keeps _).2.1
  · exact declarationCheck_ctl s

theorem resumeBlocks_ctl (s : State) : (resumeBlocks s).ctl = s.ctl := by
  rw [resumeBlocks_eq, (resumeAfter_ownKept _).ctl, resumeDeclaration_ctl, (resumeBefore_ownKept s).ctl]

theorem ch_mapVec (f : Channel → Channel) (s : State) (d : ChannelNo) :
    (s.withChans (mapVec f s.chans)).ch d = f (s.ch d) := mapVec_getElem ..

theorem resumeListen_inStep (hq : QualifierLaw c) (ha : s.trouble.active = []) (hx : s.link.txFail = false) :
    InStep c (resumeListen s) := by
  refine endListenOnAlarm_inStep hq (by rw [resumeBlocks_ctl]; exact Mode.unmarked_listen)
    (resumeBlocks_inStep hq ha Mode.unmarked_listen hx fun d => ?_)
  exact congrArg Channel.seq (ch_mapVec _ s d)

theorem resumeActive_inStep (hq : QualifierLaw c) (ha : s.trouble.active = []) (hx : s.link.txFail = false) :
    InStep c (resumeActive s) := by
  have hT := inStep_tracks hq
  refine startTests_tracks hT (completeListening_inStep hq (resumeSequencers_tracks hT _ ?_))
  exact resumeBlocks_inStep hq ha Mode.unmarked_active hx fun d => congrArg Channel.seq (ch_mapVec _ s d)

/-- A warm-reset release: from an empty set every condition whose cause stands is raised anew (R162, R173). -/
theorem warmReset_inStep (hq : QualifierLaw c) (ha : s.trouble.active = []) (hx : s.link.txFail = false)
    (hb : s.ctl.mode.applies = false → (causes s).Blank) : InStep c (warmReset s) := by
  have hout (hm : s.ctl.mode.applies = false) (hl : c.code = .configBad → s.ctl.mode ≠ .lockout) :
      InStep c (releaseReset s) := by
    refine inStep_of_nil ha ((hb hm).not_stand hl (fun _ hmute => ?_) fun _ => hx)
    rw [show s.ctl.mode = .mute from hmute] at hm
    cases hm
  unfold warmReset
  dsimp only
  split
  · next hm =>
    have hm : s.ctl.mode = .start := hm
    exact sampleStraps_inStep hq _ (by change s.ctl.mode.unmarked; rw [hm]; decide)
      (hout (by rw [hm]; rfl) (by rw [hm]; simp))
  · next hm =>
    have hm : s.ctl.mode = .config := hm
    exact hout (by rw [hm]; rfl) (by rw [hm]; simp)
  · exact resumeListen_inStep (s := releaseReset s) hq ha hx
  · exact resumeActive_inStep (s := releaseReset s) hq ha hx
  · exact resumeActive_inStep (s := releaseReset s) hq ha hx
  · next hm =>
    have hm : s.ctl.mode = .lockout := hm
    refine startStagger_tracks (inStep_tracks hq) (raise_inStep (fun hne => ?_) fun _ => ⟨hm, rfl⟩)
    exact hout (by rw [hm]; rfl) fun e => absurd e (code_ne_of_ne hq hne rfl)

end Sys2Proof.Machine
end

section
/-! Own declaration and its frame: while one is owed in LISTEN or ACTIVE, a FIRE-DECLARE is queued (R10, R12, R148, R171). -/

namespace Sys2Proof.Machine

variable {s t : State}

/-- The modes in which an owed declaration has its frame in the queue (R10). -/
def Mode.declares : Mode → Bool
  | .listen => true
  | .active => true
  | _ => false

/-- A FIRE-DECLARE is queued in LISTEN and ACTIVE, exactly while own declaration is owed. -/
def Declared (s : State) : Prop := s.link.queue.fireDeclare = (s.reg.owed && s.ctl.mode.declares)

theorem declares_iff {m : Mode} : m.declares = true ↔ m = .listen ∨ m = .active := by cases m <;> simp [Mode.declares]

theorem declarationLaw_of_declared (h : Declared s) : DeclarationLaw s := by
  intro _ hm
  rw [h, declares_iff.2 hm, Bool.and_true]

/-- Outside LISTEN and ACTIVE no FIRE-DECLARE is queued (R119, R148, R155). -/
theorem fireDeclare_of_queueLaw (h : QueueLaw s) (hm : s.ctl.mode.declares = false) :
    s.link.queue.fireDeclare = false := by
  unfold QueueLaw at h
  cases e : s.ctl.mode with
  | start => rw [e] at h; rw [h]; rfl
  | config => rw [e] at h; rw [h]; rfl
  | listen => rw [e] at hm; cases hm
  | active => rw [e] at hm; cases hm
  | mute => rw [e] at h; rw [h]; rfl
  | lockout => rw [e] at h; exact congrArg TxQueue.fireDeclare h

theorem declared_of_laws (hr : s.inReset = false) (hq : QueueLaw s) (h : DeclarationLaw s) : Declared s := by
  unfold Declared
  cases hm : s.ctl.mode.declares with
  | false => rw [fireDeclare_of_queueLaw hq hm, Bool.and_false]
  | true => rw [Bool.and_true, Bool.eq_iff_iff]; exact (h hr (declares_iff.1 hm)).symm

/-! ### The register's events -/

theorem Declared.kept (h : Declared s) (k : OwnKept s t) : Declared t := by
  unfold Declared
  rw [k.declare, k.reg, k.ctl]
  exact h

/-- Own declaration, the frame's place and the standing of the mode stay. -/
theorem Declared.moved (h : Declared s) (ho : t.reg.owed = s.reg.owed)
    (hd : t.link.queue.fireDeclare = s.link.queue.fireDeclare) (hm : t.ctl.mode.declares = s.ctl.mode.declares) :
    Declared t := by
  unfold Declared
  rw [ho, hd, hm]
  exact h

theorem registerEvent_declared {new : IncidentRegister} (ho : new.owed = s.reg.owed) (h : Declared s) :
    Declared (registerEvent new s) := by
  have k : OwnKept (s.withReg new) (registerEvent new s) := .of_lessRoles (registerEvent_lessRoles s new)
  exact Declared.kept (h.moved (t := s.withReg new) ho rfl rfl) k

theorem placeDeclare_fireDeclare (s : State) :
    (placeDeclare s).link.queue.fireDeclare = (s.ctl.mode.declares || s.link.queue.fireDeclare) := by
  unfold placeDeclare
  split
  · next h => rw [declares_iff.2 h]; rfl
  · next h => rw [show s.ctl.mode.declares = false by rw [← Bool.not_eq_true, declares_iff]; exact h, Bool.false_or]

/-- An owed declaration is placed where its mode has it placed. -/
theorem placeDeclare_declared (ho : s.reg.owed = true) (h : s.ctl.mode.declares = false → s.link.queue.fireDeclare = false) :
    Declared (placeDeclare s) := by
  obtain ⟨hreg, hctl, -⟩ := placeDeclare_keeps s
  unfold Declared
  rw [placeDeclare_fireDeclare, hreg, hctl, ho, Bool.true_and]
  cases hm : s.ctl.mode.declares
  · exact h hm
  · rfl

theorem declarationCheck_declared (h : Declared s) : Declared (declarationCheck s) := by
  unfold declarationCheck
  split
  · refine placeDeclare_declared rfl fun hm => ?_
    have hm : s.ctl.mode.declares = false := hm
    change s.link.queue.fireDeclare = false
    rw [h, hm, Bool.and_false]
  · exact h

/-- From a queue without the frame, an owed declaration is placed again (R10). -/
theorem replaceDeclare_declared (h : s.link.queue.fireDeclare = false) : Declared (replaceDeclare s) := by
  unfold replaceDeclare
  split
  · next ho => exact placeDeclare_declared ho fun _ => h
  · next ho =>
    have ho : s.reg.owed = false := by simpa using ho
    unfold Declared
    rw [h, ho, Bool.false_and]

theorem resumeDeclaration_declared (h : s.link.queue.fireDeclare = false) : Declared (resumeDeclaration s) := by
  unfold resumeDeclaration
  split
  · next ho => exact placeDeclare_declared ho fun _ => h
  · next ho =>
    refine declarationCheck_declared ?_
    have ho : s.reg.owed = false := by simpa using ho
    unfold Declared
    rw [h, ho, Bool.false_and]

/-! ### The modes -/

theorem enterActive_declared (hm : s.ctl.mode.declares = true) (h : Declared s) : Declared (enterActive s) := by
  have hset : Declared (setMode .active (s.withCtl { s.ctl with listenTimer := none })) := h.moved rfl rfl hm.symm
  have hstarted := hset.kept ((recompute_ownKept _).trans (.of_lessSequencing (startSequencers_lessSequencing _)))
  have hgrace := hstarted.kept (.of_lessRoles (graceStart_lessRoles _))
  exact hgrace.kept ((completeListening_ownKept _).trans (startTests_ownKept _))

theorem endListenOnAlarm_declared (hm : s.ctl.mode.declares = true) (h : Declared s) : Declared (endListenOnAlarm s) :=
  holds_ite (P := Declared) (enterActive_declared hm h) h

theorem listenEntered_declared (hm : s.ctl.mode = .listen) (h : Declared s) :
    Declared (endListenOnAlarm (recompute (declarationCheck s))) := by
  refine endListenOnAlarm_declared ?_ ((declarationCheck_declared h).kept (recompute_ownKept _))
  rw [(recompute_ownKept _).ctl, declarationCheck_ctl, hm]
  rfl

theorem beginListen_keeps (s : State) : (beginListen s).reg = s.reg
    ∧ (beginListen s).link.queue.fireDeclare = s.link.queue.fireDeclare :=
  ⟨(startStagger_ownKept _).reg, (startStagger_ownKept _).declare⟩

theorem enterListen_declared (ho : s.reg.owed = false) (h : s.link.queue.fireDeclare = false) :
    Declared (enterListen s) := by
  obtain ⟨hreg, hdeclare⟩ := beginListen_keeps s
  refine listenEntered_declared (s := setScan (scanFrom (beginListen s) 0) (beginListen s)) (beginListen_mode s) ?_
  change (beginListen s).link.queue.fireDeclare = ((beginListen s).reg.owed && _)
  rw [hreg, hdeclare, ho, h, Bool.false_and]

theorem enterLockout_declared (h : s.link.queue.fireDeclare = false) : Declared (enterLockout s) := by
  refine Declared.kept (s := setMode .lockout s) ?_ (enterLockout_ownKept s)
  exact h.trans (Bool.and_false _).symm

theorem sampleStraps_declared (p : StrapPins) (h : s.link.queue.fireDeclare = false) : Declared (sampleStraps p s) :=
  holds_ite (P := Declared) (enterLockout_declared h) (h.trans (Bool.and_false _).symm)

theorem coldReset_declared (p : StrapPins) (s : State) : Declared (coldReset p s) := sampleStraps_declared p rfl

theorem enterMute_declared (o : Origin) (s : State) : Declared (enterMute o s) := by
  unfold enterMute
  dsimp only
  refine Declared.kept (Declared.kept ?_ (.of_lessReports (raise_lessReports _ _)))
    ((recompute_ownKept _).trans (startTests_ownKept _))
  exact (Bool.and_false _).symm

theorem evidence_declared (h : Declared s) : Declared (evidence s) := by
  unfold evidence
  split
  · exact enterMute_declared _ s
  · exact enterMute_declared _ s
  · exact h
  · exact h

theorem leaveMute_declared (hm : s.ctl.mode = .mute) (h : Declared s) : Declared (leaveMute s) := by
  have hnone : (endCond (plainCond .stationConflict) s).link.queue.fireDeclare = false := by
    rw [(OwnKept.of_lessReports (endCond_lessReports s _)).declare, h, hm]
    exact Bool.and_false _
  unfold leaveMute
  dsimp only
  split
  · refine listenEntered_declared ?_ (replaceDeclare_declared ?_)
    · rw [replaceDeclare_ctl, beginListen_mode]
    · rw [(beginListen_keeps _).2, hnone]
  · refine Declared.kept (replaceDeclare_declared ?_)
      ((recompute_ownKept _).trans ((completeListening_ownKept _).trans (startTests_ownKept _)))
    rw [(startStagger_ownKept _).declare]
    exact hnone

/-! ### Warm reset -/

theorem resumeBlocks_declared (h : s.link.queue.fireDeclare = false) : Declared (resumeBlocks s) := by
  rw [resumeBlocks_eq]
  refine Declared.kept (resumeDeclaration_declared ?_) (resumeAfter_ownKept _)
  rw [(resumeBefore_ownKept s).declare, h]

theorem resumeActive_declared (h : s.link.queue.fireDeclare = false) : Declared (resumeActive s) := by
  unfold resumeActive
  refine Declared.kept (resumeBlocks_declared ?_) ((OwnKept.of_lessSequencing (resumeSequencers_lessSequencing _ _)).trans
    ((completeListening_ownKept _).trans (startTests_ownKept _)))
  exact h

theorem warmReset_declared (h : s.link.queue.fireDeclare = false) : DeclarationLaw (warmReset s) := by
  have hstays (m : Mode) (hm : s.ctl.mode = m) (hd : m.declares = false) : Declared (releaseReset s) := by
    subst hm
    change s.link.queue.fireDeclare = (_ && s.ctl.mode.declares)
    rw [h, hd, Bool.and_false]
  refine declarationLaw_of_declared ?_
  unfold warmReset
  dsimp only
  split
  · exact sampleStraps_declared _ h
  · next hm => exact hstays _ hm rfl
  · refine endListenOnAlarm_declared ?_ (resumeBlocks_declared h)
    rw [resumeBlocks_ctl]
    rfl
  · exact resumeActive_declared h
  · exact resumeActive_declared h
  · next hm =>
    exact (hstays _ hm rfl).kept (.after (startStagger_ownKept _) (.of_lessReports (raise_lessReports _ _)))

/-! ### Accepted frames -/

/-- The frame on the wire tells the kind of the attempt (R142, R149). -/
theorem attempt_of_isOwnFrame {f : Frame} (hl : AttemptLaw s) (h : isOwnFrame f s = true) :
    ∃ a, s.link.attempt = some a ∧ kindHasClass a.kind f.cls = true ∧ s.ctl.mode.sends = true := by
  unfold AttemptLaw at hl
  unfold isOwnFrame at h
  cases ha : s.link.attempt with
  | none => rw [ha] at h; cases h
  | some a =>
    rw [ha] at hl h
    obtain ⟨-, -, -, -, hclass, hsends⟩ := hl
    obtain rfl : a.frame = f := by simpa using h
    exact ⟨a, rfl, hclass, hsends⟩

theorem kind_ne_of_class {k : FrameKind} {cls : FrameClass} (h : kindHasClass k cls = true) (hc : cls ≠ 2) :
    k ≠ .fireDeclare := by
  rintro rfl
  exact hc (by simpa [kindHasClass] using h)

theorem kind_of_class {k : FrameKind} (h : kindHasClass k 2 = true) : k = .fireDeclare := by
  cases k <;> first | rfl | exact absurd h (by decide)

theorem ownFrameOut_fireDeclare {a : Attempt} (h : s.link.attempt = some a) :
    (ownFrameOut s).link.queue.fireDeclare = (s.link.queue.put a.kind false).fireDeclare := by
  unfold ownFrameOut
  rw [h]
  exact (OwnKept.of_lessReports (endCond_lessReports _ _)).declare

/-- The link's part of an accepted frame that is no own FIRE-DECLARE. -/
theorem linkPart_declared {own : Bool} {f : Frame} (hl : AttemptLaw s) (hown : own = true → isOwnFrame f s = true)
    (hc : own = true → f.cls ≠ 2) (h : Declared s) : Declared (if own then ownFrameOut s else otherFrameIn s) := by
  cases own with
  | false => exact h.kept (otherFrameIn_ownKept s)
  | true =>
    obtain ⟨a, ha, hclass, -⟩ := attempt_of_isOwnFrame hl (hown rfl)
    obtain ⟨hreg, hctl, -⟩ := ownFrameOut_keeps s
    have hkind := kind_ne_of_class hclass (hc rfl)
    refine h.moved (t := ownFrameOut s) (by rw [hreg]) ?_ (by rw [hctl])
    rw [ownFrameOut_fireDeclare ha]
    cases e : a.kind <;> first | rfl | exact absurd e hkind

/-- After the blocks have acted, the detector and the tests leave own declaration in order. -/
theorem acceptFrame_declared {own : Bool} {f : Frame} {blocks : State → State} (h : Declared s)
    (hb : Declared (blocks (if own then ownFrameOut s else otherFrameIn s))) :
    Declared (acceptFrame own f blocks s) := by
  have hdetect (t : State) (ht : Declared t) : Declared (detectConflict own f t) :=
    holds_ite (P := Declared) (evidence_declared ht) ht
  refine holds_ite (P := Declared) ?_ h
  exact (hdetect _ hb).kept ((startTests_ownKept _).trans (settleRaises_ownKept _ _))

theorem whenApplied_declared {g : State → State} (hg : Declared s → Declared (g s)) (h : Declared s) :
    Declared (whenApplied g s) := holds_ite (P := Declared) (hg h) h

theorem clearRegister_owed (reg : IncidentRegister) : (clearRegister reg).owed = reg.owed := rfl

theorem applyClear_declared (h : Declared s) : Declared (applyClear s) :=
  declarationCheck_declared (registerEvent_declared (clearRegister_owed _) h)

theorem declareFrame_owed (own zone : Nat) (words : List Word) (reg : IncidentRegister) :
    (declareFrame own zone words reg).owed = reg.owed := by
  unfold declareFrame
  split
  · rfl
  · split
    · rfl
    · rw [stopIfEntered_owed, classify_owed]

theorem viewFrame_owed (own : Nat) (v : Option View) (reg : IncidentRegister) :
    (viewFrame own v reg).owed = reg.owed := by
  unfold viewFrame
  split
  · rfl
  · split_ifs
    · exact stopIfEntered_owed ..
    · rfl
    · rw [stopIfEntered_owed, mergeView_owed]

theorem applyView_declared (z : Station) (w2 w3 : Word) (h : Declared s) : Declared (applyView z w2 w3 s) := by
  refine holds_ite (P := Declared) h ?_
  exact Declared.kept (h.moved (t := s.withReg (viewFrame s.station (readView w2 w3) s.reg)) (viewFrame_owed ..) rfl rfl)
    (.of_lessReports (storeRegister_lessReports _ _))

theorem applyStatus_declared (own : Bool) (z : Station) (w1 w2 w3 : Word) (h : Declared s) :
    Declared (applyStatus own z w1 w2 w3 s) := by
  have hpeer : Declared
      (if own then ownStatusAccepted s
        else whenApplied (storeStatus z.toNat { mode := readMode w1, contain := readContain w1 }) s) :=
    holds_ite (P := Declared) (h.kept (ownStatusAccepted_ownKept s))
      (whenApplied_declared (fun k => k.kept (storeStatus_ownKept s _ _)) h)
  have hview := whenApplied_declared (applyView_declared z w2 w3) hpeer
  exact holds_ite (P := Declared) (hview.kept (recompute_ownKept _)) hview

/-- A FIRE-DECLARE that this node did not send leaves own declaration owed (R7). -/
theorem applyDeclare_other_declared (z : Station) (words : List Word) (h : Declared s) :
    Declared (applyDeclare false z words s) := registerEvent_declared (declareFrame_owed ..) h

/-- Own FIRE-DECLARE leaves the queue, and own declaration is NONE (R12). -/
theorem applyDeclare_own_declared (z : Station) (words : List Word) (h : s.link.queue.fireDeclare = false) :
    Declared (applyDeclare true z words s) := by
  refine registerEvent_declared (s := s.withReg (ownDeclared s.reg)) (declareFrame_owed ..) ?_
  exact h.trans (Bool.false_and _).symm

theorem fireDeclareAccepted_declared (z : Station) (words : List Word) (hl : AttemptLaw s) (h : Declared s) :
    Declared (acceptFrame (isOwnFrame { cls := 2, station := z, words := words } s)
      { cls := 2, station := z, words := words }
      (whenApplied (applyDeclare (isOwnFrame { cls := 2, station := z, words := words } s) z words)) s) := by
  refine acceptFrame_declared h ?_
  cases hown : isOwnFrame { cls := 2, station := z, words := words } s with
  | false => exact whenApplied_declared (applyDeclare_other_declared z words) (h.kept (otherFrameIn_ownKept s))
  | true =>
    obtain ⟨a, ha, hclass, hsends⟩ := attempt_of_isOwnFrame hl hown
    obtain ⟨-, hctl, -⟩ := ownFrameOut_keeps s
    have hout : (ownFrameOut s).link.queue.fireDeclare = false := by
      rw [ownFrameOut_fireDeclare ha, kind_of_class hclass]
      rfl
    simp only [if_true, whenApplied, hctl]
    split
    · exact applyDeclare_own_declared z words hout
    · next ha =>
      have hm : s.ctl.mode.declares = false := by
        revert ha
        cases s.ctl.mode <;> simp [Mode.applies, Mode.declares]
      unfold Declared
      rw [hout, hctl, hm, Bool.and_false]

end Sys2Proof.Machine
end

section
/-! Outside reset, every command but a reset keeps the conditions in step with their causes (R58, R85, R95, R104, R132, R152). -/

namespace Sys2Proof.Machine

variable {c : Cond} {s t : State}

/-! ### Accepted frames -/

/-- What holds before an event, and after it outside reset, holds after it. -/
theorem holds_outside {P : State → Prop} {f : State → State} (h : P s) (k : P (f s)) : P (s.outside f) :=
  holds_ite (P := P) h k

theorem holds_whenApplied {P : State → Prop} {f : State → State} (h : P s) (k : P (f s)) : P (whenApplied f s) :=
  holds_ite (P := P) k h

theorem InStep.settled (h : InStep c t) : InStep c (settleRaises s t) := h.same (settleRaises_same s t)

/-- A frame is accepted: the link's part, the blocks' part and the detector's. -/
theorem acceptFrame_inStep (hq : QualifierLaw c) (own : Bool) (f : Frame) {blocks : State → State}
    (hb : ∀ u, InStep c u → InStep c (blocks u)) (h : InStep c s) : InStep c (acceptFrame own f blocks s) := by
  have hlink : InStep c (if own then ownFrameOut s else otherFrameIn s) :=
    holds_ite (P := InStep c) (ownFrameOut_inStep hq h) (otherFrameIn_inStep hq h)
  have hdetect (u : State) (hu : InStep c u) : InStep c (detectConflict own f u) :=
    holds_ite (P := InStep c) (evidence_inStep hq hu) hu
  refine holds_ite (P := InStep c) (InStep.settled (startTests_tracks (inStep_tracks hq) ?_)) h
  exact hdetect _ (hb _ hlink)

theorem applyClear_inStep (hq : QualifierLaw c) (h : InStep c s) : InStep c (applyClear s) :=
  (registerEvent_inStep hq _ h).same (declarationCheck_same _)

theorem applyOverride_inStep (hq : QualifierLaw c) (w : Word) (h : InStep c s) : InStep c (applyOverride w s) := by
  have hT := inStep_tracks hq
  have hrole : InStep c (s.withRole { s.role with override := overrideMode w }) := hT.write h rfl rfl
  exact holds_ite (P := InStep c) (recompute_tracks hT (statusNotice_tracks hT hrole)) h

theorem applyDeclare_inStep (hq : QualifierLaw c) (own : Bool) (z : Station) (words : List Word) (h : InStep c s) :
    InStep c (applyDeclare own z words s) := by
  have hown : InStep c (s.withReg (ownDeclared s.reg)) := h.same ⟨rfl, rfl⟩
  exact registerEvent_inStep hq _ (holds_ite (P := InStep c) hown h)

theorem ownStatusAccepted_inStep (hq : QualifierLaw c) (h : InStep c s) : InStep c (ownStatusAccepted s) := by
  have hT := inStep_tracks hq
  have hfresh (b : Bool) : InStep c
      ((if b then
          s.withTrouble { s.trouble with record := s.trouble.record.map (fun r => { r with fresh := false }) }
        else s).withStatus { period := some periodTime, earlyPending := false, captured := none }) := by
    cases b <;> exact h.same ⟨rfl, rfl⟩
  exact holds_ite (P := InStep c) (queueStatus_tracks hT (hfresh _)) (hfresh _)

theorem applyStatus_inStep (hq : QualifierLaw c) (own : Bool) (z : Station) (w1 w2 w3 : Word) (h : InStep c s) :
    InStep c (applyStatus own z w1 w2 w3 s) := by
  have hpeer : InStep c
      (if own then ownStatusAccepted s
        else whenApplied (storeStatus z.toNat { mode := readMode w1, contain := readContain w1 }) s) :=
    holds_ite (P := InStep c) (ownStatusAccepted_inStep hq h) (holds_whenApplied h (storeStatus_inStep z _ h))
  have hview {u : State} (hu : InStep c u) : InStep c (whenApplied (applyView z w2 w3) u) :=
    holds_whenApplied hu (holds_ite (P := InStep c) hu (storeRegister_inStep hq _ hu))
  exact holds_ite (P := InStep c) (recompute_tracks (inStep_tracks hq) (hview hpeer)) (hview hpeer)

/-! ### Panel lines, inputs and results -/

theorem alarmEvent_inStep (hq : QualifierLaw c) (active : Bool) (h : InStep c s) : InStep c (alarmEvent active s) := by
  have hnotice := statusNotice_tracks (inStep_tracks hq) h
  have hcheck := hnotice.same (declarationCheck_same _)
  unfold alarmEvent
  dsimp only
  refine holds_ite (P := InStep c) ?_ hnotice
  split
  · next hm => exact enterActive_inStep hq (by rw [hm]; exact Mode.unmarked_listen) hcheck
  · exact hcheck

theorem acknowledge_same (together : Bool) (s : State) : SameConditions s (acknowledge together s) := by
  refine ⟨causes_of_lessReports (acknowledge_lessReports s together), ?_⟩
  unfold acknowledge
  split
  · rfl
  · rw [statusNotice_trouble]
    exact refilled_active together s.trouble

theorem storeInput_same (d : ChannelNo) (i : Input) (made : Bool) (s : State) :
    SameConditions s (storeInput d i made s) :=
  setCh_same (by cases i <;> rfl)

theorem inputEvent_inStep (hq : QualifierLaw c) (d : ChannelNo) (i : Input) (made : Bool) (h : InStep c s) :
    InStep c (inputEvent d i made s) := by
  have hT := inStep_tracks hq
  unfold inputEvent
  split
  · exact startTests_tracks hT (limitEvent_tracks hT d h)
  · exact holds_ite (P := InStep c) (provingEvent_tracks hT made d h) h
  · exact h

/-- A new level at a channel's input, and what its sequencer does of it. -/
theorem inputChange_inStep (hq : QualifierLaw c) (d : ChannelNo) (i : Input) (made : Bool) (h : InStep c s) :
    InStep c ((storeInput d i made s).outside (inputEvent d i made)) :=
  have hstored := h.same (storeInput_same d i made s)
  holds_outside hstored (inputEvent_inStep hq d i made hstored)

/-! ### Every command -/

/-- The commands of RESET and of power (R156, R173, R174). -/
def resets : Instr → Bool
  | .powerUp _ | .coldReset _ | .warmReset | .resetHeld | .resetHold5s => true
  | _ => false

theorem exec_inStep {i : Instr} (hq : QualifierLaw c) (hi : resets i = false)
    (hb : s.ctl.mode = .config → (causes s).Blank) (h : InStep c s) (he : exec i s = .next t) : InStep c t := by
  have hT := inStep_tracks hq
  cases i with
  | powerUp | coldReset | warmReset | resetHeld | resetHold5s => cases hi
  | configReadDone block =>
    obtain rfl := Host.Outcome.next.inj he
    refine holds_outside h ?_
    split
    · next hm => exact (configRead_inStep hq block hm (hb hm) h).settled
    · exact h
  | listenTimerExpiry =>
    obtain rfl := Host.Outcome.next.inj he
    refine holds_outside h ?_
    split
    · next hm => exact (enterActive_inStep hq (by rw [hm.1]; exact Mode.unmarked_listen) h).settled
    · exact h
  | muteQuietTimerExpiry =>
    obtain rfl := Host.Outcome.next.inj he
    refine holds_outside h ?_
    split
    · next hm => exact (leaveMute_inStep hq hm.1 h).settled
    · exact h
  | lineIdle levels =>
    obtain rfl := Host.Outcome.next.inj he
    exact holds_outside h (holds_ite (P := InStep c) (h.same ⟨rfl, rfl⟩) h)
  | attemptStart =>
    obtain rfl := Host.Outcome.next.inj he
    refine holds_outside h (holds_ite (P := InStep c) ?_ h)
    split
    · exact sendKind_inStep hq _ h
    · exact h
  | arbitrationLost bit =>
    obtain rfl := Host.Outcome.next.inj he
    exact holds_outside h (stopSending_inStep hq bit h)
  | duplicateKeyStop bit =>
    obtain rfl := Host.Outcome.next.inj he
    exact holds_outside h (holds_ite (P := InStep c) (evidence_inStep hq (stopSending_inStep hq bit h)) h)
  | failedAttempt =>
    obtain rfl := Host.Outcome.next.inj he
    refine holds_outside h (holds_ite (P := InStep c) (startTests_tracks hT (countFailure_inStep hq ?_)) h)
    exact (endAttempt_inStep hq .closed 0 h).same ⟨rfl, rfl⟩
  | retryWaitEnd b =>
    obtain rfl := Host.Outcome.next.inj he
    exact holds_outside h (holds_ite (P := InStep c) (h.same (by cases b <;> exact ⟨rfl, rfl⟩)) h)
  | clearAccepted z w =>
    obtain rfl := Host.Outcome.next.inj he
    exact acceptFrame_inStep hq _ _ (fun _ k => holds_whenApplied k (applyClear_inStep hq k)) h
  | overrideAccepted z w =>
    obtain rfl := Host.Outcome.next.inj he
    exact acceptFrame_inStep hq _ _ (fun _ k => holds_whenApplied k (applyOverride_inStep hq w k)) h
  | fireDeclareAccepted z words =>
    obtain rfl := Host.Outcome.next.inj he
    exact acceptFrame_inStep hq _ _ (fun _ k => holds_whenApplied k (applyDeclare_inStep hq _ z words k)) h
  | startClaimAccepted urgent z w =>
    obtain rfl := Host.Outcome.next.inj he
    refine acceptFrame_inStep hq _ _ (fun u k => ?_) h
    split
    · exact ownClaim_tracks hT k
    · exact holds_whenApplied k (peerClaim_tracks hT _ k)
  | statusAccepted z w1 w2 w3 w4 =>
    obtain rfl := Host.Outcome.next.inj he
    exact acceptFrame_inStep hq _ _ (fun _ k => applyStatus_inStep hq _ z w1 w2 w3 k) h
  | otherFrameAccepted cls z words =>
    obtain rfl := Host.Outcome.next.inj he
    exact acceptFrame_inStep hq _ _ (fun _ k => k) h
  | isolatedDeclarationTimerExpiry =>
    obtain rfl := Host.Outcome.next.inj he
    exact holds_outside h (holds_ite (P := InStep c) (registerEvent_inStep hq _ h) h)
  | alarmChange active =>
    obtain rfl := Host.Outcome.next.inj he
    have hlevel : InStep c (s.withPanel { s.panel with alarm := takeLevel active }) := h.same ⟨rfl, rfl⟩
    exact holds_ite (P := InStep c) h (holds_outside hlevel (alarmEvent_inStep hq active hlevel)).settled
  | panelResetPulse =>
    obtain rfl := Host.Outcome.next.inj he
    have hpulse : InStep c (s.withPanel { s.panel with panelReset := takePulse s.panel.panelReset }) := h.same ⟨rfl, rfl⟩
    exact holds_ite (P := InStep c) h
      (holds_outside hpulse (holds_ite (P := InStep c) (setQueued_tracks hT _ _ hpulse) hpulse))
  | ackPulse together =>
    obtain rfl := Host.Outcome.next.inj he
    have hpulse : InStep c (s.withPanel { s.panel with ack := takePulse s.panel.ack }) := h.same ⟨rfl, rfl⟩
    exact holds_ite (P := InStep c) h (holds_outside hpulse (hpulse.same (acknowledge_same together _)))
  | pulseLineReturnInactive line =>
    obtain rfl := Host.Outcome.next.inj he
    exact h.same (by cases line <;> exact ⟨rfl, rfl⟩)
  | statusPeriodTimerExpiry =>
    obtain rfl := Host.Outcome.next.inj he
    have hstopped : InStep c (s.withStatus { s.status with period := none }) := h.same ⟨rfl, rfl⟩
    exact holds_outside h (holds_ite (P := InStep c) (queueStatus_tracks hT hstopped) h)
  | spacingTimerExpiry peer =>
    obtain rfl := Host.Outcome.next.inj he
    exact holds_outside h (h.same (setPeer_same _ rfl))
  | silenceTimerExpiry peer =>
    obtain rfl := Host.Outcome.next.inj he
    exact holds_outside h (silenceExpiry_inStep hq _ h).settled
  | holdOffExpiry =>
    obtain rfl := Host.Outcome.next.inj he
    exact holds_outside h (holds_ite (P := InStep c) (startTests_tracks hT (withStarts_tracks hT _ h)) h)
  | provingTimerExpiry d =>
    obtain rfl := Host.Outcome.next.inj he
    exact holds_outside h (provingExpiry_tracks hT d h)
  | runDownTimerExpiry d =>
    obtain rfl := Host.Outcome.next.inj he
    exact holds_outside h (startTests_tracks hT (runDownExpiry_tracks hT d h))
  | provingSwitchChange d made =>
    obtain rfl := Host.Outcome.next.inj he
    exact holds_ite (P := InStep c) h (inputChange_inStep hq d .a made h)
  | limitChange d i made =>
    obtain rfl := Host.Outcome.next.inj he
    exact holds_ite (P := InStep c) h (inputChange_inStep hq d i made h)
  | travelTimerExpiry d =>
    obtain rfl := Host.Outcome.next.inj he
    exact holds_outside h (startTests_tracks hT (travelExpiry_tracks hT d h))
  | graceTimerExpiry =>
    obtain rfl := Host.Outcome.next.inj he
    exact holds_outside h (graceExpiry_inStep hq h)
  | conversionADone code =>
    obtain rfl := Host.Outcome.next.inj he
    refine holds_outside h ?_
    split
    · exact h.same ⟨rfl, rfl⟩
    · exact h
  | pairComplete code =>
    obtain rfl := Host.Outcome.next.inj he
    refine holds_outside h ?_
    split
    · next p codeA _ =>
      have hscan : InStep c (setScan (scanFrom s (p.val + 1)) s) := h.same ⟨rfl, rfl⟩
      have hpair := pairEvent_inStep hq p codeA code hscan
      exact holds_ite (P := InStep c) hpair.settled hpair
    · exact h
  | supplySample code =>
    obtain rfl := Host.Outcome.next.inj he
    refine holds_outside h ?_
    split
    · have hscan : InStep c (setScan (scanFrom s 0) s) := h.same ⟨rfl, rfl⟩
      exact supplyEvent_inStep hq _ hscan
    · exact h

end Sys2Proof.Machine
end

section
/-! Own declaration and the latches through every command, reset and the millisecond; O29 (R4, R10, R12, R156, R158, R162). -/

namespace Sys2Proof.Machine

variable {c : Cond} {s t : State}

/-! ### Own declaration through every command but a reset -/

/-- A command that is no reset leaves an owed declaration queued (R10, R12). -/
theorem exec_declared {i : Instr} (hi : resets i = false) (hl : AttemptLaw s) (hreg : RegisterLaw s) (h : Declared s)
    (he : exec i s = .next t) : Declared t := by
  by_cases hquiet : quiet i = true
  · exact h.kept (exec_quiet hquiet he)
  have hsettled {u : State} (k : Declared u) : Declared (settleRaises s u) := k.kept (settleRaises_ownKept s u)
  have haccepted {own : Bool} {f : Frame} {blocks : State → State} (hown : own = true → isOwnFrame f s = true)
      (hc : own = true → f.cls ≠ 2) (hb : ∀ u, Declared u → Declared (blocks u)) : Declared (acceptFrame own f blocks s) :=
    acceptFrame_declared h (hb _ (linkPart_declared hl hown hc h))
  cases i with
  | powerUp | coldReset | warmReset | resetHeld => cases hi
  | configReadDone block =>
    obtain rfl := Host.Outcome.next.inj he
    refine holds_outside h ?_
    split
    · next hm =>
      obtain ⟨-, -, -, hempty⟩ := hreg
      have howed : s.reg.owed = false := (hempty (by rw [hm]; rfl)).2
      have hnone : s.link.queue.fireDeclare = false := by rw [h, howed, Bool.false_and]
      refine hsettled (holds_ite (P := Declared) ?_ (enterLockout_declared hnone))
      exact enterListen_declared howed hnone
    · exact h
  | listenTimerExpiry =>
    obtain rfl := Host.Outcome.next.inj he
    refine holds_outside h ?_
    split
    · next hm => exact hsettled (enterActive_declared (by rw [hm.1]; rfl) h)
    · exact h
  | muteQuietTimerExpiry =>
    obtain rfl := Host.Outcome.next.inj he
    refine holds_outside h ?_
    split
    · next hm => exact hsettled (leaveMute_declared hm.1 h)
    · exact h
  | duplicateKeyStop bit =>
    obtain rfl := Host.Outcome.next.inj he
    exact holds_outside h (holds_ite (P := Declared) (evidence_declared (h.kept (stopSending_ownKept s bit))) h)
  | clearAccepted z w =>
    obtain rfl := Host.Outcome.next.inj he
    exact haccepted id (by simp) fun _ => whenApplied_declared applyClear_declared
  | overrideAccepted z w =>
    obtain rfl := Host.Outcome.next.inj he
    exact haccepted (by simp) (by simp) fun u => whenApplied_declared fun k => k.kept (applyOverride_ownKept u w)
  | fireDeclareAccepted z words =>
    obtain rfl := Host.Outcome.next.inj he
    exact fireDeclareAccepted_declared z words hl h
  | startClaimAccepted urgent z w =>
    obtain rfl := Host.Outcome.next.inj he
    refine haccepted id (by cases urgent <;> simp [claimClass]) fun u k => ?_
    split
    · exact k.kept (.of_lessSequencing (ownClaim_lessSequencing u))
    · exact whenApplied_declared (fun k => k.kept (.of_lessSequencing (peerClaim_lessSequencing u _))) k
  | statusAccepted z w1 w2 w3 w4 =>
    obtain rfl := Host.Outcome.next.inj he
    exact haccepted id (by simp) fun _ => applyStatus_declared _ z w1 w2 w3
  | otherFrameAccepted cls z words =>
    obtain rfl := Host.Outcome.next.inj he
    exact haccepted (by simp) (by simp) fun _ k => k
  | isolatedDeclarationTimerExpiry =>
    obtain rfl := Host.Outcome.next.inj he
    exact holds_outside h (holds_ite (P := Declared) (registerEvent_declared (classify_owed ..) h) h)
  | alarmChange active =>
    obtain rfl := Host.Outcome.next.inj he
    have hlevel : Declared (s.withPanel { s.panel with alarm := takeLevel active }) := h
    refine holds_ite (P := Declared) h (hsettled (holds_outside hlevel ?_))
    have hnotice := hlevel.kept (.of_lessReports (statusNotice_lessReports _))
    have hcheck := declarationCheck_declared hnotice
    refine holds_ite (P := Declared) ?_ hnotice
    split
    · next hm => exact enterActive_declared (by rw [hm]; rfl) hcheck
    · exact hcheck
  | _ => exact absurd rfl hquiet

/-! ### The latches (R4, R5) -/

/-- Outside LISTEN, ACTIVE and MUTE no latch is set. -/
def LatchLaw (s : State) : Prop :=
  s.ctl.mode.applies = false → s.reg.fullLatch = false ∧ s.reg.splitLatch = false

theorem RegisterRun.latches (h : RegisterRun s t) : LatchLaw s → LatchLaw t := by
  induction h with
  | moved reg _ mode _ => exact fun hs hm => by rw [reg]; exact hs (mode hm)
  | event applies _ _ ctl _ => exact fun _ hm => by rw [ctl, applies] at hm; cases hm
  | sampled reg mode _ => exact fun hs _ => by rw [reg]; exact hs mode
  | cold reg _ => exact fun _ _ => by rw [reg]; exact ⟨rfl, rfl⟩
  | trans _ _ ih ih' => exact fun hs => ih' (ih hs)

theorem exec_latches {i : Instr} (hmode : ModeLaw s) (hreg : RegisterLaw s) (h : LatchLaw s) (he : exec i s = .next t) :
    LatchLaw t := by
  by_cases hi : i = .resetHeld
  · subst hi
    obtain ⟨hr, hc⟩ := resetHeld_keeps he
    simpa only [LatchLaw, hr, hc] using h
  · exact (exec_run hi hmode hreg he).latches h

/-! ### In reset -/

/-- The node is in reset still, with the active set it had. -/
structure StaysReset (s t : State) : Prop where
  held   : t.inReset = true
  active : t.trouble.active = s.trouble.active

theorem staysReset_outside {f : State → State} (h : StaysReset s t) : StaysReset s (t.outside f) := by
  rw [outside_of_inReset h.held]
  exact h

theorem acceptFrame_inReset (hr : s.inReset = true) (own : Bool) (f : Frame) (blocks : State → State) :
    acceptFrame own f blocks s = s := by
  refine if_neg ?_
  rw [State.accepts_eq, State.hears, hr]
  exact Bool.false_ne_true

/-- In reset no command but a release ends it or raises a condition (R162). -/
theorem exec_staysReset {i : Instr} (hr : s.inReset = true) (hi : resets i = false ∨ i = .resetHeld ∨ i = .resetHold5s)
    (he : exec i s = .next t) : StaysReset s t := by
  have hself : StaysReset s s := ⟨hr, rfl⟩
  have haccept (own : Bool) (f : Frame) (blocks : State → State) : StaysReset s (acceptFrame own f blocks s) := by
    rw [acceptFrame_inReset hr]
    exact hself
  have hsettled {u : State} (k : StaysReset s u) : StaysReset s (settleRaises s u) :=
    ⟨(settleRaises_ownKept s u).held.trans k.held, (settleRaises_same s u).active.trans k.active⟩
  cases i with
  | powerUp | coldReset | warmReset => simp [resets] at hi
  | clearAccepted | overrideAccepted | fireDeclareAccepted | startClaimAccepted | statusAccepted | otherFrameAccepted =>
    obtain rfl := Host.Outcome.next.inj he
    exact haccept _ _ _
  | resetHold5s =>
    obtain rfl := Host.Outcome.next.inj he
    exact holds_ite (P := StaysReset s) ⟨hr, rfl⟩ hself
  | alarmChange active =>
    obtain rfl := Host.Outcome.next.inj he
    exact holds_ite (P := StaysReset s) hself
      (hsettled (staysReset_outside (t := s.withPanel { s.panel with alarm := takeLevel active }) ⟨hr, rfl⟩))
  | panelResetPulse =>
    obtain rfl := Host.Outcome.next.inj he
    exact holds_ite (P := StaysReset s) hself (staysReset_outside
      (t := s.withPanel { s.panel with panelReset := takePulse s.panel.panelReset }) ⟨hr, rfl⟩)
  | ackPulse together =>
    obtain rfl := Host.Outcome.next.inj he
    exact holds_ite (P := StaysReset s) hself
      (staysReset_outside (t := s.withPanel { s.panel with ack := takePulse s.panel.ack }) ⟨hr, rfl⟩)
  | pulseLineReturnInactive line =>
    obtain rfl := Host.Outcome.next.inj he
    cases line <;> exact ⟨hr, rfl⟩
  | provingSwitchChange d made =>
    obtain rfl := Host.Outcome.next.inj he
    exact holds_ite (P := StaysReset s) hself (staysReset_outside (t := storeInput d .a made s) ⟨hr, rfl⟩)
  | limitChange d i made =>
    obtain rfl := Host.Outcome.next.inj he
    exact holds_ite (P := StaysReset s) hself (staysReset_outside (t := storeInput d i made s) ⟨hr, rfl⟩)
  | _ =>
    obtain rfl := Host.Outcome.next.inj he
    exact staysReset_outside hself

/-! ### One millisecond -/

theorem seqCond_tickSeq (d : ChannelNo) (k : ChannelKind) (u : Supply) (q : Sequencer) :
    seqCond d (tickSeq k u q) = seqCond d q := by
  rcases q with _ | ⟨st, t⟩ | ⟨st, p, r⟩
  · rfl
  · cases st <;> rfl
  · rcases st with _ | _ | _ | _ | _ | _ | _ | _ | cause | _
    case failedOff => cases cause <;> rfl
    all_goals rfl

theorem tickSequencers_same (s : State) : SameConditions s (tickSequencers s) :=
  foldl_preserves _ (SameConditions s) _ (fun _ d h => h.trans (setCh_same (seqCond_tickSeq d _ _ _))) allChannels ⟨rfl, rfl⟩

theorem tickPeers_same (s : State) :
    SameConditions s (s.withPeers { s.peers with entries := mapVec Peer.tick s.peers.entries }) where
  causes := by
    generalize ht : s.withPeers { s.peers with entries := mapVec Peer.tick s.peers.entries } = t
    have hpresence : (causes t).presence = (causes s).presence := by
      subst ht
      funext z
      simp only [causes, State.peer, State.withPeers_peers]
      split
      · rw [mapVec_getElem]; rfl
      · rfl
    calc causes t = { causes s with presence := (causes t).presence } := by subst ht; rfl
      _ = causes s := by rw [hpresence]
  active := rfl

theorem tickTimers_same (s : State) : SameConditions s (tickTimers s) := by
  unfold tickTimers
  dsimp only
  refine SameConditions.trans (SameConditions.trans ?_ (tickPeers_same _)) (tickSequencers_same _)
  exact ⟨rfl, rfl⟩

theorem tickLines_same (s : State) : SameConditions s (tickLines s) where
  causes := by
    have hseq : (causes (tickLines s)).seq = (causes s).seq := by
      funext d
      exact congrArg (fun x => seqCond d x.seq) (ch_mapVec _ _ d)
    calc causes (tickLines s) = { causes s with seq := (causes (tickLines s)).seq } := rfl
      _ = causes s := by rw [hseq]
  active := rfl

/-- No condition's cause is a timer or an interval. -/
theorem passMs_same (s : State) : SameConditions s (passMs s) := by
  have htimers : SameConditions s (s.outside tickTimers) := holds_outside (P := SameConditions s) ⟨rfl, rfl⟩ (tickTimers_same s)
  exact (htimers.trans (tickLines_same _)).trans ⟨rfl, rfl⟩

theorem passMs_held (s : State) : (passMs s).inReset = s.inReset := by
  have hline (x : ResetLine) : x.tick.held = x.held := by
    unfold ResetLine.tick
    split <;> rfl
  change (s.outside tickTimers).panel.reset.tick.held = s.inReset
  rw [hline]
  exact holds_outside (P := fun u => u.inReset = s.inReset) rfl
    (OwnKept.of_lessSequencing (tickSequencers_lessSequencing _)).held

theorem passMs_declare (s : State) : (passMs s).link.queue.fireDeclare = s.link.queue.fireDeclare := by
  change (s.outside tickTimers).link.queue.fireDeclare = _
  refine holds_outside (P := fun u => u.link.queue.fireDeclare = s.link.queue.fireDeclare) rfl ?_
  exact (OwnKept.of_lessSequencing (tickSequencers_lessSequencing _)).declare

theorem passMs_conditionLaw (h : ConditionLaw s) : ConditionLaw (passMs s) := by
  rw [conditionLaw_iff] at h ⊢
  obtain ⟨hin, hout, hlatch⟩ := h
  obtain ⟨hmode, -, hreg⟩ := passMs_register s
  have hsame := passMs_same s
  rw [passMs_held, hmode, hsame.active]
  refine ⟨hin, fun hr c hq => (hout hr c hq).same hsame, fun hm => ?_⟩
  rw [hreg]
  split
  · exact hlatch hm
  · exact hlatch hm

theorem passMs_declarationLaw (h : DeclarationLaw s) : DeclarationLaw (passMs s) := by
  obtain ⟨hmode, -, hreg⟩ := passMs_register s
  have howed : (passMs s).reg.owed = s.reg.owed := by
    rw [hreg]
    split <;> rfl
  unfold DeclarationLaw
  rw [passMs_held, hmode, howed, passMs_declare]
  exact h

/-! ### Resets -/

/-- What a command does in reset: a release, or the node stays in reset. -/
theorem exec_inReset {i : Instr} (hr : s.inReset = true) (he : exec i s = .next t) :
    StaysReset s t ∨ (∃ p, t = coldReset p s) ∨ t = settleRaises s (warmReset s) := by
  cases hi : resets i with
  | false => exact .inl (exec_staysReset hr (.inl hi) he)
  | true =>
    cases i with
    | powerUp p => exact .inr (.inl ⟨p, (Host.Outcome.next.inj he).symm⟩)
    | coldReset p => exact .inr (.inl ⟨p, (Host.Outcome.next.inj he).symm⟩)
    | warmReset =>
      obtain rfl := Host.Outcome.next.inj he
      split
      · exact .inr (.inr rfl)
      · exact .inl ⟨hr, rfl⟩
    | resetHeld => exact .inl (exec_staysReset hr (.inr (.inl rfl)) he)
    | resetHold5s => exact .inl (exec_staysReset hr (.inr (.inr rfl)) he)
    | _ => cases hi

/-- What the commands of RESET and of power do outside reset: RESET_HELD enters it, a cold reset resets, the others wait for
a held line. -/
theorem exec_resets_outside {i : Instr} (hr : s.inReset = false) (hi : resets i = true) (he : exec i s = .next t) :
    (t.inReset = true ∧ t.trouble.active = []) ∨ (∃ p, t = coldReset p s) ∨ t = s := by
  cases i with
  | powerUp p => exact .inr (.inl ⟨p, (Host.Outcome.next.inj he).symm⟩)
  | coldReset p => exact .inr (.inl ⟨p, (Host.Outcome.next.inj he).symm⟩)
  | warmReset =>
    obtain rfl := Host.Outcome.next.inj he
    exact .inr (.inr (if_neg (by simp [hr])))
  | resetHeld =>
    obtain rfl := Host.Outcome.next.inj he
    rw [outside_of_not_inReset hr]
    exact .inl ⟨rfl, rfl⟩
  | resetHold5s =>
    obtain rfl := Host.Outcome.next.inj he
    exact .inr (.inr (if_neg (by simp [hr])))
  | _ => cases hi

/-- After a warm-reset release the node is not in reset. -/
theorem warmReset_held (s : State) : (warmReset s).inReset = false := by
  rw [← Bool.not_eq_true]
  exact fun h => Bool.false_ne_true ((warmReset_run (releaseReset s)).held h)

theorem coldReset_held (p : StrapPins) (s : State) : (coldReset p s).inReset = false :=
  (sampleStraps_keeps (coldState p s) p).2

/-- Outside reset the law is that of every condition and of the latches. -/
theorem conditionLaw_outside (hr : t.inReset = false) (hl : LatchLaw t) (h : ∀ c, QualifierLaw c → InStep c t) :
    ConditionLaw t :=
  conditionLaw_iff.2 ⟨fun k => absurd k (by simp [hr]), fun _ => h, hl⟩

/-- In reset it is that of an empty set and of the latches (R162). -/
theorem conditionLaw_inReset (hr : t.inReset = true) (hl : LatchLaw t) (h : t.trouble.active = []) : ConditionLaw t :=
  conditionLaw_iff.2 ⟨fun _ => h, fun k => absurd hr (by simp [k]), hl⟩

theorem declarationLaw_inReset (hr : t.inReset = true) : DeclarationLaw t := fun k => absurd hr (by simp [k])

theorem coldReset_conditionLaw (p : StrapPins) (s : State) (hl : LatchLaw (coldReset p s)) :
    ConditionLaw (coldReset p s) :=
  conditionLaw_outside (coldReset_held p s) hl fun _ hq => coldReset_inStep hq p s

/-! ### Every step -/

theorem exec_conditionLaw {i : Instr} (hmode : ModeLaw s) (hreg : RegisterLaw s) (hch : ChannelsLaw s) (hlink : LinkLaw s)
    (hme : MeasureLaw s) (hco : ContainLaw s) (hpe : PeerLaw s) (h : ConditionLaw s) (he : exec i s = .next t) :
    ConditionLaw t := by
  obtain ⟨hin, hout, hlatch⟩ := conditionLaw_iff.1 h
  have hlatch' : LatchLaw t := exec_latches hmode hreg hlatch he
  have hblank (ha : s.ctl.mode.applies = false) : (causes s).Blank := blank_of_laws ha hch hme hco hpe (hlatch ha)
  cases hr : s.inReset with
  | true =>
    obtain ⟨-, -, -, -, -, -, -, -, -, -, hidle⟩ := hlink
    have hx : s.link.txFail = false := by rw [hidle hr]; rfl
    rcases exec_inReset hr he with hs | ⟨p, rfl⟩ | rfl
    · exact conditionLaw_inReset hs.held hlatch' (hs.active.trans (hin hr))
    · exact coldReset_conditionLaw p s hlatch'
    · refine conditionLaw_outside ?_ hlatch' fun c hq => (warmReset_inStep hq (hin hr) hx hblank).settled
      rw [(settleRaises_ownKept s _).held, warmReset_held]
  | false =>
    cases hi : resets i with
    | true =>
      rcases exec_resets_outside hr hi he with ⟨hheld, hnil⟩ | ⟨p, rfl⟩ | rfl
      · exact conditionLaw_inReset hheld hlatch' hnil
      · exact coldReset_conditionLaw p s hlatch'
      · exact h
    | false =>
      have hrun := exec_run (by rintro rfl; cases hi) hmode hreg he
      have hheld : t.inReset = false := Bool.eq_false_iff.2 fun k => by rw [hrun.held k] at hr; cases hr
      exact conditionLaw_outside hheld hlatch' fun c hq =>
        exec_inStep hq hi (fun hm => hblank (by rw [hm]; rfl)) (hout hr c hq) he

theorem exec_declarationLaw {i : Instr} (hreg : RegisterLaw s) (hlink : LinkLaw s) (h : DeclarationLaw s)
    (he : exec i s = .next t) : DeclarationLaw t := by
  obtain ⟨hattempt, -, -, hqueue, -, -, -, -, -, -, hidle⟩ := hlink
  cases hr : s.inReset with
  | true =>
    have hnone : s.link.queue.fireDeclare = false := by rw [hidle hr]; rfl
    rcases exec_inReset hr he with hs | ⟨p, rfl⟩ | rfl
    · exact declarationLaw_inReset hs.held
    · exact declarationLaw_of_declared (coldReset_declared p s)
    · have k := settleRaises_ownKept s (warmReset s)
      unfold DeclarationLaw
      rw [k.held, k.ctl, k.reg, k.declare]
      exact warmReset_declared hnone
  | false =>
    cases hi : resets i with
    | true =>
      rcases exec_resets_outside hr hi he with ⟨hheld, -⟩ | ⟨p, rfl⟩ | rfl
      · exact declarationLaw_inReset hheld
      · exact declarationLaw_of_declared (coldReset_declared p s)
      · exact h
    | false => exact declarationLaw_of_declared (exec_declared hi hattempt hreg (declared_of_laws hr hqueue h) he)

end Sys2Proof.Machine

open Sys2Proof Sys2Proof.Machine in
/-- Settles O29: outside reset every command keeps each condition in step with its cause and an owed declaration queued, a
release raises anew from an empty set, and a millisecond moves no cause. -/
theorem stepKeepsConditionsAndDeclaration : Obligations.StepKeepsConditionsAndDeclaration := by
  intro s t hmode hreg _ hch hlink hme hco hpe _ hstep
  rcases step_cases hstep with ⟨i, rest, hexec⟩ | rfl
  · exact ⟨fun h => exec_conditionLaw (s := s.withPending rest) hmode hreg hch hlink hme hco hpe h hexec,
      fun h => exec_declarationLaw (s := s.withPending rest) hreg hlink h hexec⟩
  · exact ⟨passMs_conditionLaw, passMs_declarationLaw⟩
end

section
/-! Where the Role Resolver stands after a recompute: every value it holds is the one its inputs give (R27 to R41). -/

namespace Sys2Proof.Machine

variable {s t u : State}

/-! ### The resolver's inputs, and what it makes of them -/

/-- What the Role Resolver reads, Measurement Unit and panel are as they were. -/
structure InputsKept (s t : State) : Prop where
  override : t.role.override = s.role.override
  reg      : t.reg = s.reg
  peers    : t.peers = s.peers
  straps   : t.ctl.straps = s.ctl.straps
  config   : t.ctl.config = s.ctl.config
  meas     : t.meas = s.meas
  panel    : t.panel = s.panel

namespace InputsKept

theorem trans (h : InputsKept s t) (k : InputsKept t u) : InputsKept s u :=
  ⟨k.override.trans h.override, k.reg.trans h.reg, k.peers.trans h.peers, k.straps.trans h.straps,
    k.config.trans h.config, k.meas.trans h.meas, k.panel.trans h.panel⟩

theorem of_lessRoles (h : t.lessRoles = s.lessRoles) : InputsKept s t := by
  obtain ⟨ctl, reg, override, meas, peers, panel, -⟩ := lessRoles_eq h
  exact ⟨override, reg, peers, by rw [ctl], by rw [ctl], meas, panel⟩

theorem of_lessSequencing (h : t.lessSequencing = s.lessSequencing) : InputsKept s t :=
  of_lessRoles (lessRoles_of_lessSequencing h)

theorem of_lessReports (h : t.lessReports = s.lessReports) : InputsKept s t :=
  of_lessSequencing (lessSequencing_of_lessReports h)

theorem station (h : InputsKept s t) : t.station = s.station := by unfold State.station; rw [h.straps]

theorem cfg (h : InputsKept s t) : t.cfg = s.cfg := by unfold State.cfg; rw [h.config]

theorem deriveRole (h : InputsKept s t) : deriveRole t = deriveRole s := by
  unfold Machine.deriveRole
  rw [h.override, h.reg, h.station, h.cfg]

theorem deriveAssist (h : InputsKept s t) (r : ZoneRole) : deriveAssist r t = deriveAssist r s := by
  unfold Machine.deriveAssist State.peer
  rw [h.cfg, h.reg, h.peers]

theorem deriveFireMode (h : InputsKept s t) : deriveFireMode t = deriveFireMode s := by
  unfold Machine.deriveFireMode
  rw [h.reg, h.override]

end InputsKept

/-- The resolver's inputs, its own values and every target are as they were. -/
structure ResolverKept (s t : State) : Prop extends InputsKept s t where
  role   : t.role = s.role
  target : ∀ c : ChannelNo, (t.ch c).target = (s.ch c).target

namespace ResolverKept

theorem trans (h : ResolverKept s t) (k : ResolverKept t u) : ResolverKept s u :=
  ⟨h.toInputsKept.trans k.toInputsKept, k.role.trans h.role, fun c => (k.target c).trans (h.target c)⟩

theorem of_lessSequencing (h : t.lessSequencing = s.lessSequencing) : ResolverKept s t := by
  obtain ⟨-, -, role, -⟩ := lessSequencing_eq h
  exact ⟨.of_lessSequencing h, role, fun c => (lessSequencing_eq_ch h c).1⟩

theorem of_lessReports (h : t.lessReports = s.lessReports) : ResolverKept s t :=
  of_lessSequencing (lessSequencing_of_lessReports h)

end ResolverKept

/-- Role, assist flag, FIRE-MODE and every target are what the node gives as it stands. -/
structure Resolved (s : State) : Prop where
  role     : s.role.role = deriveRole s
  assist   : s.role.assist = deriveAssist s.role.role s
  fireMode : s.role.fireMode = deriveFireMode s
  target   : ∀ c : ChannelNo, (s.ch c).target = newTarget s c

/-- HOLD reads the previous target alone, so an entry resolved a second time gives the same (R29, R37). -/
theorem resolveEntry_idem (e : Entry) (r : ZoneRole) (b : Bool) (x : Target) :
    resolveEntry e r b (resolveEntry e r b x) = resolveEntry e r b x := by cases e <;> rfl

/-- A target is a matter of role, assist flag, configuration and the previous target. -/
theorem newTarget_congr {c : ChannelNo} (hrole : t.role = s.role) (hconfig : t.ctl.config = s.ctl.config)
    (htarget : (t.ch c).target = (s.ch c).target) : newTarget t c = newTarget s c := by
  unfold newTarget State.chCfg State.cfg
  rw [hrole, hconfig, htarget]

/-- A channel that has been given its new target keeps it at the next recompute. -/
theorem newTarget_settled {c : ChannelNo} (hrole : t.role = s.role) (hconfig : t.ctl.config = s.ctl.config)
    (htarget : (t.ch c).target = newTarget s c) : newTarget t c = newTarget s c := by
  have hcfg : t.chCfg c = s.chCfg c := by unfold State.chCfg State.cfg; rw [hconfig]
  unfold newTarget at htarget ⊢
  dsimp only at htarget ⊢
  rw [hcfg, hrole, htarget]
  split
  · rfl
  · exact resolveEntry_idem ..

theorem Resolved.kept (h : Resolved s) (k : ResolverKept s t) : Resolved t where
  role := by rw [k.role, k.deriveRole, h.role]
  assist := by rw [k.role, k.deriveAssist, ← h.assist]
  fireMode := by rw [k.role, k.deriveFireMode, h.fireMode]
  target c := by rw [k.target, newTarget_congr k.role k.config (k.target c), h.target]

/-! ### The targets of a recompute (R40) -/

theorem replaceTarget_target (c d : ChannelNo) (x : Target) (s : State) :
    ((replaceTarget c x s).ch d).target = if c = d then x else (s.ch d).target := by
  unfold replaceTarget
  rw [State.ch_setCh]
  split <;> rfl

theorem newTarget_replaceTarget (c d : ChannelNo) (s : State) :
    newTarget (replaceTarget c (newTarget s c) s) d = newTarget s d := by
  by_cases h : c = d
  · subst h
    exact newTarget_settled rfl rfl (by rw [replaceTarget_target, if_pos rfl])
  · exact newTarget_congr rfl rfl (by rw [replaceTarget_target, if_neg h])

/-- The channels of a list take their new targets, the others keep theirs. -/
theorem foldl_replaceTarget_target (l : List ChannelNo) (d : ChannelNo) (s : State) :
    ((l.foldl (fun s c => replaceTarget c (newTarget s c) s) s).ch d).target
      = if d ∈ l then newTarget s d else (s.ch d).target := by
  induction l generalizing s with
  | nil => simp
  | cons c l ih =>
    rw [List.foldl_cons, ih, newTarget_replaceTarget, replaceTarget_target]
    by_cases hl : d ∈ l
    · simp [hl]
    · by_cases hc : c = d
      · simp [hc]
      · simp [hl, hc, Ne.symm hc]

/-- The state whose role, assist flag and FIRE-MODE a recompute has written, and none of its targets. -/
def derived (s : State) : State :=
  s.withRole { s.role with
    role := deriveRole s, assist := deriveAssist (deriveRole s) s, fireMode := deriveFireMode s }

/-- The state with the targets of the channels that get a new one replaced. -/
def retargeted (s : State) : State :=
  (allChannels.filter (fun c => decide (newTarget s c ≠ (s.ch c).target))).foldl
    (fun s c => replaceTarget c (newTarget s c) s) s

theorem retargeted_target (s : State) (d : ChannelNo) : ((retargeted s).ch d).target = newTarget s d := by
  unfold retargeted
  rw [foldl_replaceTarget_target]
  by_cases h : newTarget s d = (s.ch d).target <;> simp [h, mem_allChannels]

/-- What follows the replacement of the targets moves none (R30, R40). -/
theorem recompute_target (h : s.ctl.mode.applies = true) (d : ChannelNo) :
    ((recompute s).ch d).target = newTarget (derived s) d := by
  rw [← retargeted_target]
  unfold recompute
  rw [if_pos h]
  dsimp only
  rw [(lessSequencing_eq_ch (startTests_lessSequencing _) d).1,
    foldl_keeps _ (fun s => (s.ch d).target) _ fun s c => (lessSequencing_eq_ch (fanNotice_lessSequencing s _ _ c) d).1,
    foldl_keeps _ (fun s => (s.ch d).target) _ fun s c => (lessSequencing_eq_ch (damperTarget_lessSequencing s c) d).1]
  split
  · obtain ⟨-, hchans, -⟩ := containRole_keeps (statusNotice (retargeted (derived s))) s.role.role (deriveRole s)
    obtain ⟨-, -, -, hnotice, -⟩ := lessReports_eq (statusNotice_lessReports (retargeted (derived s)))
    exact congrArg (fun v : Vector Channel 12 => v[d.val].target) (hchans.trans hnotice)
  · rfl

/-- A recompute resolves the node (R27 to R29, R38, R40, R41). -/
theorem recompute_resolved (h : s.ctl.mode.applies = true) : Resolved (recompute s) := by
  have hkept : InputsKept s (recompute s) := .of_lessRoles (recompute_lessRoles s)
  have hrole : (recompute s).role = (derived s).role := recompute_role s h
  exact {
    role := by rw [hkept.deriveRole, hrole]; rfl
    assist := by rw [hkept.deriveAssist, hrole]; rfl
    fireMode := by rw [hkept.deriveFireMode, hrole]; rfl
    target := fun c => by
      have htarget := recompute_target h c
      rw [newTarget_settled hrole hkept.config htarget, htarget] }

end Sys2Proof.Machine
end

section
/-! A STATUS that is queued, or marked pending, stays so through a recompute (R119, R121); the start tests report nothing. -/

namespace Sys2Proof.Machine

variable {s t : State}

/-- A STATUS is queued, or one on the wire is to be followed by another (R119). -/
def StatusOwed (s : State) : Prop := s.link.queue.status = true ∨ s.status.earlyPending = true

/-- The composer, and the place of STATUS in the queue, are as they were. -/
structure ReportKept (s t : State) : Prop where
  queued   : t.link.queue.status = s.link.queue.status
  composer : t.status = s.status

theorem ReportKept.trans {u : State} (h : ReportKept s t) (k : ReportKept t u) : ReportKept s u :=
  ⟨k.queued.trans h.queued, k.composer.trans h.composer⟩

theorem StatusOwed.kept (h : StatusOwed s) (k : ReportKept s t) : StatusOwed t := by
  unfold StatusOwed
  rw [k.queued, k.composer]
  exact h

/-! ### Conditions -/

theorem statusNotice_owed (h : StatusOwed s) : StatusOwed (statusNotice s) :=
  holds_ite (P := StatusOwed) (queueStatus_queues s) h

theorem raise_owed (c : Cond) (h : StatusOwed s) : StatusOwed (raise c s) :=
  holds_ite (P := StatusOwed) h
    (holds_ite (P := StatusOwed) (statusNotice_owed (h.kept ⟨rfl, rfl⟩)) (h.kept ⟨rfl, rfl⟩))

theorem endCond_owed (c : Cond) (h : StatusOwed s) : StatusOwed (endCond c s) :=
  holds_ite (P := StatusOwed) (h.kept ⟨rfl, rfl⟩) (h.kept ⟨rfl, rfl⟩)

theorem swapCond_owed (old new : Option Cond) (h : StatusOwed s) : StatusOwed (swapCond old new s) := by
  have hend : StatusOwed (endOpt old s) := by
    cases old with
    | none => exact h
    | some c => exact endCond_owed c h
  refine holds_ite (P := StatusOwed) h ?_
  cases new with
  | none => exact hend
  | some c => exact raise_owed c hend

/-! ### Sequencers -/

theorem setSeq_owed (c : ChannelNo) (q : Sequencer) (h : StatusOwed s) : StatusOwed (setSeq c q s) :=
  swapCond_owed _ _ (h.kept ⟨rfl, rfl⟩)

theorem enterStopped_owed (c : ChannelNo) (h : StatusOwed s) : StatusOwed (enterStopped c s) := by
  unfold enterStopped
  split <;> exact setSeq_owed c _ h

theorem enterStopping_owed (c : ChannelNo) (h : StatusOwed s) : StatusOwed (enterStopping c s) :=
  holds_ite (P := StatusOwed) (enterStopped_owed c h) (setSeq_owed c _ h)

theorem fanTarget_owed (c : ChannelNo) (h : StatusOwed s) : StatusOwed (fanTarget c s) := by
  unfold fanTarget
  split
  case h_5 | h_6 | h_7 | h_8 => exact enterStopping_owed c h
  case h_10 => exact h
  all_goals exact enterStopped_owed c h

theorem fanRole_owed (c : ChannelNo) (h : StatusOwed s) : StatusOwed (fanRole c s) := by
  unfold fanRole
  split
  · exact holds_ite (P := StatusOwed) h (setSeq_owed c _ h)
  · exact holds_ite (P := StatusOwed) h (setSeq_owed c _ h)
  · exact enterStopped_owed c h
  · exact h

theorem fanNotice_owed (a b : Bool) (c : ChannelNo) (h : StatusOwed s) : StatusOwed (fanNotice a b c s) := by
  have htarget : StatusOwed (if a then fanTarget c s else s) := holds_ite (P := StatusOwed) (fanTarget_owed c h) h
  exact holds_ite (P := StatusOwed) (fanRole_owed c htarget) htarget

theorem interlockEvent_owed (d c : ChannelNo) (h : StatusOwed s) : StatusOwed (interlockEvent d s c) := by
  refine holds_ite (P := StatusOwed) ?_ h
  split
  · exact setSeq_owed c _ h
  · exact setSeq_owed c _ h
  · exact holds_ite (P := StatusOwed) (setSeq_owed c _ h) h
  · exact h

theorem setTravel_owed (c : ChannelNo) (q : Sequencer) (h : StatusOwed s) : StatusOwed (setTravel c q s) :=
  holds_ite (P := StatusOwed) (foldl_preserves _ StatusOwed _ (fun _ e => interlockEvent_owed c e) _ (setSeq_owed c q h))
    (setSeq_owed c q h)

theorem damperTarget_owed (c : ChannelNo) (h : StatusOwed s) : StatusOwed (damperTarget c s) := by
  unfold damperTarget
  split
  · exact holds_ite (P := StatusOwed) h (setTravel_owed c _ h)
  · exact setTravel_owed c _ h
  · exact h

/-! ### The start tests -/

theorem withdrawClaim_reportKept (s : State) : ReportKept s (withdrawClaim s) := by
  unfold withdrawClaim
  split <;> exact ⟨rfl, rfl⟩

/-- A move between states with the same condition is not reported (R58, R85). -/
theorem setSeq_reportKept {c : ChannelNo} {q : Sequencer} (h : seqCond c (s.ch c).seq = seqCond c q) :
    ReportKept s (setSeq c q s) := by
  unfold setSeq swapCond
  dsimp only
  rw [if_pos h]
  exact ⟨rfl, rfl⟩

/-- A fan that leaves AWAITING-SLOT for a started state has no condition before or after, so nothing is reported (R85). -/
theorem enterStarting_reportKept {c : ChannelNo} (h : waitsForSlot s c = true) : ReportKept s (enterStarting c s) := by
  have hcond : seqCond c (s.ch c).seq = none := by
    unfold waitsForSlot at h
    split at h
    · next hseq => rw [hseq]; rfl
    · cases h
  unfold enterStarting
  split <;> exact setSeq_reportKept hcond

theorem isolatedTest_reportKept (s : State) : ReportKept s (isolatedTest s) := by
  unfold isolatedTest
  split
  · exact ⟨rfl, rfl⟩
  · next c hc =>
    have hwaits : waitsForSlot s c = true := List.find?_some hc
    have hstart := (enterStarting_reportKept hwaits).trans (withdrawClaim_reportKept _)
    split
    · exact hstart.trans ⟨rfl, rfl⟩
    · exact ⟨rfl, rfl⟩

theorem startTests_reportKept (s : State) : ReportKept s (startTests s) := by
  have hwithdraw : ReportKept s (withdrawTest s) := by
    unfold withdrawTest
    split
    · exact withdrawClaim_reportKept s
    · exact ⟨rfl, rfl⟩
  have hclaim (u : State) : ReportKept u (claimTest u) := by
    unfold claimTest
    split <;> exact ⟨rfl, rfl⟩
  exact (hwithdraw.trans (hclaim _)).trans (isolatedTest_reportKept _)

/-! ### Containment and the recompute -/

theorem setContain_owed (st : ContainState) (g : Option Nat) (h : StatusOwed s) : StatusOwed (setContain st g s) :=
  holds_ite (P := StatusOwed) (h.kept ⟨rfl, rfl⟩) (swapCond_owed _ _ (statusNotice_owed (h.kept ⟨rfl, rfl⟩)))

theorem containRole_owed (a b : ZoneRole) (h : StatusOwed s) : StatusOwed (containRole a b s) := by
  have hderive : StatusOwed (deriveContain s) :=
    holds_ite (P := StatusOwed) (setContain_owed _ _ h)
      (holds_ite (P := StatusOwed) (setContain_owed _ _ h) (setContain_owed _ _ h))
  exact holds_ite (P := StatusOwed) (holds_ite (P := StatusOwed) h hderive) (setContain_owed _ _ h)

/-- No recompute takes back a STATUS that is owed. -/
theorem recompute_owed (h : StatusOwed s) : StatusOwed (recompute s) := by
  have hretarget : StatusOwed (retargeted (derived s)) :=
    foldl_preserves (derived s) StatusOwed (fun s c => replaceTarget c (newTarget s c) s)
      (fun _ _ k => k.kept ⟨rfl, rfl⟩) _ (h.kept ⟨rfl, rfl⟩)
  refine holds_ite (P := StatusOwed) (StatusOwed.kept ?_ (startTests_reportKept _)) h
  refine foldl_preserves _ StatusOwed _ (fun _ c => fanNotice_owed _ _ c) _ ?_
  refine foldl_preserves _ StatusOwed _ (fun _ c => damperTarget_owed c) _ ?_
  exact holds_ite (P := StatusOwed) (containRole_owed _ _ (statusNotice_owed hretarget)) hretarget

end Sys2Proof.Machine
end

section
/-! An accepted OVERRIDE (R32, R33), the conflict detector that follows it (R136, R171), and O36. -/

namespace Sys2Proof.Machine

variable {s t : State}

/-! ### The link's part and the reports -/

/-- The link's part of another station's frame moves nothing that the resolver reads or holds. -/
theorem otherFrameIn_resolverKept (s : State) : ResolverKept s (otherFrameIn s) := by
  have hend (l : Line) (n : Nat) : ResolverKept s (endAttempt l n s) := by
    refine ResolverKept.trans ?_ (.of_lessSequencing (claimRequeued_lessSequencing _))
    cases s.onWire .status <;> exact ⟨⟨rfl, rfl, rfl, rfl, rfl, rfl, rfl⟩, rfl, fun _ => rfl⟩
  have hline : ResolverKept s (if s.link.attempt.isSome then endAttempt .closed 0 s else s.setLine .closed) :=
    holds_ite (P := ResolverKept s) (hend _ _) ⟨⟨rfl, rfl, rfl, rfl, rfl, rfl, rfl⟩, rfl, fun _ => rfl⟩
  exact hline.trans ⟨⟨rfl, rfl, rfl, rfl, rfl, rfl, rfl⟩, rfl, fun _ => rfl⟩

/-- An attempt it ends stays queued (R149). -/
theorem otherFrameIn_queued (s : State) : (otherFrameIn s).link.queue.status = s.link.queue.status := by
  have hrequeued (u : State) : (claimRequeued u).link.queue.status = u.link.queue.status := by
    unfold claimRequeued
    split <;> rfl
  unfold otherFrameIn
  cases s.link.attempt.isSome
  · rfl
  · refine (hrequeued _).trans ?_
    cases s.onWire .status <;> rfl

/-- Only the end of a STATUS attempt is told to the composer (R119). -/
theorem otherFrameIn_composer (h : s.onWire .status = false) : (otherFrameIn s).status = s.status := by
  have hrequeued (u : State) : (claimRequeued u).status = u.status := by
    unfold claimRequeued
    split <;> rfl
  unfold otherFrameIn
  cases s.link.attempt.isSome
  · rfl
  · refine (hrequeued _).trans ?_
    rw [h]
    rfl

theorem settleRaises_reportKept (s t : State) : ReportKept t (settleRaises s t) := by
  unfold settleRaises
  split
  · dsimp only
    split <;> exact ⟨rfl, rfl⟩
  · exact ⟨rfl, rfl⟩

/-- What closes an accepted frame, the start tests and the choice of the first raise, moves nothing of the resolver and
reports nothing. -/
theorem frameClosed_resolverKept (s t : State) : ResolverKept t (settleRaises s (startTests t)) :=
  (ResolverKept.of_lessSequencing (startTests_lessSequencing t)).trans (.of_lessReports (settleRaises_lessReports s _))

theorem frameClosed_reportKept (s t : State) : ReportKept t (settleRaises s (startTests t)) :=
  (startTests_reportKept t).trans (settleRaises_reportKept s _)

theorem frameClosed_ctl (s t : State) : (settleRaises s (startTests t)).ctl = t.ctl :=
  ((startTests_ownKept t).trans (settleRaises_ownKept s _)).ctl

/-! ### Conflict evidence (R136, R171) -/

theorem enterMute_inputsKept (o : Origin) (s : State) : InputsKept s (enterMute o s) := by
  unfold enterMute
  dsimp only
  refine .trans ?_ (.of_lessSequencing (startTests_lessSequencing _))
  refine .trans ?_ (.of_lessRoles (recompute_lessRoles _))
  refine .trans ?_ (.of_lessReports (raise_lessReports _ _))
  exact ⟨rfl, rfl, rfl, rfl, rfl, rfl, rfl⟩

theorem enterMute_resolved (o : Origin) (s : State) : Resolved (enterMute o s) := by
  unfold enterMute
  dsimp only
  refine (recompute_resolved ?_).kept (.of_lessSequencing (startTests_lessSequencing _))
  rw [(lessReports_eq (raise_lessReports _ _)).1]
  rfl

theorem enterMute_ctl (o : Origin) (s : State) : (enterMute o s).ctl
    = { s.ctl with mode := .mute, listenTimer := none, quietTimer := some quietTime, origin := some o } := by
  unfold enterMute
  dsimp only
  rw [(startTests_ownKept _).ctl, (recompute_ownKept _).ctl, (lessReports_eq (raise_lessReports _ _)).1]
  rfl

/-- At the entry to MUTE the condition is in step with the mode, whatever the set held before. -/
theorem enterMute_conflict (o : Origin) (s : State) : InStep (plainCond .stationConflict) (enterMute o s) := by
  have hT := inStep_tracks (c := plainCond .stationConflict) rfl
  exact startTests_tracks hT (recompute_tracks hT (raise_inStep (absurd rfl) fun _ => ⟨rfl, rfl⟩))

/-- Evidence at a station in LISTEN, ACTIVE or MUTE: MUTE is entered, or its quiet timer restarts. -/
theorem evidence_cases (h : s.ctl.mode.applies = true) :
    (∃ o, s.ctl.mode ≠ .mute ∧ evidence s = enterMute o s)
      ∨ (s.ctl.mode = .mute ∧ evidence s = s.withCtl { s.ctl with quietTimer := some quietTime }) := by
  unfold evidence
  cases hm : s.ctl.mode with
  | listen => exact .inl ⟨.listen, by simp, rfl⟩
  | active => exact .inl ⟨.active, by simp, rfl⟩
  | mute => exact .inr ⟨rfl, rfl⟩
  | _ => rw [hm] at h; cases h

theorem evidence_inputsKept (h : s.ctl.mode.applies = true) : InputsKept s (evidence s) := by
  rcases evidence_cases h with ⟨o, -, e⟩ | ⟨-, e⟩
  · rw [e]; exact enterMute_inputsKept o s
  · rw [e]; exact ⟨rfl, rfl, rfl, rfl, rfl, rfl, rfl⟩

theorem evidence_resolved (h : s.ctl.mode.applies = true) (hs : Resolved s) : Resolved (evidence s) := by
  rcases evidence_cases h with ⟨o, -, e⟩ | ⟨-, e⟩
  · rw [e]; exact enterMute_resolved o s
  · rw [e]; exact hs.kept ⟨⟨rfl, rfl, rfl, rfl, rfl, rfl, rfl⟩, rfl, fun _ => rfl⟩

theorem evidence_mute (h : s.ctl.mode.applies = true) :
    (evidence s).ctl.mode = .mute ∧ (evidence s).ctl.quietTimer = some 20000 := by
  rcases evidence_cases h with ⟨o, -, e⟩ | ⟨hm, e⟩
  · rw [e, enterMute_ctl]; exact ⟨rfl, rfl⟩
  · rw [e]; exact ⟨hm, rfl⟩

theorem evidence_conflict (h : s.ctl.mode.applies = true) (hm : s.ctl.mode ≠ .mute) :
    InStep (plainCond .stationConflict) (evidence s) := by
  rcases evidence_cases h with ⟨o, -, e⟩ | ⟨hmute, -⟩
  · rw [e]; exact enterMute_conflict o s
  · exact absurd hmute hm

/-! ### OVERRIDE (R32) -/

/-- The mode codes of R32. -/
theorem overrideMode_table (w : Word) :
    (field w 1 0 = 1 → overrideMode w = .forceExtract) ∧ (field w 1 0 = 2 → overrideMode w = .forceStop)
      ∧ (field w 1 0 = 0 ∨ field w 1 0 = 3 → overrideMode w = .auto) := by
  refine ⟨fun h => by simp [overrideMode, h], fun h => by simp [overrideMode, h], ?_⟩
  rintro (h | h) <;> simp [overrideMode, h]

/-- The override mode by the table of R32, and nothing else changed yet. -/
def overridden (w : Word) (s : State) : State :=
  s.withRole { s.role with
    override := if overrideZone w = s.station ∨ overrideZone w = 0 then overrideMode w else s.role.override }

theorem overridden_idle {w : Word} (h : (overridden w s).role.override = s.role.override) : overridden w s = s :=
  congrArg (fun o => s.withRole { s.role with override := o }) h

/-- A changed mode is noticed to the composer and followed by a recompute; an unchanged one by neither (R32). -/
theorem applyOverride_eq (w : Word) (s : State) :
    applyOverride w s = if (overridden w s).role.override = s.role.override then s
      else recompute (statusNotice (overridden w s)) := by
  unfold applyOverride overridden
  by_cases hz : overrideZone w = s.station ∨ overrideZone w = 0 <;>
    by_cases hm : overrideMode w = s.role.override <;> simp [hz, hm]

theorem applyOverride_inputsKept (w : Word) (s : State) : InputsKept (overridden w s) (applyOverride w s) := by
  rw [applyOverride_eq]
  split
  · next h => rw [overridden_idle h]; exact .of_lessRoles rfl
  · exact (InputsKept.of_lessReports (statusNotice_lessReports _)).trans (.of_lessRoles (recompute_lessRoles _))

theorem overridden_inputsKept (w : Word) (h : InputsKept s t) : InputsKept (overridden w s) (overridden w t) where
  override := by simp only [overridden, State.withRole_role, h.station, h.override]
  reg := h.reg
  peers := h.peers
  straps := h.straps
  config := h.config
  meas := h.meas
  panel := h.panel

/-- What follows a changed mode: the node is resolved, and a sending mode owes a STATUS (R31, R33). -/
theorem applyOverride_changed {w : Word} (h : (overridden w s).role.override ≠ s.role.override)
    (ha : s.ctl.mode.applies = true) :
    Resolved (applyOverride w s) ∧ (s.ctl.mode ≠ .mute → StatusOwed (applyOverride w s)) := by
  have hctl : (statusNotice (overridden w s)).ctl = s.ctl := (lessReports_eq (statusNotice_lessReports _)).1
  rw [applyOverride_eq, if_neg h]
  refine ⟨recompute_resolved (by rw [hctl]; exact ha), fun hm => recompute_owed (statusNotice_queues _ ?_)⟩
  change s.ctl.mode.sends = true
  cases hmode : s.ctl.mode with
  | listen | active | lockout => rfl
  | mute => exact absurd hmode hm
  | start | config => rw [hmode] at ha; cases ha

/-- The node after the blocks have acted on an accepted OVERRIDE, before the conflict detector. -/
def afterOverride (w : Word) (s : State) : State := applyOverride w (otherFrameIn s)

/-- The node after an accepted OVERRIDE. -/
def overrideResult (z : Station) (w : Word) (s : State) : State :=
  settleRaises s (startTests (if z.toNat = s.station then evidence (afterOverride w s) else afterOverride w s))

variable {z : Station} {w : Word}

theorem afterOverride_inputsKept (w : Word) (s : State) : InputsKept (overridden w s) (afterOverride w s) :=
  (overridden_inputsKept w (otherFrameIn_resolverKept s).toInputsKept).trans (applyOverride_inputsKept w _)

theorem afterOverride_ctl (w : Word) (s : State) : (afterOverride w s).ctl = s.ctl :=
  ((otherFrameIn_ownKept s).trans (applyOverride_ownKept _ w)).ctl

theorem afterOverride_applies (h : s.ctl.mode.applies = true) : (afterOverride w s).ctl.mode.applies = true := by
  rw [afterOverride_ctl]; exact h

theorem exec_overrideAccepted (hh : s.hears = true) (ha : s.ctl.mode.applies = true) :
    exec (.overrideAccepted z w) s = .next (overrideResult z w s) := by
  have happlies : (otherFrameIn s).ctl.mode.applies = true := by rw [(otherFrameIn_ownKept s).ctl]; exact ha
  have hstation : (afterOverride w s).station = s.station := (afterOverride_inputsKept w s).station
  change execOverrideAccepted z w s = _
  unfold execOverrideAccepted acceptFrame
  rw [State.accepts_eq, if_pos hh]
  simp only [whenApplied, if_neg Bool.false_ne_true, if_pos happlies, detectConflict, overrideResult, ← hstation,
    Bool.not_false, Bool.true_and, decide_eq_true_eq]
  rfl

theorem overrideResult_inputsKept (ha : s.ctl.mode.applies = true) :
    InputsKept (overridden w s) (overrideResult z w s) := by
  refine .trans ?_ (frameClosed_resolverKept s _).toInputsKept
  refine holds_ite (P := InputsKept (overridden w s)) ?_ (afterOverride_inputsKept w s)
  exact (afterOverride_inputsKept w s).trans (evidence_inputsKept (afterOverride_applies ha))

/-- The link's part decides nothing of the table of R32. -/
theorem overridden_otherFrameIn_ne (h : (overridden w s).role.override ≠ s.role.override) :
    (overridden w (otherFrameIn s)).role.override ≠ (otherFrameIn s).role.override := by
  have hkept := (otherFrameIn_resolverKept s).toInputsKept
  rw [(overridden_inputsKept w hkept).override, hkept.override]
  exact h

theorem overrideResult_resolved (ha : s.ctl.mode.applies = true)
    (h : (overridden w s).role.override ≠ s.role.override) : Resolved (overrideResult z w s) := by
  have hctl : (otherFrameIn s).ctl = s.ctl := (otherFrameIn_ownKept s).ctl
  obtain ⟨hresolved, -⟩ := applyOverride_changed (overridden_otherFrameIn_ne h) (by rw [hctl]; exact ha)
  refine Resolved.kept ?_ (frameClosed_resolverKept s _)
  exact holds_ite (P := Resolved) (evidence_resolved (afterOverride_applies ha) hresolved) hresolved

theorem overrideResult_owed (ha : s.ctl.mode.applies = true) (h : (overridden w s).role.override ≠ s.role.override)
    (hz : z.toNat ≠ s.station) (hm : s.ctl.mode ≠ .mute) : StatusOwed (overrideResult z w s) := by
  have hctl : (otherFrameIn s).ctl = s.ctl := (otherFrameIn_ownKept s).ctl
  obtain ⟨-, howed⟩ := applyOverride_changed (overridden_otherFrameIn_ne h) (by rw [hctl]; exact ha)
  unfold overrideResult
  rw [if_neg hz]
  exact (howed (by rw [hctl]; exact hm)).kept (frameClosed_reportKept s _)

/-- With the mode unchanged and no conflict evidence, acceptance is the link's part and the start tests alone. -/
theorem overrideResult_idle (h : (overridden w s).role.override = s.role.override) (hz : z.toNat ≠ s.station) :
    overrideResult z w s = settleRaises s (startTests (otherFrameIn s)) := by
  have hkept := (otherFrameIn_resolverKept s).toInputsKept
  unfold overrideResult afterOverride
  rw [if_neg hz, applyOverride_eq, if_pos]
  rw [(overridden_inputsKept w hkept).override, hkept.override]
  exact h

theorem overrideResult_ctl (hz : z.toNat = s.station) :
    (overrideResult z w s).ctl = (evidence (afterOverride w s)).ctl := by
  unfold overrideResult
  rw [if_pos hz, frameClosed_ctl]

theorem overrideResult_conflict (ha : s.ctl.mode.applies = true) (hz : z.toNat = s.station) (hm : s.ctl.mode ≠ .mute) :
    plainCond .stationConflict ∈ (overrideResult z w s).trouble.active := by
  have hT := inStep_tracks (c := plainCond .stationConflict) rfl
  have hin : InStep (plainCond .stationConflict) (overrideResult z w s) := by
    unfold overrideResult
    rw [if_pos hz]
    refine (startTests_tracks hT (evidence_conflict (afterOverride_applies ha) ?_)).settled
    rw [afterOverride_ctl]
    exact hm
  obtain ⟨hmute, -⟩ := evidence_mute (afterOverride_applies (w := w) ha)
  exact hin.2 ⟨(congrArg ModeCtl.mode (overrideResult_ctl hz)).trans hmute, rfl⟩

end Sys2Proof.Machine

open Sys2Proof Sys2Proof.Machine in
/-- Settles O36: the override is the table's; a changed one is followed by a recompute, which resolves the node, and
neither the link, the start tests nor the conflict detector undoes that. -/
theorem overrideTable : Obligations.OverrideTable := by
  intro z w s hh ha
  have hkept : InputsKept (overridden w s) (overrideResult z w s) := overrideResult_inputsKept ha
  have hoverride : (overrideResult z w s).role.override
      = if field w 7 2 = s.station ∨ field w 7 2 = 0 then overrideMode w else s.role.override := hkept.override
  refine ⟨_, exec_overrideAccepted hh ha, ?ignored, ?taken, ?changed, ?reported, ?unchanged, ?conflict,
    hkept.reg, hkept.peers, hkept.meas, hkept.panel⟩
  case ignored =>
    intro hown hzero
    rw [hoverride, if_neg (by simp [hown, hzero])]
  case taken =>
    intro hzone
    rw [hoverride, if_pos hzone]
    exact overrideMode_table w
  case changed =>
    intro hne
    rw [hkept.override] at hne
    have hr : Resolved (overrideResult z w s) := overrideResult_resolved ha hne
    refine ⟨hr.role, hr.assist, hr.target, hr.fireMode, fun h => ⟨?_, ?_⟩, fun h => ?_⟩
    · rw [hr.role, deriveRole, h]
    · rw [hr.fireMode, deriveFireMode, h]; simp
    · rw [hr.role, deriveRole, h]
  case reported =>
    intro hne hz hm
    rw [hkept.override] at hne
    exact overrideResult_owed ha hne hz hm
  case unchanged =>
    intro heq hz
    rw [hkept.override] at heq
    rw [overrideResult_idle heq hz]
    have hresolver := (otherFrameIn_resolverKept s).trans (frameClosed_resolverKept s _)
    have hreport := frameClosed_reportKept s (otherFrameIn s)
    exact ⟨hresolver.role, hreport.queued.trans (otherFrameIn_queued s),
      fun hwire => hreport.composer.trans (otherFrameIn_composer hwire), hresolver.target⟩
  case conflict =>
    intro hz
    rw [overrideResult_ctl hz]
    obtain ⟨hmode, htimer⟩ := evidence_mute (afterOverride_applies (w := w) ha)
    exact ⟨hmode, htimer, overrideResult_conflict ha hz⟩
end

section
/-! While the hold-off runs, sequencing and the recompute energize no fan that is de-energized (R47, R65, R71, R78). -/

namespace Sys2Proof.Machine

variable {k : Option NodeConfig} {c : ChannelNo} {s t : State}

/-! ### A de-energized fan while the hold-off runs -/

/-- A sequencer that is stopped, or a fan's in a state with the run output de-energized (R65). -/
def Sequencer.resting : Sequencer → Bool
  | .stopped => true
  | .damper _ _ => false
  | .fan st _ _ => !st.outputOn

/-- The configuration stands, the hold-off runs, and channel c, where it is a fan, is de-energized. -/
structure HeldOff (k : Option NodeConfig) (c : ChannelNo) (s : State) : Prop where
  config  : s.ctl.config = k
  holdOff : s.starts.holdOff.isSome = true
  output  : (s.chCfg c).kind.isFan = true → (s.ch c).output = false
  resting : (s.chCfg c).kind.isFan = true → (s.ch c).seq.resting = true

/-- The output that goes with a resting sequencer, whatever the target (R47, R65). -/
theorem outputOf_resting {q : Sequencer} (h : q.resting = true) (x : Target) : outputOf x q = false := by
  cases q with
  | stopped => rfl
  | damper st travel => cases h
  | fan st proving runDown => simpa [Sequencer.resting, outputOf] using h

theorem chCfg_congr (h : t.ctl.config = s.ctl.config) (d : ChannelNo) : t.chCfg d = s.chCfg d := by
  unfold State.chCfg State.cfg
  rw [h]

theorem ChannelKind.not_fan_of_damper {x : ChannelKind} (h : x.isDamper = true) : x.isFan = false := by
  cases x with
  | damper | curtain => rfl
  | unused | extractFan | supplyFan => cases h

theorem evaluateStopped_resting (s : State) (d : ChannelNo) : (fanIn (evaluateStopped s d)).resting = true := by
  unfold evaluateStopped
  split
  · rfl
  · split <;> rfl

namespace HeldOff

/-- A write to nothing that the property reads. -/
theorem write (h : HeldOff k c s) (hconfig : t.ctl.config = s.ctl.config) (hstarts : t.starts = s.starts)
    (hchans : t.chans = s.chans) : HeldOff k c t where
  config := hconfig.trans h.config
  holdOff := by rw [hstarts]; exact h.holdOff
  output hfan := by
    rw [State.ch, hchans]
    exact h.output (chCfg_congr hconfig c ▸ hfan)
  resting hfan := by
    rw [State.ch, hchans]
    exact h.resting (chCfg_congr hconfig c ▸ hfan)

theorem of_lessReports (h : HeldOff k c s) (hr : t.lessReports = s.lessReports) : HeldOff k c t := by
  obtain ⟨hctl, -, -, hchans, hstarts, -⟩ := lessReports_eq hr
  exact h.write (congrArg ModeCtl.config hctl) hstarts hchans

/-- A hold-off that is set anew runs on. -/
theorem withStarts (h : HeldOff k c s) {x : StartLogic} (hx : x.holdOff.isSome = true) : HeldOff k c (s.withStarts x) :=
  ⟨h.config, hx, h.output, h.resting⟩

/-- A write to one channel. -/
theorem setCh (h : HeldOff k c s) (d : ChannelNo) {x : Channel}
    (hx : d = c → (s.chCfg c).kind.isFan = true → x.output = false ∧ x.seq.resting = true) : HeldOff k c (s.setCh d x) where
  config := h.config
  holdOff := h.holdOff
  output hfan := by
    rw [State.ch_setCh]
    split
    · next hd => exact (hx hd hfan).1
    · exact h.output hfan
  resting hfan := by
    rw [State.ch_setCh]
    split
    · next hd => exact (hx hd hfan).2
    · exact h.resting hfan

/-- A sequencer that is not at rest is not that of a de-energized fan. -/
theorem apart (h : HeldOff k c s) {d : ChannelNo} (hd : (s.ch d).seq.resting = false) :
    (s.chCfg c).kind.isFan = true → d ≠ c := by
  rintro hfan rfl
  rw [h.resting hfan] at hd
  cases hd

theorem setSeq (h : HeldOff k c s) (d : ChannelNo) {q : Sequencer}
    (hq : d = c → (s.chCfg c).kind.isFan = true → q.resting = true) : HeldOff k c (setSeq d q s) := by
  refine of_lessReports (h.setCh d fun hd hfan => ?_) (setSeq_lessReports s d q)
  exact ⟨outputOf_resting (hq hd hfan) _, hq hd hfan⟩

theorem setSeq_resting (h : HeldOff k c s) (d : ChannelNo) {q : Sequencer} (hq : q.resting = true) :
    HeldOff k c (Machine.setSeq d q s) := h.setSeq d fun _ _ => hq

/-- A move of a sequencer that is not at rest is no move of a de-energized fan. -/
theorem setSeq_moving (h : HeldOff k c s) {d : ChannelNo} (hd : (s.ch d).seq.resting = false) (q : Sequencer) :
    HeldOff k c (Machine.setSeq d q s) := h.setSeq d fun he hfan => absurd he (h.apart hd hfan)

/-! ### Fans (R67 to R70, R79 to R83) -/

theorem enterStopped (h : HeldOff k c s) (d : ChannelNo) : HeldOff k c (enterStopped d s) := by
  unfold Machine.enterStopped
  split
  · exact h.setSeq_resting d rfl
  · exact h.setSeq_resting d (evaluateStopped_resting s d)

theorem enterStopping (h : HeldOff k c s) (d : ChannelNo) : HeldOff k c (enterStopping d s) :=
  holds_ite (h.enterStopped d) (h.setSeq_resting d rfl)

/-- A start of another channel. -/
theorem enterStarting (h : HeldOff k c s) {d : ChannelNo} (hd : (s.chCfg c).kind.isFan = true → d ≠ c) :
    HeldOff k c (enterStarting d s) :=
  holds_ite (h.setSeq d fun he hfan => absurd he (hd hfan)) (h.setSeq d fun he hfan => absurd he (hd hfan))

theorem fanTarget (h : HeldOff k c s) (d : ChannelNo) : HeldOff k c (fanTarget d s) := by
  unfold Machine.fanTarget
  split
  case h_1 | h_2 | h_3 | h_4 | h_9 => exact h.enterStopped d
  case h_5 | h_6 | h_7 | h_8 => exact h.enterStopping d
  case h_10 => exact h

theorem fanRole (h : HeldOff k c s) (d : ChannelNo) : HeldOff k c (fanRole d s) := by
  unfold Machine.fanRole
  split
  · exact holds_ite h (h.setSeq_resting d rfl)
  · exact holds_ite h (h.setSeq_resting d rfl)
  · exact h.enterStopped d
  · exact h

theorem fanNotice (h : HeldOff k c s) (a b : Bool) (d : ChannelNo) : HeldOff k c (fanNotice a b d s) := by
  have htarget : HeldOff k c (if a then Machine.fanTarget d s else s) := holds_ite (h.fanTarget d) h
  exact holds_ite (htarget.fanRole d) htarget

/-- A proving event moves a fan to RUNNING from an energized state alone (R79 to R81). -/
theorem provingEvent (h : HeldOff k c s) (b : Bool) (d : ChannelNo) : HeldOff k c (provingEvent b d s) := by
  unfold Machine.provingEvent
  split
  case h_1 | h_2 | h_3 => exact h.setSeq_moving (by simp [*, Sequencer.resting, FanState.outputOn]) _
  case h_4 hseq =>
    have hd : (s.ch d).seq.resting = false := by rw [hseq]; rfl
    exact holds_ite (h.setSeq_moving hd _) (h.setSeq_moving hd _)
  case h_5 => exact h

theorem provingExpiry (h : HeldOff k c s) (d : ChannelNo) : HeldOff k c (provingExpiry d s) := by
  unfold Machine.provingExpiry
  split
  · next hseq =>
    have hd : (s.ch d).seq.resting = false := by rw [hseq]; rfl
    exact holds_ite h (holds_ite (h.setSeq_moving hd _) (h.setSeq_moving hd _))
  · exact h

theorem runDownExpiry (h : HeldOff k c s) (d : ChannelNo) : HeldOff k c (runDownExpiry d s) := by
  unfold Machine.runDownExpiry
  split
  · exact h.enterStopped d
  · exact h

theorem interlockEvent (h : HeldOff k c s) (d e : ChannelNo) : HeldOff k c (interlockEvent d s e) := by
  unfold Machine.interlockEvent
  split
  · split
    · exact h.setSeq_resting e (evaluateStopped_resting s e)
    · exact h.setSeq_resting e (evaluateStopped_resting s e)
    · exact holds_ite (h.setSeq_resting e rfl) h
    · exact h
  · exact h

/-! ### Dampers and curtains (R48 to R56) -/

theorem setTravel (h : HeldOff k c s) {d : ChannelNo} (hd : (s.chCfg c).kind.isFan = true → d ≠ c) (q : Sequencer) :
    HeldOff k c (setTravel d q s) := by
  have hseq : HeldOff k c (Machine.setSeq d q s) := h.setSeq d fun he hfan => absurd he (hd hfan)
  exact holds_ite (foldl_preserves _ (HeldOff k c) _ (fun _ e k => k.interlockEvent d e) allChannels hseq) hseq

theorem damperTarget (h : HeldOff k c s) (d : ChannelNo) : HeldOff k c (damperTarget d s) := by
  unfold Machine.damperTarget
  split
  · next hseq => exact holds_ite h (h.setTravel (h.apart (by rw [hseq]; rfl)) _)
  · next hseq => exact h.setTravel (h.apart (by rw [hseq]; rfl)) _
  · exact h

theorem limitEvent (h : HeldOff k c s) (d : ChannelNo) : HeldOff k c (limitEvent d s) := by
  simp only [Machine.limitEvent]
  split
  · next hseq =>
    have htravel (q : Sequencer) : HeldOff k c (Machine.setTravel d q s) :=
      h.setTravel (h.apart (by rw [hseq]; rfl)) q
    refine holds_ite (htravel _) ?_
    split
    · exact htravel _
    · exact holds_ite h (htravel _)
    · exact holds_ite h (htravel _)
    · exact holds_ite (htravel _) h
    · exact holds_ite (htravel _) h
    · exact holds_ite (htravel _) h
  · exact h

theorem travelExpiry (h : HeldOff k c s) (d : ChannelNo) : HeldOff k c (travelExpiry d s) := by
  unfold Machine.travelExpiry
  split
  · next hseq => exact holds_ite h (h.setTravel (h.apart (by rw [hseq]; rfl)) _)
  · exact h

/-! ### The start of the sequencers (R48, R64, R87) -/

theorem startDamper (h : HeldOff k c s) (d : ChannelNo) : HeldOff k c (startDamper d s) := by
  unfold Machine.startDamper
  split
  · next hdamper =>
    refine h.setTravel ?_ _
    rintro hfan rfl
    rw [ChannelKind.not_fan_of_damper hdamper] at hfan
    cases hfan
  · exact h

theorem startFan (h : HeldOff k c s) (d : ChannelNo) : HeldOff k c (startFan d s) := holds_ite (h.enterStopped d) h

theorem startSequencers (h : HeldOff k c s) : HeldOff k c (startSequencers s) :=
  foldl_preserves _ (HeldOff k c) _ (fun _ d k => k.startFan d) allChannels
    (foldl_preserves _ (HeldOff k c) _ (fun _ d k => k.startDamper d) allChannels h)

/-- A fan resumes energized from an energized state alone (R87). -/
theorem resumeFan (h : HeldOff k c s) {q : Sequencer} {d : ChannelNo}
    (hq : d = c → (s.chCfg c).kind.isFan = true → q.resting = true) : HeldOff k c (resumeFan q d s) := by
  have hstart (hon : q.resting = false) : HeldOff k c (Machine.enterStarting d s) :=
    h.enterStarting fun hfan he => by rw [hq he hfan] at hon; cases hon
  refine holds_ite ?_ h
  split
  case h_1 | h_2 | h_3 | h_4 => exact hstart rfl
  case h_5 => exact h.enterStopping d
  case h_6 => exact h.enterStopped d

theorem resumeSequencers (h : HeldOff k c s) {v : Vector Channel 12}
    (hv : (s.chCfg c).kind.isFan = true → v[c.val].seq.resting = true) : HeldOff k c (resumeSequencers v s) := by
  refine foldl_preserves _ (HeldOff k c) _ (fun u d hu => hu.resumeFan ?_) allChannels
    (foldl_preserves _ (HeldOff k c) _ (fun _ d k => k.startDamper d) allChannels h)
  rintro rfl hfan
  exact hv (chCfg_congr (hu.config.trans h.config.symm) d ▸ hfan)

/-! ### The start logic (R71 to R78) -/

theorem withdrawClaim (h : HeldOff k c s) : HeldOff k c (withdrawClaim s) := by
  unfold Machine.withdrawClaim
  split
  · exact (h.write (t := s.setQueued .claim false) rfl rfl rfl).withStarts h.holdOff
  · exact h

/-- The tests start no fan, since the isolated start waits for a stopped hold-off (R78). -/
theorem startTests (h : HeldOff k c s) : HeldOff k c (startTests s) := by
  have hwithdraw : HeldOff k c (withdrawTest s) := holds_ite h.withdrawClaim h
  have hclaim : HeldOff k c (claimTest (withdrawTest s)) :=
    holds_ite ((hwithdraw.write (t := (withdrawTest s).setQueued .claim true) rfl rfl rfl).withStarts hwithdraw.holdOff)
      hwithdraw
  unfold Machine.startTests
  rcases isolatedTest_cases (claimTest (withdrawTest s)) with hidle | ⟨d, -, -, -, hstopped, -⟩
  · rw [hidle]
    exact hclaim
  · have hruns := hclaim.holdOff
    rw [hstopped] at hruns
    cases hruns

theorem peerClaim (h : HeldOff k c s) (n : Nat) : HeldOff k c (peerClaim n s) :=
  withdrawClaim (h.withStarts rfl)

theorem claimRequeued (h : HeldOff k c s) : HeldOff k c (claimRequeued s) := by
  unfold Machine.claimRequeued
  split
  · exact h.withStarts h.holdOff
  · exact h

/-! ### Containment and the recompute (R40, R111) -/

theorem setContain (h : HeldOff k c s) (st : ContainState) (g : Option Nat) : HeldOff k c (setContain st g s) :=
  of_lessReports (h.write (t := s.withContain { state := st, grace := g }) rfl rfl rfl) (setContain_lessReports s st g)

theorem containRole (h : HeldOff k c s) (a b : ZoneRole) : HeldOff k c (containRole a b s) :=
  have hderive : HeldOff k c (deriveContain s) :=
    holds_ite (h.setContain _ _) (holds_ite (h.setContain _ _) (h.setContain _ _))
  holds_ite (holds_ite h hderive) (h.setContain _ _)

/-- The output of a stopped sequencer or a fan's does not follow the target (R65). -/
theorem replaceTarget (h : HeldOff k c s) (d : ChannelNo) (x : Target) : HeldOff k c (replaceTarget d x s) := by
  refine h.setCh d ?_
  rintro rfl hfan
  exact ⟨outputOf_resting (h.resting hfan) x, h.resting hfan⟩

theorem recompute (h : HeldOff k c s) : HeldOff k c (recompute s) := by
  have hretarget : HeldOff k c (retargeted (derived s)) :=
    foldl_preserves (derived s) (HeldOff k c) (fun s d => Machine.replaceTarget d (newTarget s d) s)
      (fun _ d k => k.replaceTarget d _) _ (h.write rfl rfl rfl)
  refine holds_ite (startTests ?_) h
  refine foldl_preserves _ (HeldOff k c) _ (fun _ d k => k.fanNotice _ _ d) _ ?_
  refine foldl_preserves _ (HeldOff k c) _ (fun _ d k => k.damperTarget d) _ ?_
  exact holds_ite ((hretarget.of_lessReports (statusNotice_lessReports _)).containRole _ _) hretarget

end HeldOff

end Sys2Proof.Machine
end

section
/-! While the hold-off runs, no block's work energizes a de-energized fan: frames, modes, resets (R71, R87, R147, R170 to R174). -/

namespace Sys2Proof.Machine.HeldOff

variable {k : Option NodeConfig} {c : ChannelNo} {s t : State}

/-! ### Reports, register, peers and measurement -/

theorem settled (h : HeldOff k c t) (s : State) : HeldOff k c (settleRaises s t) :=
  h.of_lessReports (settleRaises_lessReports s t)

theorem statusNotice (h : HeldOff k c s) : HeldOff k c (statusNotice s) := h.of_lessReports (statusNotice_lessReports s)

theorem queueStatus (h : HeldOff k c s) : HeldOff k c (queueStatus s) := h.of_lessReports (queueStatus_lessReports s)

theorem raise (h : HeldOff k c s) (d : Cond) : HeldOff k c (raise d s) := h.of_lessReports (raise_lessReports s d)

theorem endCond (h : HeldOff k c s) (d : Cond) : HeldOff k c (endCond d s) := h.of_lessReports (endCond_lessReports s d)

theorem startStagger (h : HeldOff k c s) : HeldOff k c (startStagger s) :=
  holds_ite (queueStatus (h.write rfl rfl rfl)) (h.write rfl rfl rfl)

theorem placeDeclare (h : HeldOff k c s) : HeldOff k c (placeDeclare s) := holds_ite (h.write rfl rfl rfl) h

theorem replaceDeclare (h : HeldOff k c s) : HeldOff k c (replaceDeclare s) := holds_ite h.placeDeclare h

theorem declarationCheck (h : HeldOff k c s) : HeldOff k c (declarationCheck s) :=
  holds_ite (placeDeclare (h.write rfl rfl rfl)) h

theorem resumeDeclaration (h : HeldOff k c s) : HeldOff k c (resumeDeclaration s) :=
  holds_ite (placeDeclare (h.write rfl rfl rfl)) h.declarationCheck

theorem storeRegister (h : HeldOff k c s) (new : IncidentRegister) : HeldOff k c (storeRegister new s) :=
  of_lessReports (h.write (t := s.withReg new) rfl rfl rfl) (storeRegister_lessReports s new)

theorem registerEvent (h : HeldOff k c s) (new : IncidentRegister) : HeldOff k c (registerEvent new s) :=
  holds_ite (h.storeRegister new) (h.storeRegister new).recompute

theorem setPeer (h : HeldOff k c s) (z : Nat) (x : Peer) : HeldOff k c (s.setPeer z x) := by
  unfold State.setPeer
  split
  · exact h.write rfl rfl rfl
  · exact h

theorem storeStatus (h : HeldOff k c s) (z : Nat) (r : StatusRecord) : HeldOff k c (storeStatus z r s) :=
  of_lessReports (holds_ite h (h.setPeer _ _)) (storeStatus_lessReports s z r)

theorem silenceExpiry (h : HeldOff k c s) (z : Nat) : HeldOff k c (silenceExpiry z s) :=
  holds_ite (holds_ite ((h.setPeer _ _).raise _).recompute (h.setPeer _ _)) h

theorem completeListening (h : HeldOff k c s) : HeldOff k c (completeListening s) := by
  have hlistened : HeldOff k c (s.withPeers { s.peers with listened := true }) := h.write rfl rfl rfl
  exact holds_ite h (hlistened.of_lessReports (raiseSilent_lessReports _))

theorem graceStart (h : HeldOff k c s) : HeldOff k c (graceStart s) := holds_ite (h.write rfl rfl rfl) h

theorem graceExpiry (h : HeldOff k c s) : HeldOff k c (graceExpiry s) := by
  unfold Machine.graceExpiry
  split
  · exact holds_ite (h.setContain _ _) h
  · exact h

theorem resumeContain (h : HeldOff k c s) : HeldOff k c (resumeContain s) :=
  holds_ite (holds_ite (h.setContain _ _) (h.setContain _ _)) (h.setContain _ _)

theorem containComparator (h : HeldOff k c s) : HeldOff k c (containComparator s) := by
  unfold Machine.containComparator
  split
  · exact holds_ite (h.setContain _ _) h
  · exact holds_ite h (h.setContain _ _)
  · exact holds_ite (h.setContain _ _) h
  · exact h
  · exact h

theorem passComparator (h : HeldOff k c s) (p : PressureNo) (b : Bool) : HeldOff k c (passComparator p b s) := by
  unfold Machine.passComparator
  split
  · exact foldl_preserves s (HeldOff k c) _ (fun _ d hu => holds_ite (hu.provingEvent b d) hu) allChannels h
  · exact h.containComparator
  · exact h

theorem pairEvent (h : HeldOff k c s) (p : PressureNo) (a b : Code) : HeldOff k c (pairEvent p a b s) := by
  have hstored (y : PressureState) : HeldOff k c (s.setPressure p y) := h.write rfl rfl rfl
  have hfault (x y : PressureState) : HeldOff k c
      (if y.fault = x.fault then s.setPressure p y else followLatch (sensorFault p) y.fault (s.setPressure p y)) :=
    holds_ite (hstored y) ((hstored y).of_lessReports (followLatch_lessReports _ _ _))
  exact holds_ite (hfault _ _) ((hfault _ _).passComparator _ _)

theorem supplyEvent (h : HeldOff k c s) (v : Nat) : HeldOff k c (supplyEvent v s) := by
  have hread : HeldOff k c (s.withMeas { s.meas with supply := nextSupply s.meas.supply v }) := h.write rfl rfl rfl
  exact holds_ite h (startTests (hread.of_lessReports (followSupply_lessReports _ _)))

theorem inputEvent (h : HeldOff k c s) (d : ChannelNo) (i : Input) (made : Bool) :
    HeldOff k c (inputEvent d i made s) := by
  unfold Machine.inputEvent
  split
  · exact (h.limitEvent d).startTests
  · exact holds_ite (h.provingEvent made d) h
  · exact h

/-- A stored level moves no output and no sequencer. -/
theorem storeInput (h : HeldOff k c s) (d : ChannelNo) (i : Input) (made : Bool) :
    HeldOff k c (storeInput d i made s) := by
  refine h.setCh d ?_
  rintro rfl hfan
  cases i <;> exact ⟨h.output hfan, h.resting hfan⟩

/-! ### The link (R143 to R152) -/

theorem endAttempt (h : HeldOff k c s) (l : Line) (n : Nat) : HeldOff k c (endAttempt l n s) := by
  refine claimRequeued (holds_ite (P := HeldOff k c) ?_ ?_)
  · exact h.write rfl rfl rfl
  · exact h.write rfl rfl rfl

theorem stopSending (h : HeldOff k c s) (bit : Nat) : HeldOff k c (stopSending bit s) := by
  unfold Machine.stopSending
  split
  · exact h
  · exact (h.endAttempt _ _).startTests

theorem countFailure (h : HeldOff k c s) : HeldOff k c (countFailure s) := by
  have hcounted : HeldOff k c (s.withLink { s.link with failCount := 16, txFail := true }) := h.write rfl rfl rfl
  exact holds_ite (h.write rfl rfl rfl) (hcounted.raise _)

/-- The capture of a claim sets the claim record, and the hold-off runs on. -/
theorem sendKind (h : HeldOff k c s) (x : FrameKind) : HeldOff k c (sendKind x s) := by
  cases x with
  | clear | fireDeclare | status => exact h.write rfl rfl rfl
  | claim =>
    change HeldOff k c (sendClaim s)
    unfold sendClaim
    split
    · exact h.withdrawClaim
    · next d _ =>
      have hsending : HeldOff k c
          (s.withStarts { s.starts with claim := .sending d s.role.role.extract (carriedHoldOff s d) }) :=
        h.withStarts h.holdOff
      exact hsending.write rfl rfl rfl

theorem ownFrameOut (h : HeldOff k c s) : HeldOff k c (ownFrameOut s) := by
  unfold Machine.ownFrameOut
  split
  · exact h
  · refine endCond ?_ _
    exact h.write rfl rfl rfl

theorem otherFrameIn (h : HeldOff k c s) : HeldOff k c (otherFrameIn s) := by
  have hline : HeldOff k c (if s.link.attempt.isSome then Machine.endAttempt .closed 0 s else s.setLine .closed) :=
    holds_ite (h.endAttempt _ _) (h.write rfl rfl rfl)
  exact hline.write rfl rfl rfl

/-! ### The modes (R169 to R172) -/

theorem setMode (h : HeldOff k c s) (m : Mode) {x : ModeCtl} (hx : x.config = s.ctl.config) :
    HeldOff k c (setMode m (s.withCtl x)) := h.write hx rfl rfl

theorem enterActive (h : HeldOff k c s) : HeldOff k c (enterActive s) :=
  startTests (completeListening (graceStart (startSequencers (recompute (h.setMode .active rfl)))))

theorem endListenOnAlarm (h : HeldOff k c s) : HeldOff k c (endListenOnAlarm s) := holds_ite h.enterActive h

theorem beginListen (h : HeldOff k c s) : HeldOff k c (beginListen s) := startStagger (h.setMode .listen rfl)

theorem enterListen (h : HeldOff k c s) : HeldOff k c (enterListen s) := by
  refine endListenOnAlarm (recompute (declarationCheck ?_))
  exact h.beginListen.write (t := setScan _ (Machine.beginListen s)) rfl rfl rfl

theorem emptyQueue (h : HeldOff k c s) : HeldOff k c (emptyQueue s) := by
  have hclaim : HeldOff k c (s.withStarts { s.starts with claim := .absent }) := h.withStarts h.holdOff
  exact hclaim.write rfl rfl rfl

theorem enterMute (h : HeldOff k c s) (o : Origin) : HeldOff k c (enterMute o s) := by
  refine startTests (recompute (raise ?_ _))
  have hmuted : HeldOff k c (Machine.emptyQueue (Machine.setMode .mute (s.withCtl
      { s.ctl with listenTimer := none, quietTimer := some quietTime, origin := some o }))) :=
    emptyQueue (h.setMode .mute rfl)
  exact hmuted.write rfl rfl rfl

theorem evidence (h : HeldOff k c s) : HeldOff k c (evidence s) := by
  unfold Machine.evidence
  split
  · exact h.enterMute _
  · exact h.enterMute _
  · exact h.write rfl rfl rfl
  · exact h

theorem leaveMute (h : HeldOff k c s) : HeldOff k c (leaveMute s) := by
  have hended : HeldOff k c (Machine.endCond (plainCond .stationConflict) s) := h.endCond _
  unfold Machine.leaveMute
  dsimp only
  split
  · exact endListenOnAlarm (recompute (declarationCheck (replaceDeclare hended.beginListen)))
  · exact startTests (completeListening (recompute (replaceDeclare (startStagger (hended.setMode .active rfl)))))

theorem enterLockout (h : HeldOff k c s) : HeldOff k c (enterLockout s) :=
  startStagger (raise (h.setMode .lockout (x := s.ctl) rfl) _)

theorem sampleStraps (h : HeldOff k c s) (p : StrapPins) : HeldOff k c (sampleStraps p s) := by
  have hsampled : HeldOff k c (s.withCtl
      { s.ctl with
        straps := some { station := p.station.toNat, missLimit := missLimitOf p.miss, rate := p.rate } }) :=
    h.write rfl rfl rfl
  exact holds_ite hsampled.enterLockout (hsampled.write rfl rfl rfl)

/-! ### The RESET line (R60, R87, R156, R173) -/

/-- Sequencers that are stopped with outputs no higher than they were. -/
theorem halted (h : HeldOff k c s) {f : Channel → Channel} (hseq : ∀ x, (f x).seq = .stopped)
    (hout : ∀ x, x.output = false → (f x).output = false) : HeldOff k c (s.withChans (mapVec f s.chans)) where
  config := h.config
  holdOff := h.holdOff
  output hfan := by
    rw [State.ch, State.withChans_chans, mapVec_getElem]
    exact hout _ (h.output hfan)
  resting _ := by
    rw [State.ch, State.withChans_chans, mapVec_getElem, hseq]
    rfl

theorem stopSequencers (h : HeldOff k c s) : HeldOff k c (stopSequencers s) := h.halted (fun _ => rfl) fun _ _ => rfl

theorem haltSequencers (h : HeldOff k c s) : HeldOff k c (haltSequencers s) := h.halted (fun _ => rfl) fun _ hx => hx

theorem resetHeld (h : HeldOff k c s) : HeldOff k c (resetHeld s) := h.emptyQueue.write rfl rfl rfl

/-- The resumption starts the hold-off anew, before the recompute. -/
theorem resumeBlocks (h : HeldOff k c s) : HeldOff k c (resumeBlocks s) := by
  have hstagger : HeldOff k c (Machine.startStagger (resumePeers (resumeMeasure s))) :=
    startStagger (h.write rfl rfl rfl)
  have hbefore : HeldOff k c (resumeBefore s) := by
    refine of_lessReports (t := raiseSilent _) ?_ (raiseSilent_lessReports _)
    exact of_lessReports (hstagger.withStarts rfl) (resumeConditions_lessReports _)
  rw [resumeBlocks_eq]
  exact hbefore.resumeDeclaration.recompute.resumeContain

theorem resumeListen (h : HeldOff k c s) : HeldOff k c (resumeListen s) :=
  endListenOnAlarm (resumeBlocks (h.stopSequencers.setMode .listen rfl))

theorem resumeActive (h : HeldOff k c s) : HeldOff k c (resumeActive s) := by
  have hblocks : HeldOff k c (Machine.resumeBlocks (Machine.setMode .active ((Machine.haltSequencers s).withCtl
      { s.ctl with listenTimer := none, quietTimer := none, origin := none }))) :=
    resumeBlocks (h.haltSequencers.setMode .active rfl)
  refine startTests (completeListening (hblocks.resumeSequencers fun hfan => ?_))
  exact h.resting (chCfg_congr (hblocks.config.trans h.config.symm) c ▸ hfan)

theorem warmReset (h : HeldOff k c s) : HeldOff k c (warmReset s) := by
  have hreleased : HeldOff k c (releaseReset s) := h.write rfl rfl rfl
  unfold Machine.warmReset
  dsimp only
  split
  · exact hreleased.sampleStraps _
  · exact hreleased
  · exact hreleased.resumeListen
  · exact hreleased.resumeActive
  · exact hreleased.resumeActive
  · exact startStagger (hreleased.raise _)

/-! ### Accepted frames (R146, R147) -/

theorem whenApplied (h : HeldOff k c s) {f : State → State} (hf : HeldOff k c (f s)) : HeldOff k c (whenApplied f s) :=
  holds_ite hf h

/-- An accepted frame energizes no fan where the blocks' part of it does not. -/
theorem acceptFrame (h : HeldOff k c s) (own : Bool) (f : Frame) {blocks : State → State}
    (hblocks : ∀ u, u = (if own then Machine.ownFrameOut s else Machine.otherFrameIn s) → HeldOff k c u →
      HeldOff k c (blocks u)) : HeldOff k c (acceptFrame own f blocks s) := by
  have hlink : HeldOff k c (if own then Machine.ownFrameOut s else Machine.otherFrameIn s) :=
    holds_ite h.ownFrameOut h.otherFrameIn
  have happlied := hblocks _ rfl hlink
  exact holds_ite (settled (startTests (holds_ite happlied.evidence happlied)) s) h

theorem applyClear (h : HeldOff k c s) : HeldOff k c (applyClear s) := (h.registerEvent _).declarationCheck

theorem applyOverride (h : HeldOff k c s) (w : Word) : HeldOff k c (applyOverride w s) :=
  holds_ite (recompute (statusNotice (h.write rfl rfl rfl))) h

theorem applyDeclare (h : HeldOff k c s) (own : Bool) (z : Station) (words : List Word) :
    HeldOff k c (applyDeclare own z words s) := by
  have hdeclared : HeldOff k c (if own then s.withReg (ownDeclared s.reg) else s) := holds_ite (h.write rfl rfl rfl) h
  exact hdeclared.registerEvent _

theorem ownStatusAccepted (h : HeldOff k c s) : HeldOff k c (ownStatusAccepted s) := by
  have hfresh (b : Bool) : HeldOff k c
      ((if b then
          s.withTrouble { s.trouble with record := s.trouble.record.map (fun r => { r with fresh := false }) }
        else s).withStatus { period := some periodTime, earlyPending := false, captured := none }) := by
    cases b <;> exact h.write rfl rfl rfl
  exact holds_ite (hfresh _).queueStatus (hfresh _)

theorem applyStatus (h : HeldOff k c s) (own : Bool) (z : Station) (w1 w2 w3 : Word) :
    HeldOff k c (applyStatus own z w1 w2 w3 s) := by
  have hentry : HeldOff k c
      (if own then Machine.ownStatusAccepted s
        else Machine.whenApplied (Machine.storeStatus z.toNat { mode := readMode w1, contain := readContain w1 }) s) :=
    holds_ite h.ownStatusAccepted (h.whenApplied (h.storeStatus _ _))
  have hview : ∀ {u}, HeldOff k c u → HeldOff k c (Machine.whenApplied (applyView z w2 w3) u) :=
    fun hu => hu.whenApplied (holds_ite hu (hu.storeRegister _))
  exact holds_ite (hview hentry).recompute (hview hentry)

theorem alarmEvent (h : HeldOff k c s) (active : Bool) : HeldOff k c (alarmEvent active s) :=
  holds_ite (holds_ite h.statusNotice.declarationCheck.enterActive h.statusNotice.declarationCheck) h.statusNotice

end Sys2Proof.Machine.HeldOff
end

section
/-! No command but the hold-off's own expiry energizes a de-energized fan while the hold-off runs: O51 (R71). -/

namespace Sys2Proof.Machine

variable {k : Option NodeConfig} {c : ChannelNo} {s t : State}

/-! ### Where the hold-off stands -/

/-- A claim is in the record only while the hold-off is stopped (R72). -/
theorem claim_absent_of_holdOff (h : ClaimLaw s) (hrun : s.starts.holdOff.isSome = true) : s.starts.claim = .absent := by
  unfold ClaimLaw at h
  split at h
  · assumption
  · obtain ⟨-, -, -, hstopped, -⟩ := h
    rw [hstopped] at hrun
    cases hrun
  · obtain ⟨-, -, hstopped, -⟩ := h
    rw [hstopped] at hrun
    cases hrun

/-- A de-energized fan of a lawful node has a resting sequencer (R65). -/
theorem heldOff_of_laws (h : SequencerLaw s c) (hrun : s.starts.holdOff.isSome = true) (hoff : (s.ch c).output = false) :
    HeldOff s.ctl.config c s where
  config := rfl
  holdOff := hrun
  output _ := hoff
  resting hfan := by
    obtain ⟨hout, hseq⟩ := h
    cases hq : (s.ch c).seq with
    | stopped => rfl
    | damper st travel =>
      rw [hq] at hseq
      obtain ⟨-, hdamper, -⟩ := hseq
      rw [ChannelKind.not_fan_of_damper hdamper] at hfan
      cases hfan
    | fan st proving runDown =>
      rw [hq, hoff] at hout
      simp [Sequencer.resting, ← show false = st.outputOn from hout]

/-- In CONFIG no sequencer runs, so a configuration of any kind meets a channel at rest (R48, R64). -/
theorem heldOff_configured (hmode : s.ctl.mode = .config) (h : SequencerLaw s c)
    (hrun : s.starts.holdOff.isSome = true) (x : Option NodeConfig) :
    HeldOff x c (s.withCtl { s.ctl with config := x }) := by
  obtain ⟨hout, hseq⟩ := h
  have hidle : s.running = false := by simp [State.running, State.sequencing, hmode]
  have hstopped : (s.ch c).seq = .stopped := by
    cases hq : (s.ch c).seq with
    | stopped => rfl
    | damper | fan =>
      rw [hq] at hseq
      exact absurd hseq.1 (by simp [hidle])
  refine ⟨rfl, hrun, fun _ => ?_, fun _ => ?_⟩
  · change (s.ch c).output = false
    rw [hout, hstopped]
    rfl
  · change (s.ch c).seq.resting = true
    rw [hstopped]
    rfl

theorem configRead_heldOff (hmode : s.ctl.mode = .config) (h : SequencerLaw s c)
    (hrun : s.starts.holdOff.isSome = true) (b : ConfigBytes) : ∃ x, HeldOff x c (configRead b s) := by
  unfold configRead
  split
  · exact ⟨_, (heldOff_configured hmode h hrun (some (decodeConfig s.station b))).enterListen⟩
  · exact ⟨_, (heldOff_configured hmode h hrun s.ctl.config).enterLockout⟩

/-! ### Cold reset (R174) -/

theorem sampleStraps_chans (p : StrapPins) (s : State) : (sampleStraps p s).chans = s.chans := by
  have hstagger (u : State) : (startStagger u).chans = u.chans := by
    have hqueue (v : State) : (queueStatus v).chans = v.chans := by
      obtain ⟨-, -, -, hchans, -⟩ := lessReports_eq (queueStatus_lessReports v)
      exact hchans
    unfold startStagger
    split
    · exact hqueue _
    · rfl
  have hraise (d : Cond) (u : State) : (raise d u).chans = u.chans := by
    obtain ⟨-, -, -, hchans, -⟩ := lessReports_eq (raise_lessReports u d)
    exact hchans
  unfold sampleStraps
  dsimp only
  split
  · exact (hstagger _).trans (hraise _ _)
  · rfl

theorem coldReset_output (p : StrapPins) (s : State) (c : ChannelNo) : ((coldReset p s).ch c).output = false := by
  unfold coldReset State.ch
  rw [sampleStraps_chans]
  simp only [coldState, mapVec_getElem]
  rfl

/-! ### Every command -/

/-- The commands that may bring another configuration, or end the hold-off. -/
def reconfigures : Instr → Bool
  | .powerUp _ | .coldReset _ | .configReadDone _ | .holdOffExpiry => true
  | _ => false

/-- With no claim of this node on its way, an accepted claim starts no fan (R76, R77). -/
theorem startClaimAccepted_heldOff (urgent : Bool) (z : Station) (w : Word) (hclaim : s.starts.claim = .absent)
    (h : HeldOff k c s) (he : exec (.startClaimAccepted urgent z w) s = .next t) : HeldOff k c t := by
  obtain rfl := Host.Outcome.next.inj he
  refine h.acceptFrame _ _ fun u hu k => ?_
  split
  · next hown =>
    rw [if_pos hown] at hu
    have hstarts : u.starts = s.starts := by
      rw [hu]
      unfold ownFrameOut
      split
      · rfl
      · obtain ⟨-, -, -, -, hstarts, -⟩ := lessReports_eq (endCond_lessReports _ (plainCond .txFail))
        exact hstarts
    unfold ownClaim
    rw [hstarts, hclaim]
    exact k
  · exact k.whenApplied (k.peerClaim _)

theorem exec_heldOff {i : Instr} (hi : reconfigures i = false) (hclaim : s.starts.claim = .absent) (h : HeldOff k c s)
    (he : exec i s = .next t) : HeldOff k c t := by
  cases i with
  | powerUp | coldReset | configReadDone | holdOffExpiry => cases hi
  | startClaimAccepted urgent z w => exact startClaimAccepted_heldOff urgent z w hclaim h he
  | resetHeld =>
    obtain rfl := Host.Outcome.next.inj he
    exact holds_outside h (h.resetHeld.write rfl rfl rfl)
  | resetHold5s =>
    obtain rfl := Host.Outcome.next.inj he
    exact holds_ite (h.stopSequencers.write rfl rfl rfl) h
  | warmReset =>
    obtain rfl := Host.Outcome.next.inj he
    exact holds_ite (h.warmReset.settled s) h
  | listenTimerExpiry =>
    obtain rfl := Host.Outcome.next.inj he
    exact holds_outside h (holds_ite (h.enterActive.settled s) h)
  | muteQuietTimerExpiry =>
    obtain rfl := Host.Outcome.next.inj he
    exact holds_outside h (holds_ite (h.leaveMute.settled s) h)
  | lineIdle levels =>
    obtain rfl := Host.Outcome.next.inj he
    exact holds_outside h (holds_ite (P := HeldOff k c) (h.write rfl rfl rfl) h)
  | attemptStart =>
    obtain rfl := Host.Outcome.next.inj he
    refine holds_outside h (holds_ite (P := HeldOff k c) ?_ h)
    split
    · exact h.sendKind _
    · exact h
  | arbitrationLost bit =>
    obtain rfl := Host.Outcome.next.inj he
    exact holds_outside h (h.stopSending bit)
  | duplicateKeyStop bit =>
    obtain rfl := Host.Outcome.next.inj he
    exact holds_outside h (holds_ite (h.stopSending bit).evidence h)
  | failedAttempt =>
    obtain rfl := Host.Outcome.next.inj he
    have hended : HeldOff k c (endAttempt .closed 0 s) := h.endAttempt .closed 0
    have hwaits : HeldOff k c ((endAttempt .closed 0 s).withLink
        { (endAttempt .closed 0 s).link with retryWait := true }) := hended.write rfl rfl rfl
    exact holds_outside h (holds_ite hwaits.countFailure.startTests h)
  | retryWaitEnd b =>
    obtain rfl := Host.Outcome.next.inj he
    exact holds_outside h (holds_ite (P := HeldOff k c) (h.write rfl rfl rfl) h)
  | clearAccepted z w =>
    obtain rfl := Host.Outcome.next.inj he
    exact h.acceptFrame _ _ fun _ _ k => k.whenApplied k.applyClear
  | overrideAccepted z w =>
    obtain rfl := Host.Outcome.next.inj he
    exact h.acceptFrame _ _ fun _ _ k => k.whenApplied (k.applyOverride w)
  | fireDeclareAccepted z words =>
    obtain rfl := Host.Outcome.next.inj he
    exact h.acceptFrame _ _ fun _ _ k => k.whenApplied (k.applyDeclare _ z words)
  | statusAccepted z w1 w2 w3 w4 =>
    obtain rfl := Host.Outcome.next.inj he
    exact h.acceptFrame _ _ fun _ _ k => k.applyStatus _ z w1 w2 w3
  | otherFrameAccepted cls z words =>
    obtain rfl := Host.Outcome.next.inj he
    exact h.acceptFrame _ _ fun _ _ k => k
  | isolatedDeclarationTimerExpiry =>
    obtain rfl := Host.Outcome.next.inj he
    exact holds_outside h (holds_ite (h.registerEvent _) h)
  | alarmChange active =>
    obtain rfl := Host.Outcome.next.inj he
    have hlevel : HeldOff k c (s.withPanel { s.panel with alarm := takeLevel active }) := h.write rfl rfl rfl
    exact holds_ite h ((holds_outside hlevel (hlevel.alarmEvent active)).settled s)
  | panelResetPulse =>
    obtain rfl := Host.Outcome.next.inj he
    have hpulse : HeldOff k c (s.withPanel { s.panel with panelReset := takePulse s.panel.panelReset }) :=
      h.write rfl rfl rfl
    exact holds_ite h (holds_outside hpulse (holds_ite (P := HeldOff k c) (hpulse.write rfl rfl rfl) hpulse))
  | ackPulse together =>
    obtain rfl := Host.Outcome.next.inj he
    have hpulse : HeldOff k c (s.withPanel { s.panel with ack := takePulse s.panel.ack }) := h.write rfl rfl rfl
    exact holds_ite h (holds_outside hpulse (hpulse.of_lessReports (acknowledge_lessReports _ _)))
  | pulseLineReturnInactive line =>
    obtain rfl := Host.Outcome.next.inj he
    cases line <;> exact h.write rfl rfl rfl
  | statusPeriodTimerExpiry =>
    obtain rfl := Host.Outcome.next.inj he
    have hstopped : HeldOff k c (s.withStatus { s.status with period := none }) := h.write rfl rfl rfl
    exact holds_outside h (holds_ite hstopped.queueStatus h)
  | spacingTimerExpiry peer =>
    obtain rfl := Host.Outcome.next.inj he
    exact holds_outside h (h.setPeer _ _)
  | silenceTimerExpiry peer =>
    obtain rfl := Host.Outcome.next.inj he
    exact holds_outside h ((h.silenceExpiry _).settled s)
  | provingTimerExpiry d =>
    obtain rfl := Host.Outcome.next.inj he
    exact holds_outside h (h.provingExpiry d)
  | runDownTimerExpiry d =>
    obtain rfl := Host.Outcome.next.inj he
    exact holds_outside h (h.runDownExpiry d).startTests
  | provingSwitchChange d made =>
    obtain rfl := Host.Outcome.next.inj he
    exact holds_ite h (holds_outside (h.storeInput d .a made) ((h.storeInput d .a made).inputEvent d .a made))
  | limitChange d i made =>
    obtain rfl := Host.Outcome.next.inj he
    exact holds_ite h (holds_outside (h.storeInput d i made) ((h.storeInput d i made).inputEvent d i made))
  | travelTimerExpiry d =>
    obtain rfl := Host.Outcome.next.inj he
    exact holds_outside h (h.travelExpiry d).startTests
  | graceTimerExpiry =>
    obtain rfl := Host.Outcome.next.inj he
    exact holds_outside h h.graceExpiry
  | conversionADone code =>
    obtain rfl := Host.Outcome.next.inj he
    refine holds_outside h ?_
    split
    · exact h.write rfl rfl rfl
    · exact h
  | pairComplete code =>
    obtain rfl := Host.Outcome.next.inj he
    refine holds_outside h ?_
    split
    · next p codeA _ =>
      have hscan : HeldOff k c (setScan (scanFrom s (p.val + 1)) s) := h.write rfl rfl rfl
      have hpair := hscan.pairEvent p codeA code
      exact holds_ite (hpair.settled s) hpair
    · exact h
  | supplySample code =>
    obtain rfl := Host.Outcome.next.inj he
    refine holds_outside h ?_
    split
    · have hscan : HeldOff k c (setScan (scanFrom s 0) s) := h.write rfl rfl rfl
      exact hscan.supplyEvent _
    · exact h

/-- What is left of a fan's output after a command that may bring another configuration. -/
theorem exec_reconfigures_output {i : Instr} (hi : reconfigures i = true) (hne : i ≠ .holdOffExpiry)
    (h : SequencerLaw s c) (hrun : s.starts.holdOff.isSome = true) (hoff : (s.ch c).output = false)
    (he : exec i s = .next t) (hfan : (t.chCfg c).kind.isFan = true) : (t.ch c).output = false := by
  cases i with
  | powerUp p | coldReset p =>
    obtain rfl := Host.Outcome.next.inj he
    exact coldReset_output p s c
  | holdOffExpiry => exact absurd rfl hne
  | configReadDone block =>
    have hread : ∃ x, HeldOff x c t := by
      obtain rfl := Host.Outcome.next.inj he
      have hself : ∃ x, HeldOff x c s := ⟨_, heldOff_of_laws h hrun hoff⟩
      refine holds_outside (P := fun u => ∃ x, HeldOff x c u) hself ?_
      split
      · next hmode =>
        obtain ⟨x, hx⟩ := configRead_heldOff hmode h hrun block
        exact ⟨x, hx.settled s⟩
      · exact hself
    obtain ⟨x, hx⟩ := hread
    exact hx.output hfan
  | _ => cases hi

end Sys2Proof.Machine

open Sys2Proof Sys2Proof.Machine in
/-- Settles O51: while the hold-off runs no claim record is present and the isolated start waits, so a fan is energized
only from a state with its output energized already. -/
theorem noFanIsEnergizedDuringHoldOff : Obligations.NoFanIsEnergizedDuringHoldOff := by
  intro i s t _ hlink hchannels _ hrun hne he c hfan hoff
  cases hi : reconfigures i with
  | true => exact exec_reconfigures_output hi hne (hchannels c) hrun hoff he hfan
  | false =>
    obtain ⟨-, -, hclaimLaw, -⟩ := hlink
    have hclaim : s.starts.claim = .absent := claim_absent_of_holdOff hclaimLaw hrun
    exact (exec_heldOff hi hclaim (heldOff_of_laws (hchannels c) hrun hoff) he).output hfan
end

section
/-! Own claim accepted: the hold-off is set, and the captured fan starts where it still waits; O39 (R77, R79, R152). -/

namespace Sys2Proof.Machine

variable {s t : State} {c : ChannelNo}

/-- With the hold-off running and no claim in the record there is nothing to withdraw, to claim or to start (R72, R75, R78). -/
theorem startTests_idle (hclaim : s.starts.claim = .absent) (hrun : s.starts.holdOff.isSome = true) : startTests s = s := by
  have hstops : s.starts.holdOff ≠ none := fun h => by rw [h] at hrun; cases hrun
  have hwithdraw : withdrawTest s = s := by
    have hnone : withdrawClaim s = s := by rw [withdrawClaim, hclaim]
    rw [withdrawTest, hnone, ite_self]
  have htest : claimTest s = s := if_neg fun ⟨_, _, hstopped, _⟩ => hstops hstopped
  have hisolated : isolatedTest s = s := by
    rcases isolatedTest_cases s with h | ⟨d, -, -, -, hstopped, -⟩
    · exact h
    · exact absurd hstopped hstops
  rw [startTests, hwithdraw, htest, hisolated]

/-- An event that fills no empty record leaves no choice of the first raise (R159). -/
theorem settleRaises_idle (h : s.trouble.record = none → t.trouble.record = none) : settleRaises s t = t := by
  unfold settleRaises
  split
  · next hs ht =>
    rw [h hs] at ht
    cases ht
  · rfl

/-- The end of a condition fills no empty record (R159, R160). -/
theorem endCond_record_none {d : Cond} (h : s.trouble.record = none) : (endCond d s).trouble.record = none := by
  rw [endCond_trouble s d (by simp [Trouble.endsWithAck, h])]
  exact h

/-- A move between states with the same condition writes its channel alone (R58, R85). -/
theorem setSeq_of_same {q : Sequencer} (h : seqCond c (s.ch c).seq = seqCond c q) :
    setSeq c q s = s.setCh c { s.ch c with seq := q, output := outputOf (s.ch c).target q } := if_pos h

/-- What entry to STARTING makes of a channel (R79). -/
def startedChannel (c : ChannelNo) (s : State) : Channel :=
  { s.ch c with
    output := true
    seq := if provingLevel s c then .fan .running none none
      else .fan .starting (some ((s.chCfg c).time1 * 1000)) none }

/-- A fan that waits for its slot has no condition to leave, so its start writes its channel alone (R79, R85). -/
theorem enterStarting_of_waits (h : waitsForSlot s c = true) : enterStarting c s = s.setCh c (startedChannel c s) := by
  have hcond : seqCond c (s.ch c).seq = none := by
    unfold waitsForSlot at h
    split at h
    · next hseq => rw [hseq]; rfl
    · cases h
  unfold enterStarting startedChannel
  split <;> exact setSeq_of_same hcond

/-! ### Own claim at its acceptance (R77, R149, R152) -/

/-- The link once an own claim has left the queue (R149, R152). -/
def Link.claimOut (x : Link) : Link :=
  { x with
    line := .closed, run := 0, attempt := none, failCount := 0, txFail := false
    queue := { x.queue with claim := false } }

/-- The node once its own claim has left the queue and the hold-off is set from the value h it carried. -/
def claimTaken (h : Nat) (s : State) : State :=
  { s with
    link := s.link.claimOut
    trouble := (endCond (plainCond .txFail) s).trouble
    starts := { holdOff := some (max (s.starts.holdOff.getD 0) (max 1 (min 60 h) * 500)), claim := .absent } }

/-- The captured fan starts if it still waits with target RUN and the supply is not FAIL (R77). -/
def claimUsed (c : ChannelNo) (h : Nat) (s : State) : State :=
  if waitsForSlot s c = true ∧ (s.ch c).target = .on ∧ s.meas.supply ≠ .fail then
    (claimTaken h s).setCh c (startedChannel c s)
  else claimTaken h s

/-- The end of a condition moves the Trouble Unit alone, and reads no more of the node than mode and RESET line. -/
theorem endCond_withLink (d : Cond) (x : Link) (s : State) :
    endCond d (s.withLink x) = { s with link := x, trouble := (endCond d s).trouble } := by
  unfold endCond
  dsimp only
  by_cases h : s.trouble.endsWithAck d = true
  · rw [if_pos h]
    exact if_pos h
  · rw [if_neg h]
    exact if_neg h

theorem ownFrameOut_claim {f : Frame} (h : s.link.attempt = some { kind := .claim, frame := f }) :
    ownFrameOut s
      = { s with
          link := s.link.claimOut
          trouble := (endCond (plainCond .txFail) s).trouble } := by
  unfold ownFrameOut
  rw [h]
  exact endCond_withLink _ _ s

theorem ownClaim_ownFrameOut {f : Frame} {v : Bool} {h : Nat}
    (hattempt : s.link.attempt = some { kind := .claim, frame := f }) (hclaim : s.starts.claim = .sending c v h) :
    ownClaim (ownFrameOut s) = claimUsed c h s := by
  have htaken (x : Link) (y : Trouble) :
      ownClaim { s with link := x, trouble := y }
        = if waitsForSlot s c = true ∧ (s.ch c).target = .on ∧ s.meas.supply ≠ .fail then
            enterStarting c (raiseHoldOff h { s with link := x, trouble := y, starts := { s.starts with claim := .absent } })
          else raiseHoldOff h { s with link := x, trouble := y, starts := { s.starts with claim := .absent } } := by
    unfold ownClaim
    dsimp only
    rw [hclaim]
    rfl
  rw [ownFrameOut_claim hattempt, htaken]
  unfold claimUsed
  split
  · next hwaits =>
    obtain ⟨hslot, -, -⟩ := hwaits
    exact enterStarting_of_waits hslot
  · rfl

theorem claimUsed_keeps (c : ChannelNo) (h : Nat) (s : State) :
    claimUsed c h s = (claimTaken h s).withChans (claimUsed c h s).chans := by
  unfold claimUsed
  split <;> rfl

theorem exec_ownClaim {u v : Bool} {z : Station} {w : Word} {h : Nat} (hh : s.hears = true)
    (hattempt : s.link.attempt = some { kind := .claim, frame := { cls := if u then 3 else 4, station := z, words := [w] } })
    (hclaim : s.starts.claim = .sending c v h) :
    exec (.startClaimAccepted u z w) s = .next (claimUsed c h s) := by
  have hown : isOwnFrame { cls := claimClass u, station := z, words := [w] } s = true := by
    simp [isOwnFrame, hattempt, claimClass]
  have hblocks : ownClaim (ownFrameOut s) = claimUsed c h s := ownClaim_ownFrameOut hattempt hclaim
  have htests : startTests (claimUsed c h s) = claimUsed c h s := by
    rw [claimUsed_keeps]
    exact startTests_idle rfl rfl
  have hsettled : settleRaises s (claimUsed c h s) = claimUsed c h s := by
    rw [claimUsed_keeps]
    exact settleRaises_idle endCond_record_none
  change Host.Outcome.next (acceptFrame (isOwnFrame _ s) _ _ s) = _
  rw [hown]
  unfold acceptFrame
  rw [State.accepts_eq, if_pos hh]
  change Host.Outcome.next (settleRaises s (startTests (ownClaim (ownFrameOut s)))) = _
  rw [hblocks, htests, hsettled]

end Sys2Proof.Machine

open Sys2Proof Sys2Proof.Machine in
/-- Settles O39: the claim leaves the queue and sets the hold-off; the captured fan starts where it still waits with target
RUN and the supply not FAIL, and with the hold-off set the start tests that follow do nothing. -/
theorem ownClaimStartsTheCapturedFan : Obligations.OwnClaimStartsTheCapturedFan := by
  intro u v z w c h s hh hattempt hclaim
  have hkeeps := claimUsed_keeps c h s
  refine ⟨claimUsed c h s, exec_ownClaim hh hattempt hclaim, ?starts, ?link, ?started, ?left, ?others, ?trouble, ?tick,
    ?ended, ?inactive, ?blocks⟩
  case starts => rw [hkeeps]; rfl
  case link => rw [hkeeps]; rfl
  case started =>
    intro hslot htarget hsupply
    rw [claimUsed, if_pos ⟨hslot, htarget, hsupply⟩, State.ch_setCh, if_pos rfl]
    rfl
  case left =>
    intro hidle
    rw [claimUsed, if_neg]
    · rfl
    · rintro ⟨hslot, htarget, hsupply⟩
      rcases hidle with hnot | hfail | hoff
      · rw [hslot] at hnot; cases hnot
      · exact hsupply hfail
      · rw [htarget] at hoff; cases hoff
  case others =>
    intro d hd
    unfold claimUsed
    split
    · rw [State.ch_setCh, if_neg (Ne.symm hd)]
      rfl
    · rfl
  case trouble => rw [hkeeps]; rfl
  case tick => rw [hkeeps]; rfl
  case ended =>
    intro hacked
    rw [hkeeps]
    refine endCond_trouble s (plainCond .txFail) ?_
    cases hrecord : s.trouble.record with
    | none => simp [Trouble.endsWithAck, hrecord]
    | some r =>
      have hkept : r.acked = false := by simpa [hrecord] using hacked
      simp [Trouble.endsWithAck, hrecord, hkept]
  case inactive =>
    rw [hkeeps]
    intro hmem
    obtain ⟨-, hne⟩ := (mem_endCond s _ _).1 hmem
    exact hne rfl
  case blocks => rw [hkeeps]; exact ⟨rfl, rfl, rfl, rfl, rfl, rfl, rfl, rfl⟩
end

section
/-! The fixed-point pipeline: every division is toward zero, and the range of what each stage holds; O19 (R97, R98, R99). -/

namespace Sys2Proof.Machine

variable {k : PressureConfig} {a b : Code}

/-- A division toward zero keeps the sign of what it divides (00, Arithmetic). -/
theorem tdiv_nonpos_of_nonpos {n d : Int} (hn : n ≤ 0) (hd : 0 ≤ d) : n.tdiv d ≤ 0 := by
  have hneg : 0 ≤ (-n).tdiv d := Int.tdiv_nonneg (by omega) hd
  rw [Int.neg_tdiv] at hneg
  omega

/-- A code that is no saturation code lies strictly between the two (R89). -/
theorem toInt_range_of_not_saturation {c : Code} (h : saturationCode c = false) :
    -524287 ≤ c.toInt ∧ c.toInt ≤ 524286 := by
  have hcode : ¬(c.toInt = -524288 ∨ c.toInt = 524287) := of_decide_eq_false h
  have hlow : -524288 ≤ c.toInt := c.le_toInt
  have hhigh : c.toInt < 524288 := c.toInt_lt
  omega

/-! ### The signal and the trimmed signal (R97) -/

theorem difference_range (h : saturatedPair a b = false) :
    -1048573 ≤ a.toInt - b.toInt ∧ a.toInt - b.toInt ≤ 1048573 := by
  obtain ⟨ha, hb⟩ := Bool.or_eq_false_iff.1 h
  have hcodeA := toInt_range_of_not_saturation ha
  have hcodeB := toInt_range_of_not_saturation hb
  omega

theorem natAbs_signal : (signal a b).natAbs = (a.toInt - b.toInt).natAbs / 2 := Int.natAbs_tdiv _ _

theorem signal_range (h : saturatedPair a b = false) : -524286 ≤ signal a b ∧ signal a b ≤ 524286 := by
  have hdifference := difference_range h
  have hhalf := natAbs_signal (a := a) (b := b)
  omega

theorem trimmed_range (hk : PressureLaw k) (h : saturatedPair a b = false) :
    -526333 ≤ signal a b - k.trim ∧ signal a b - k.trim ≤ 526333 := by
  obtain ⟨-, htrim, -⟩ := hk
  have hsignal := signal_range h
  omega

/-! ### The product with the gain and the scaled value (R98) -/

/-- The largest product is that of the largest trimmed signal and the largest gain, 526333 × 65535. -/
theorem product_le (hk : PressureLaw k) (h : saturatedPair a b = false) :
    (signal a b - k.trim).natAbs * k.gain ≤ 34493233155 := by
  have hrange := trimmed_range hk h
  obtain ⟨⟨-, hgain⟩, -⟩ := hk
  have htrimmed : (signal a b - k.trim).natAbs ≤ 526333 := by omega
  exact Nat.mul_le_mul htrimmed hgain

theorem natAbs_scaled : (scaled k a b).natAbs = (signal a b - k.trim).natAbs * k.gain / 65536 := by
  unfold scaled
  rw [Int.natAbs_tdiv, Int.natAbs_mul]
  rfl

theorem scaled_nonneg (h : 0 ≤ signal a b - k.trim) : 0 ≤ scaled k a b :=
  Int.tdiv_nonneg (Int.mul_nonneg h (Int.natCast_nonneg _)) (by decide)

theorem scaled_nonpos (h : signal a b - k.trim ≤ 0) : scaled k a b ≤ 0 :=
  tdiv_nonpos_of_nonpos (Int.mul_nonpos_of_nonpos_of_nonneg h (Int.natCast_nonneg _)) (by decide)

/-- The gain is below 65536, so scaling never enlarges. -/
theorem natAbs_scaled_le (hk : PressureLaw k) : (scaled k a b).natAbs ≤ (signal a b - k.trim).natAbs := by
  obtain ⟨⟨-, hgain⟩, -⟩ := hk
  rw [natAbs_scaled]
  calc (signal a b - k.trim).natAbs * k.gain / 65536
      ≤ (signal a b - k.trim).natAbs * 65536 / 65536 := Nat.div_le_div_right (Nat.mul_le_mul_left _ (by omega))
    _ = (signal a b - k.trim).natAbs := Nat.mul_div_cancel _ (by decide)

theorem scaled_range (hk : PressureLaw k) (h : saturatedPair a b = false) :
    -526324 ≤ scaled k a b ∧ scaled k a b ≤ 526324 := by
  have hproduct := product_le hk h
  have habs := natAbs_scaled (k := k) (a := a) (b := b)
  omega

end Sys2Proof.Machine

open Sys2Proof Sys2Proof.Machine in
/-- Settles O19: stage by stage, each division by the magnitude and the sign of its quotient. -/
theorem pipelineBounds : Obligations.PipelineBounds := by
  intro k a b hk hvalid
  obtain ⟨hsignalLow, hsignalHigh⟩ := signal_range hvalid
  obtain ⟨hscaledLow, hscaledHigh⟩ := scaled_range hk hvalid
  refine ⟨natAbs_signal, fun hpos => Int.tdiv_nonneg hpos (by decide), fun hneg => tdiv_nonpos_of_nonpos hneg (by decide),
    difference_range hvalid, hsignalLow, hsignalHigh, trimmed_range hk hvalid, product_le hk hvalid, natAbs_scaled,
    scaled_nonneg, scaled_nonpos, natAbs_scaled_le hk, hscaledLow, hscaledHigh, rfl, ?lower, ?upper⟩
  case lower => exact le_max_left _ _
  case upper => exact max_le (by decide) (min_le_left _ _)
end

section
/-! The comparator: it counts the pairs in a row in the band opposite to its decision, and changes at the fourth; O20
(R100). -/

namespace Sys2Proof.Machine

/-! ### The bands -/

theorem bandOf_iff (k : PressureConfig) (p : Int) :
    let q := if k.negative then -p else p
    (bandOf k p = .high ↔ (k.threshold : Int) ≤ q)
      ∧ (bandOf k p = .dead ↔ (k.threshold : Int) - k.hysteresis ≤ q ∧ q < k.threshold)
      ∧ (bandOf k p = .low ↔ q < (k.threshold : Int) - k.hysteresis) := by
  dsimp only [bandOf]
  generalize (if k.negative then -p else p) = q
  split
  · simp only [reduceCtorEq, true_iff, false_iff]
    omega
  · split <;> simp only [reduceCtorEq, true_iff, false_iff] <;> omega

/-! ### One pair -/

/-- The table's rows for a comparator that holds unproven. -/
theorem applyBand_unproven {x : PressureState} (b : Band) (hx : x.proven = false) (hcount : x.provenCount ≤ 3) :
    applyBand b x =
      if b = .high then
        (if x.provenCount = 3 then { x with proven := true, provenCount := 0 }
         else { x with provenCount := x.provenCount + 1 })
      else { x with provenCount := 0 } := by
  have hfourth : 3 ≤ x.provenCount ↔ x.provenCount = 3 := by omega
  unfold applyBand
  rw [if_neg (by simp [hx])]
  cases b <;> simp [hfourth]

/-- The table's rows for a comparator that holds proven. -/
theorem applyBand_proven {x : PressureState} (b : Band) (hx : x.proven = true) (hcount : x.unprovenCount ≤ 3) :
    applyBand b x =
      if b = .low then
        (if x.unprovenCount = 3 then { x with proven := false, unprovenCount := 0 }
         else { x with unprovenCount := x.unprovenCount + 1 })
      else { x with unprovenCount := 0 } := by
  have hfourth : 3 ≤ x.unprovenCount ↔ x.unprovenCount = 3 := by omega
  unfold applyBand
  rw [if_pos hx]
  cases b <;> simp [hfourth]

/-! ### A run of pairs -/

/-- The band opposite to the decision of a comparator. -/
def PressureState.opposite (x : PressureState) : Band := if x.proven then .low else .high

/-- The comparator with n pairs counted toward the change of its decision. -/
def PressureState.counted (x : PressureState) (n : Nat) : PressureState :=
  if x.proven then { x with unprovenCount := n } else { x with provenCount := n }

/-- The comparator after a run of pairs. -/
def PressureState.run (x : PressureState) (bs : List Band) : PressureState := bs.foldl (fun y b => applyBand b y) x

theorem counted_proven (x : PressureState) (n : Nat) : (x.counted n).proven = x.proven := by
  unfold PressureState.counted
  split <;> rfl

theorem counted_zero {x : PressureState} (hproven : x.provenCount = 0) (hunproven : x.unprovenCount = 0) :
    x.counted 0 = x := by
  unfold PressureState.counted
  split
  · rw [← hunproven]
  · rw [← hproven]

/-- One pair, for either decision: the opposite band counts, up to the fourth pair, and any other restarts the count. -/
theorem applyBand_counted (x : PressureState) (b : Band) {n : Nat} (hn : n ≤ 3) :
    applyBand b (x.counted n)
      = if b = x.opposite then (if n = 3 then { x.counted 0 with proven := !x.proven } else x.counted (n + 1))
        else x.counted 0 := by
  cases hx : x.proven with
  | false =>
    simp only [PressureState.counted, PressureState.opposite, hx, Bool.false_eq_true, if_false]
    rw [applyBand_unproven b rfl hn]
    rfl
  | true =>
    simp only [PressureState.counted, PressureState.opposite, hx, if_true]
    rw [applyBand_proven b rfl hn]
    rfl

/-- Fewer than four pairs in all only count. -/
theorem run_counted (x : PressureState) (bs : List Band) {n : Nat} (h : n + bs.length < 4) :
    ∃ m ≤ 3, (x.counted n).run bs = x.counted m := by
  induction bs generalizing n with
  | nil => exact ⟨n, by omega, rfl⟩
  | cons b bs ih =>
    rw [List.length_cons] at h
    change ∃ m ≤ 3, (applyBand b (x.counted n)).run bs = x.counted m
    rw [applyBand_counted x b (by omega), if_neg (show n ≠ 3 by omega)]
    split
    · exact ih (by omega)
    · exact ih (by omega)

/-- Four pairs in a row in the opposite band change the decision. -/
theorem run_opposite (x : PressureState) :
    (x.counted 0).run (List.replicate 4 x.opposite) = { x.counted 0 with proven := !x.proven } := by
  have hcounts {n : Nat} (hn : n < 3) : applyBand x.opposite (x.counted n) = x.counted (n + 1) := by
    rw [applyBand_counted x _ (by omega), if_pos rfl, if_neg (by omega)]
  change applyBand _ (applyBand _ (applyBand _ (applyBand _ (x.counted 0)))) = _
  rw [hcounts (by decide), hcounts (by decide), hcounts (by decide), applyBand_counted x _ le_rfl, if_pos rfl, if_pos rfl]

end Sys2Proof.Machine

open Sys2Proof Sys2Proof.Machine in
/-- Settles O20: from counts of 0 a run of fewer than four pairs only counts toward the change, so that a fourth pair in a
row changes the decision and any other pair restarts the count. -/
theorem comparatorNeedsFourPairs : Obligations.ComparatorNeedsFourPairs := by
  intro k p x hproven hunproven
  refine ⟨bandOf_iff k p, fun b hx => applyBand_unproven b hx hproven, fun b hx => applyBand_proven b hx hunproven, ?_⟩
  intro hzero hzero'
  have hstart : x.counted 0 = x := counted_zero hzero hzero'
  have hrun {bs : List Band} (hlen : bs.length < 4) : ∃ m ≤ 3, x.run bs = x.counted m := by
    have hcounted := run_counted x bs (n := 0) (by omega)
    rwa [hstart] at hcounted
  refine ⟨fun bs hlen => ?short, ?four, fun bs b hlen hb => ?other⟩
  case short =>
    obtain ⟨m, -, hm⟩ := hrun hlen
    change (x.run bs).proven = x.proven
    rw [hm, counted_proven]
  case four =>
    have hfour := run_opposite x
    rwa [hstart] at hfour
  case other =>
    have hnot : b ≠ x.opposite := hb
    obtain ⟨m, hle, hm⟩ := hrun hlen
    rw [List.foldl_append]
    change applyBand b (x.run bs) = x
    rw [hm, applyBand_counted x b hle, if_neg hnot, hstart]
end

section
/-! A supply sample: the table of the supply state, its two conditions, and what entry to FAIL and exit from it do to fan
starting; O59 (R84, R102 to R105, with R72, R75, R78). -/

namespace Sys2Proof.Machine

variable {s t : State} {c : ChannelNo}

/-! ### The reading and the table (R102, R103) -/

theorem supplyReading_eq (gain : Nat) (k : Code) :
    supplyReading gain k = min 400 ((max 0 k.toInt).toNat * gain / 65536) := by
  have hcode : (max 0 k.toInt).toNat = k.toInt.toNat := by omega
  rw [hcode]
  exact Nat.zero_max _

/-- The five columns of the table. -/
theorem nextSupply_table (x : Supply) (v : Nat) :
    (v < 160 → nextSupply x v = .fail)
      ∧ (160 ≤ v → v < 170 → nextSupply x v = if x = .fail then .fail else .low)
      ∧ (170 ≤ v → v < 204 → nextSupply x v = .low)
      ∧ (204 ≤ v → v < 210 → nextSupply x v = if x = .normal then .normal else .low)
      ∧ (210 ≤ v → nextSupply x v = .normal) := by
  unfold nextSupply
  refine ⟨fun h => if_pos h, fun h h' => ?keepsFail, fun h h' => ?toLow, fun h h' => ?keepsNormal, fun h => ?toNormal⟩
  case toNormal => rw [if_neg (by omega), if_pos h]
  case keepsFail | toLow | keepsNormal =>
    rw [if_neg (by omega), if_neg (by omega)]
    cases x <;> simp <;> omega

/-! ### The conditions of the supply state (R104) -/

theorem masked_fieldSupplyFail (s : State) : masked (plainCond .fieldSupplyFail) s = false := rfl

theorem masked_fieldSupplyLow (s : State) : masked (plainCond .fieldSupplyLow) s = false := rfl

theorem fieldSupplyFail_ne_fieldSupplyLow : plainCond .fieldSupplyFail ≠ plainCond .fieldSupplyLow := by decide

theorem fieldSupplyFail_mem_followSupply (x : Supply) (s : State) :
    plainCond .fieldSupplyFail ∈ (followSupply x s).trouble.active ↔ x = .fail := by
  have hne := fieldSupplyFail_ne_fieldSupplyLow
  cases x with
  | normal => simp [followSupply, mem_endCond]
  | low => simp [followSupply, mem_raise_iff, mem_endCond, hne]
  | fail => simp [followSupply, mem_raise_iff, masked_fieldSupplyFail]

theorem fieldSupplyLow_mem_followSupply (x : Supply) (s : State) :
    plainCond .fieldSupplyLow ∈ (followSupply x s).trouble.active ↔ x ≠ .normal := by
  cases x with
  | normal => simp [followSupply, mem_endCond]
  | low | fail => simp [followSupply, mem_raise_iff, masked_fieldSupplyLow]

/-- Entry to FAIL raises both, FIELD-SUPPLY-FAIL first, so an empty record takes that one. -/
theorem followSupply_fail_record (hrecord : s.trouble.record = none) (hactive : s.trouble.active = []) :
    (followSupply .fail s).trouble.record.map (·.cond) = some (plainCond .fieldSupplyFail) := by
  have hfilled := raise_trouble s (plainCond .fieldSupplyFail) (masked_fieldSupplyFail s) (by simp [hactive])
  rw [if_pos hrecord] at hfilled
  unfold followSupply
  rw [raise_record _ _ (by rw [hfilled]; rfl), hfilled]
  rfl

/-! ### The start tests, case by case (R72, R75, R78) -/

theorem withdrawClaim_trouble (s : State) : (withdrawClaim s).trouble = s.trouble := by
  unfold withdrawClaim
  split <;> rfl

theorem isolatedTest_trouble (s : State) : (isolatedTest s).trouble = s.trouble := by
  unfold isolatedTest
  split
  · rfl
  · next c hc =>
    split
    · change (withdrawClaim (enterStarting c s)).trouble = s.trouble
      rw [withdrawClaim_trouble, enterStarting_of_waits (List.find?_some hc)]
      rfl
    · rfl

theorem startTests_trouble (s : State) : (startTests s).trouble = s.trouble :=
  (isolatedTest_trouble _).trans (claimTest_trouble s)

theorem withdrawClaim_claim_ne_queued (s : State) : (withdrawClaim s).starts.claim ≠ .queued := by
  unfold withdrawClaim
  split
  · exact ClaimRecord.noConfusion
  · next h => exact h

theorem withdrawClaim_claim_of_unsent (h : s.starts.claim.isSending = false) : (withdrawClaim s).starts.claim = .absent := by
  unfold withdrawClaim
  split
  · rfl
  · next hne =>
    cases hclaim : s.starts.claim with
    | absent => rfl
    | queued => exact absurd hclaim hne
    | sending => rw [hclaim] at h; cases h

/-- Under FAIL a queued claim is withdrawn, and nothing is claimed or started (R75, R84). -/
theorem startTests_of_fail (h : s.meas.supply = .fail) : startTests s = withdrawClaim s := by
  obtain ⟨-, -, -, hmeas, -⟩ := lessSequencing_eq (withdrawClaim_lessSequencing s)
  have hfail : (withdrawClaim s).meas.supply = .fail := by rw [hmeas, h]
  have hwithdraw : withdrawTest s = withdrawClaim s := if_pos (.inr h)
  have hclaim : claimTest (withdrawClaim s) = withdrawClaim s := if_neg fun ⟨_, _, _, hsupplied, _⟩ => hsupplied hfail
  unfold startTests
  rw [hwithdraw, hclaim]
  rcases isolatedTest_cases (withdrawClaim s) with hidle | ⟨d, -, -, -, -, hsupplied, -⟩
  · exact hidle
  · exact absurd hfail hsupplied

/-- While a fan waits and the supply is not FAIL, no claim is withdrawn (R75). -/
theorem withdrawTest_idle (hwaits : lowestWaiting s ≠ none) (hsupply : s.meas.supply ≠ .fail) : withdrawTest s = s :=
  if_neg <| by
    rintro (hnone | hfail)
    · exact hwaits (Option.isNone_iff_eq_none.1 hnone)
    · exact hsupply hfail

/-- A node claims its starts or makes them in isolation, never both (R72, R78). -/
theorem not_apart_of_claiming (hmode : s.ctl.mode = .active) (htx : s.link.txFail = false) :
    ¬(s.ctl.mode = .mute ∨ s.link.txFail = true) := by
  simp [hmode, htx]

/-- In ACTIVE, with the transmitter working, a waiting fan's claim is queued (R72). -/
theorem startTests_claims (hwaits : lowestWaiting s ≠ none) (hsupply : s.meas.supply ≠ .fail) (hmode : s.ctl.mode = .active)
    (htx : s.link.txFail = false) (hstarts : s.starts = { holdOff := none, claim := .absent }) :
    startTests s = (s.setQueued .claim true).withStarts { holdOff := none, claim := .queued } := by
  have hclaim : claimTest s = (s.setQueued .claim true).withStarts { s.starts with claim := .queued } :=
    if_pos ⟨by rw [hstarts], Option.isSome_iff_ne_none.2 hwaits, by rw [hstarts], hsupply, hmode, htx⟩
  unfold startTests
  rw [withdrawTest_idle hwaits hsupply, hclaim, hstarts]
  rcases isolatedTest_cases ((s.setQueued .claim true).withStarts { holdOff := none, claim := .queued })
    with hidle | ⟨d, -, -, hapart, -⟩
  · exact hidle
  · exact absurd hapart (not_apart_of_claiming hmode htx)

/-- In MUTE or under TX-FAIL the lowest waiting fan starts in isolation (R78). -/
theorem startTests_isolated (hwaits : lowestWaiting s = some c) (hsupply : s.meas.supply ≠ .fail)
    (hrunning : s.sequencing = true) (hapart : s.ctl.mode = .mute ∨ s.link.txFail = true)
    (hstopped : s.starts.holdOff = none) (hunsent : s.starts.claim.isSending = false) :
    (∀ d : ChannelNo, (startTests s).ch d = if c = d then startedChannel c s else s.ch d)
      ∧ (startTests s).starts = { holdOff := some s.ownHoldOff, claim := .absent } := by
  have hclaim : claimTest s = s := if_neg fun ⟨_, _, _, _, hmode, htx⟩ => not_apart_of_claiming hmode htx hapart
  have hslot : waitsForSlot s c = true := List.find?_some hwaits
  have hne : lowestWaiting s ≠ none := by rw [hwaits]; exact Option.some_ne_none c
  unfold startTests isolatedTest
  rw [withdrawTest_idle hne hsupply, hclaim, hwaits]
  dsimp only
  rw [if_pos ⟨hrunning, hapart, hstopped, hsupply, hunsent⟩, enterStarting_of_waits hslot]
  obtain ⟨hctl, -⟩ := lessSequencing_eq (withdrawClaim_lessSequencing (s.setCh c (startedChannel c s)))
  refine ⟨fun d => ?_, ?_⟩
  · rw [State.ch, State.withStarts_chans, withdrawClaim_chans]
    exact State.ch_setCh s c d _
  · rw [State.withStarts_starts, withdrawClaim_claim_of_unsent (s := s.setCh c (startedChannel c s)) hunsent,
      State.ownHoldOff, State.cfg, hctl]
    rfl

/-! ### The supply state moves and is reported before fan starting follows it (R84, R103, R104) -/

/-- The node once the scan has begun anew and the reading has moved the supply state, its conditions not yet followed. -/
def supplied (v : Nat) (s : State) : State :=
  s.withMeas { s.meas with scan := scanFrom s 0, supply := nextSupply s.meas.supply v }

theorem exec_supplySample (k : Code) (hreset : s.inReset = false) (hscan : s.meas.scan = .supply) :
    exec (.supplySample k) s
      = .next (supplyEvent (supplyReading s.cfg.supplyGain k) (setScan (scanFrom s 0) s)) := by
  change Host.Outcome.next (s.outside _) = _
  rw [State.outside, hreset, if_neg Bool.false_ne_true, hscan]

theorem supplyEvent_setScan_of_eq (v : Nat) (h : nextSupply s.meas.supply v = s.meas.supply) :
    supplyEvent v (setScan (scanFrom s 0) s) = s.withMeas { s.meas with scan := scanFrom s 0 } := if_pos h

theorem supplyEvent_setScan_of_ne (v : Nat) (h : nextSupply s.meas.supply v ≠ s.meas.supply) :
    supplyEvent v (setScan (scanFrom s 0) s)
      = startTests (followSupply (nextSupply s.meas.supply v) (supplied v s)) := if_neg h

theorem supplyEvent_setScan_lessSequencing (v : Nat) (s : State) :
    (supplyEvent v (setScan (scanFrom s 0) s)).lessSequencing = (supplied v s).lessSequencing :=
  supplyEvent_lessSequencing _ v

theorem supplyEvent_setScan_meas (v : Nat) (s : State) :
    (supplyEvent v (setScan (scanFrom s 0) s)).meas
      = { s.meas with scan := scanFrom s 0, supply := nextSupply s.meas.supply v } := by
  obtain ⟨-, -, -, hmeas, -⟩ := lessSequencing_eq (supplyEvent_setScan_lessSequencing v s)
  exact hmeas

theorem lowestWaiting_congr (h : t.chans = s.chans) : lowestWaiting t = lowestWaiting s := by
  unfold lowestWaiting waitsForSlot State.ch
  rw [h]

/-- What a started fan becomes reads configuration, channels and comparators alone (R63, R79). -/
theorem startedChannel_congr (hctl : t.ctl = s.ctl) (hchans : t.chans = s.chans)
    (hpressure : t.meas.channels = s.meas.channels) : startedChannel c t = startedChannel c s := by
  unfold startedChannel provingLevel State.pressure State.chCfg State.cfg State.ch
  rw [hctl, hchans, hpressure]

/-- What fan starting reads of the node is not moved by the change of the supply state and its conditions. -/
theorem followSupply_supplied_keeps (x : Supply) (v : Nat) (s : State) :
    let u := followSupply x (supplied v s)
    u.ctl = s.ctl ∧ u.chans = s.chans ∧ u.starts = s.starts ∧ u.link.txFail = s.link.txFail
      ∧ u.meas = (supplied v s).meas := by
  have hreports := followSupply_lessReports (supplied v s) x
  obtain ⟨hctl, -, -, hchans, hstarts, hmeas, -⟩ := lessReports_eq hreports
  obtain ⟨-, -, -, -, htx, -⟩ := lessReports_eq_link hreports
  exact ⟨hctl, hchans, hstarts, htx, hmeas⟩

end Sys2Proof.Machine

open Sys2Proof Sys2Proof.Machine in
/-- Settles O59: the table moves the supply state; on a change the conditions follow it, and then the start tests, each
case of which is one of the lemmas above. -/
theorem supplySampleMovesTheSupply : Obligations.SupplySampleMovesTheSupply := by
  intro k v s hreset hscan hv
  have hreading : supplyReading s.cfg.supplyGain k = v := by rw [supplyReading_eq, hv]
  have hexec := exec_supplySample k hreset hscan
  rw [hreading] at hexec
  have hmeas := supplyEvent_setScan_meas v s
  have hframe := supplyEvent_setScan_lessSequencing v s
  obtain ⟨hbelow160, hbelow170, hbelow204, hbelow210, habove⟩ := nextSupply_table s.meas.supply v
  obtain ⟨hctl, hchans, hstarts, htx, hread⟩ := followSupply_supplied_keeps (nextSupply s.meas.supply v) v s
  refine ⟨_, hexec, ?_⟩
  rw [hmeas]
  refine ⟨hbelow160, hbelow170, hbelow204, hbelow210, habove, rfl, rfl, ?conditions, ?record, ?unchanged, ?entry, ?claim,
    ?isolated, hframe⟩
  case conditions =>
    intro hne
    rw [supplyEvent_setScan_of_ne v hne, startTests_trouble]
    exact ⟨fieldSupplyFail_mem_followSupply _ _, fieldSupplyLow_mem_followSupply _ _⟩
  case record =>
    rintro ⟨-, -, -, hempty, -⟩ hfail hnot hrecord
    have hnext : nextSupply s.meas.supply v = .fail := hfail
    rw [supplyEvent_setScan_of_ne v fun heq => hnot (heq.symm.trans hfail), startTests_trouble, hnext]
    exact followSupply_fail_record hrecord (hempty hrecord)
  case unchanged => exact supplyEvent_setScan_of_eq v
  case entry =>
    intro hfail hnot
    have hsupply : (supplied v s).meas.supply = .fail := hfail
    rw [supplyEvent_setScan_of_ne v fun heq => hnot (heq.symm.trans hfail), startTests_of_fail (by rw [hread, hsupply])]
    exact ⟨withdrawClaim_claim_ne_queued _, by rw [withdrawClaim_chans, hchans]⟩
  case claim =>
    intro hfail hnot hmode htxFail hstopped hwaits
    rw [supplyEvent_setScan_of_ne v fun heq => hnot (heq.trans hfail), startTests_claims]
    · exact ⟨rfl, rfl⟩
    · rwa [lowestWaiting_congr hchans]
    · rw [hread]; exact hnot
    · rw [hctl, hmode]
    · rw [htx, htxFail]
    · rw [hstarts, hstopped]
  case isolated =>
    intro c hfail hnot hrunning hapart hstopped hunsent hwaits
    have hsequencing : (followSupply (nextSupply s.meas.supply v) (supplied v s)).sequencing = true := by
      rw [State.sequencing, hctl]; exact hrunning
    obtain ⟨hstarted, htimer⟩ := startTests_isolated (by rwa [lowestWaiting_congr hchans]) (by rw [hread]; exact hnot)
      hsequencing (by rwa [hctl, htx]) (by rw [hstarts, hstopped]) (by rw [hstarts, hunsent])
    rw [supplyEvent_setScan_of_ne v fun heq => hnot (heq.trans hfail)]
    refine ⟨?_, fun d hd => ?_, ?_⟩
    · rw [hstarted, if_pos rfl, startedChannel_congr hctl hchans (by rw [hread]; rfl)]
      rfl
    · rw [hstarted, if_neg hd.symm, State.ch, hchans]
      rfl
    · rw [htimer, State.ownHoldOff, State.cfg, hctl]
      rfl
end

section
/-! A recompute while the hold-off runs and no claim is present: it moves nothing of the start logic, and no channel where
role, assist flag and targets stand already (R29, R40, R71, R78). -/

namespace Sys2Proof.Machine

variable {s t : State}

/-! ### Claims and the start tests alone move the start logic -/

/-- The start logic, with the place of its frame in the queue (R71, R72, R148). -/
def State.spacing (s : State) : StartLogic × Bool := (s.starts, s.link.queue.claim)

theorem spacing_of_lessReports (h : t.lessReports = s.lessReports) : t.spacing = s.spacing := by
  obtain ⟨-, -, -, -, hstarts, -⟩ := lessReports_eq h
  obtain ⟨-, -, -, -, -, -, -, hclaim, -⟩ := lessReports_eq_link h
  exact Prod.ext hstarts hclaim

@[simp] theorem setSeq_spacing (c : ChannelNo) (q : Sequencer) (s : State) : (setSeq c q s).spacing = s.spacing :=
  (spacing_of_lessReports (setSeq_lessReports s c q)).trans rfl

@[simp] theorem enterStopped_spacing (c : ChannelNo) (s : State) : (enterStopped c s).spacing = s.spacing := by
  unfold enterStopped
  split <;> exact setSeq_spacing ..

@[simp] theorem enterStopping_spacing (c : ChannelNo) (s : State) : (enterStopping c s).spacing = s.spacing := by
  unfold enterStopping
  split
  · exact enterStopped_spacing c s
  · exact setSeq_spacing ..

@[simp] theorem fanTarget_spacing (c : ChannelNo) (s : State) : (fanTarget c s).spacing = s.spacing := by
  unfold fanTarget
  split <;> simp

@[simp] theorem fanRole_spacing (c : ChannelNo) (s : State) : (fanRole c s).spacing = s.spacing := by
  unfold fanRole
  split
  case h_1 | h_2 => split <;> simp
  case h_3 | h_4 => simp

@[simp] theorem fanNotice_spacing (a b : Bool) (c : ChannelNo) (s : State) : (fanNotice a b c s).spacing = s.spacing := by
  cases a <;> cases b <;> simp [fanNotice]

@[simp] theorem interlockEvent_spacing (d c : ChannelNo) (s : State) : (interlockEvent d s c).spacing = s.spacing := by
  unfold interlockEvent
  split
  · split
    case h_1 | h_2 | h_4 => simp
    case h_3 => split <;> simp
  · rfl

@[simp] theorem setTravel_spacing (c : ChannelNo) (q : Sequencer) (s : State) : (setTravel c q s).spacing = s.spacing := by
  have hnotice (u : State) : (interlockNotice c u).spacing = u.spacing :=
    foldl_keeps u State.spacing _ (fun v e => interlockEvent_spacing c e v) allChannels
  have hpassed (b : Bool) (u : State) : (if b then interlockNotice c u else u).spacing = u.spacing := by
    cases b
    · rfl
    · exact hnotice u
  exact (hpassed _ _).trans (setSeq_spacing c q s)

@[simp] theorem damperTarget_spacing (c : ChannelNo) (s : State) : (damperTarget c s).spacing = s.spacing := by
  unfold damperTarget
  split
  case h_1 => split <;> simp
  case h_2 | h_3 => simp

@[simp] theorem setContain_spacing (st : ContainState) (g : Option Nat) (s : State) :
    (setContain st g s).spacing = s.spacing :=
  (spacing_of_lessReports (setContain_lessReports s st g)).trans rfl

@[simp] theorem containRole_spacing (a b : ZoneRole) (s : State) : (containRole a b s).spacing = s.spacing := by
  have hderive : (deriveContain s).spacing = s.spacing := by
    unfold deriveContain
    split
    · exact setContain_spacing ..
    · split <;> exact setContain_spacing ..
  unfold containRole
  split
  · split
    · rfl
    · exact hderive
  · exact setContain_spacing ..

/-! ### A recompute by its parts -/

/-- The channels whose target a recompute changes, once role and assist flag are written (R40). -/
def changedTargets (s : State) : List ChannelNo :=
  allChannels.filter (fun c => decide (newTarget s c ≠ (s.ch c).target))

/-- A recompute's notices to the composer and the monitor, where the role has changed, and to the sequencers (R30, R40). -/
def noticed (changed : List ChannelNo) (roleChanged : Bool) (old new : ZoneRole) (s : State) : State :=
  allChannels.foldl (fun s c => fanNotice (decide (c ∈ changed)) roleChanged c s)
    (changed.foldl (fun s c => damperTarget c s) (if roleChanged then containRole old new (statusNotice s) else s))

theorem recompute_eq (ha : s.ctl.mode.applies = true) :
    recompute s = startTests (noticed (changedTargets (derived s)) (decide (deriveRole s ≠ s.role.role)) s.role.role
      (deriveRole s) (retargeted (derived s))) := if_pos ha

@[simp] theorem noticed_spacing (changed : List ChannelNo) (roleChanged : Bool) (old new : ZoneRole) (s : State) :
    (noticed changed roleChanged old new s).spacing = s.spacing := by
  have hroles : (if roleChanged then containRole old new (statusNotice s) else s).spacing = s.spacing := by
    cases roleChanged
    · rfl
    · exact (containRole_spacing ..).trans (spacing_of_lessReports (statusNotice_lessReports s))
  unfold noticed
  rw [foldl_keeps _ State.spacing _ (fun u c => fanNotice_spacing (decide (c ∈ changed)) roleChanged c u),
    foldl_keeps _ State.spacing _ (fun u c => damperTarget_spacing c u), hroles]

/-- With no target and no role changed there is nobody to tell. -/
theorem noticed_nil (old new : ZoneRole) (s : State) : noticed [] false old new s = s :=
  foldl_keeps s id _ (fun _ _ => rfl) allChannels

@[simp] theorem retargeted_spacing (s : State) : (retargeted s).spacing = s.spacing :=
  foldl_keeps s State.spacing (fun u c => replaceTarget c (newTarget u c) u) (fun _ _ => rfl) _

/-! ### A spaced node -/

/-- The hold-off runs and no claim is present, so nothing is claimed, withdrawn or started (R71, R72, R75, R78). -/
structure Spaced (s : State) : Prop where
  claim  : s.starts.claim = .absent
  queued : s.link.queue.claim = false
  runs   : s.starts.holdOff.isSome = true

theorem Spaced.kept (h : Spaced s) (k : t.spacing = s.spacing) : Spaced t := by
  obtain ⟨hstarts, hqueued⟩ := Prod.ext_iff.1 k
  change t.starts = s.starts at hstarts
  exact ⟨by rw [hstarts, h.claim], hqueued.trans h.queued, by rw [hstarts, h.runs]⟩

theorem Spaced.startTests_eq (h : Spaced s) : startTests s = s := startTests_idle h.claim h.runs

theorem Spaced.recompute_spacing (h : Spaced s) : (recompute s).spacing = s.spacing := by
  cases ha : s.ctl.mode.applies with
  | false => rw [recompute_idle s ha]
  | true =>
    have hkept (b : Bool) : (noticed (changedTargets (derived s)) b s.role.role (deriveRole s)
        (retargeted (derived s))).spacing = s.spacing := by
      rw [noticed_spacing, retargeted_spacing]
      rfl
    rw [recompute_eq ha, (h.kept (hkept _)).startTests_eq, hkept]

/-! ### A recompute of a node whose roles stand -/

/-- Role, assist flag and every target are what the node gives (R28, R38, R40); of FIRE-MODE nothing is said. -/
structure RolesStand (s : State) : Prop where
  role   : s.role.role = deriveRole s
  assist : s.role.assist = deriveAssist s.role.role s
  target : ∀ c : ChannelNo, (s.ch c).target = newTarget s c

theorem rolesStand_of_roleLaw (h : RoleLaw s) (ha : s.ctl.mode.applies = true) : RolesStand s := by
  obtain ⟨happlied, -⟩ := h
  obtain ⟨hrole, hassist, htarget, -⟩ := happlied ha
  exact ⟨hrole, hassist, htarget⟩

theorem RolesStand.kept (h : RolesStand s) (k : ResolverKept s t) : RolesStand t where
  role := by rw [k.role, k.deriveRole, h.role]
  assist := by rw [k.role, k.deriveAssist, ← h.assist]
  target c := by rw [k.target, newTarget_congr k.role k.config (k.target c), h.target]

/-- FIRE-MODE is all that the recompute writes before the start tests. -/
theorem RolesStand.derived_eq (h : RolesStand s) :
    derived s = s.withRole { s.role with fireMode := deriveFireMode s } := by
  rw [derived, ← h.role, ← h.assist]

/-- No target changes and neither does the role, so the recompute tells nobody (R29, R40). -/
theorem RolesStand.recompute_eq (h : RolesStand s) (ha : s.ctl.mode.applies = true) :
    recompute s = startTests (derived s) := by
  have htarget (c : ChannelNo) : newTarget (derived s) c = ((derived s).ch c).target := by
    rw [h.derived_eq]
    exact (h.target c).symm
  have hchanged : changedTargets (derived s) = [] := by simp [changedTargets, htarget]
  have hretarget : retargeted (derived s) = derived s := by
    change (changedTargets (derived s)).foldl _ _ = _
    rw [hchanged]
    rfl
  have hrole : decide (deriveRole s ≠ s.role.role) = false := by simp [h.role]
  rw [Machine.recompute_eq ha, hchanged, hretarget, hrole, noticed_nil]

theorem RolesStand.recompute_chans (h : RolesStand s) (hs : Spaced s) : (recompute s).chans = s.chans := by
  cases ha : s.ctl.mode.applies with
  | false => rw [recompute_idle s ha]
  | true =>
    rw [h.recompute_eq ha, startTests_chans (derived s) hs.runs]
    rfl

end Sys2Proof.Machine
end

section
/-! A peer's claim: the link's part of the frame, the hold-off, and the entry to MUTE under own station number; O38 (R76,
R136, R171). -/

namespace Sys2Proof.Machine

variable {s t : State} {z : Station} {w : Word} {n : Nat}

/-! ### Conflict evidence at a spaced node (R171) -/

/-- The node that has entered MUTE, with its queue emptied and nothing reported yet. -/
def muteEntered (o : Origin) (s : State) : State :=
  let u := emptyQueue (setMode .mute (s.withCtl
    { s.ctl with listenTimer := none, quietTimer := some quietTime, origin := some o }))
  u.withStatus { u.status with period := none }

/-- The node that has reported its entry to MUTE, before the recompute. -/
def muteReported (o : Origin) (s : State) : State := raise (plainCond .stationConflict) (muteEntered o s)

theorem muteReported_lessReports (o : Origin) (s : State) : (muteReported o s).lessReports = (muteEntered o s).lessReports :=
  raise_lessReports _ _

theorem enterMute_eq (o : Origin) (s : State) : enterMute o s = startTests (recompute (muteReported o s)) := rfl

theorem muteReported_resolverKept (o : Origin) (s : State) : ResolverKept s (muteReported o s) :=
  have hentered : ResolverKept s (muteEntered o s) := ⟨⟨rfl, rfl, rfl, rfl, rfl, rfl, rfl⟩, rfl, fun _ => rfl⟩
  hentered.trans (.of_lessReports (muteReported_lessReports o s))

theorem muteReported_chans (o : Origin) (s : State) : (muteReported o s).chans = s.chans := by
  obtain ⟨-, -, -, hchans, -⟩ := lessReports_eq (muteReported_lessReports o s)
  exact hchans

theorem muteReported_spacing (o : Origin) (h : Spaced s) : (muteReported o s).spacing = s.spacing := by
  refine (spacing_of_lessReports (muteReported_lessReports o s)).trans (Prod.ext ?_ h.queued.symm)
  change { s.starts with claim := .absent } = s.starts
  rw [← h.claim]

theorem enterMute_eq_of_spaced (o : Origin) (h : Spaced s) :
    Spaced (muteReported o s) ∧ enterMute o s = recompute (muteReported o s) := by
  have hspaced : Spaced (muteReported o s) := h.kept (muteReported_spacing o h)
  rw [enterMute_eq, (hspaced.kept hspaced.recompute_spacing).startTests_eq]
  exact ⟨hspaced, rfl⟩

theorem evidence_spacing (ha : s.ctl.mode.applies = true) (h : Spaced s) : (evidence s).spacing = s.spacing := by
  rcases evidence_cases ha with ⟨o, -, e⟩ | ⟨-, e⟩
  · obtain ⟨hspaced, hmute⟩ := enterMute_eq_of_spaced o h
    rw [e, hmute, hspaced.recompute_spacing, muteReported_spacing o h]
  · rw [e]
    rfl

/-- The recompute at the entry to MUTE finds the roles as they stand (R171). -/
theorem evidence_chans (ha : s.ctl.mode.applies = true) (h : Spaced s) (hroles : RolesStand s) :
    (evidence s).chans = s.chans := by
  rcases evidence_cases ha with ⟨o, -, e⟩ | ⟨-, e⟩
  · obtain ⟨hspaced, hmute⟩ := enterMute_eq_of_spaced o h
    rw [e, hmute, (hroles.kept (muteReported_resolverKept o s)).recompute_chans hspaced, muteReported_chans]
  · rw [e]
    rfl

/-- Evidence moves no failure count and starts no attempt. -/
theorem evidence_link (ha : s.ctl.mode.applies = true) (hattempt : s.link.attempt = none) :
    (evidence s).link.failCount = s.link.failCount ∧ (evidence s).link.txFail = s.link.txFail
      ∧ (evidence s).link.attempt = none := by
  rcases evidence_cases ha with ⟨o, -, e⟩ | ⟨-, e⟩
  · have hroles : (enterMute o s).lessRoles = (muteReported o s).lessRoles :=
      (lessRoles_of_lessSequencing (startTests_lessSequencing _)).trans (recompute_lessRoles _)
    obtain ⟨-, hidle, -, hcount, htx, -⟩ := lessRoles_eq_link
      (hroles.trans (lessRoles_of_lessSequencing (lessSequencing_of_lessReports (muteReported_lessReports o s))))
    rw [e]
    exact ⟨hcount, htx, hidle⟩
  · rw [e]
    exact ⟨rfl, rfl, hattempt⟩

theorem evidence_idle (ha : s.ctl.mode.applies = false) : evidence s = s := by
  unfold evidence
  cases hm : s.ctl.mode with
  | listen | active | mute => rw [hm] at ha; cases ha
  | start | config | lockout => rfl

/-! ### The link's part of another station's frame (R74, R119, R151) -/

/-- The link once another station's frame has come in. -/
def Link.frameIn (x : Link) : Link := { x with line := .closed, run := 0, attempt := none, retryWait := false }

/-- The composer once another station's frame has come in: a STATUS on the wire was captured in vain. -/
def State.composerIn (s : State) : Composer :=
  if s.onWire .status then { s.status with earlyPending := false, captured := none } else s.status

/-- The claim record once its attempt, if any, has ended without acceptance. -/
def ClaimRecord.requeued : ClaimRecord → ClaimRecord
  | .sending _ _ _ => .queued
  | k => k

/-- The claim record is SENDING only while own attempt is on the wire (R72). -/
theorem requeued_of_idle (h : ClaimLaw s) (hidle : s.link.attempt = none) : s.starts.claim.requeued = s.starts.claim := by
  unfold ClaimLaw at h
  split at h
  · next hclaim => rw [hclaim]; rfl
  · next hclaim => rw [hclaim]; rfl
  · obtain ⟨-, -, -, hattempt⟩ := h
    rw [hidle] at hattempt
    cases hattempt

theorem claimRequeued_eq (s : State) :
    claimRequeued s = s.withStarts { s.starts with claim := s.starts.claim.requeued } := by
  unfold claimRequeued
  cases hclaim : s.starts.claim with
  | sending => rfl
  | absent | queued => exact congrArg (fun k => s.withStarts { s.starts with claim := k }) hclaim

theorem otherFrameIn_eq (h : ClaimLaw s) :
    otherFrameIn s = { s with
      link := s.link.frameIn
      status := s.composerIn
      starts := { s.starts with claim := s.starts.claim.requeued } } := by
  unfold otherFrameIn
  cases hattempt : s.link.attempt with
  | none =>
    have hwire : s.onWire .status = false := by simp [State.onWire, hattempt]
    change s.withLink { s.link with line := .closed, run := 0, retryWait := false } = _
    rw [requeued_of_idle h hattempt, State.composerIn, hwire, Link.frameIn, ← hattempt]
    rfl
  | some a =>
    simp only [Option.isSome_some, if_true, endAttempt, claimRequeued_eq]
    unfold State.composerIn
    cases s.onWire .status <;> rfl

/-! ### The claim (R76) -/

/-- The node once a peer's claim is taken: the frame is in, the hold-off is set and no claim is left. -/
def claimHeard (n : Nat) (s : State) : State :=
  { s with
    link := { s.link.frameIn with queue := { s.link.queue with claim := false } }
    status := s.composerIn
    starts := { holdOff := some (max (s.starts.holdOff.getD 0) (max 1 (min 60 n) * 500)), claim := .absent } }

theorem peerClaim_otherFrameIn (h : ClaimLaw s) (n : Nat) : peerClaim n (otherFrameIn s) = claimHeard n s := by
  rw [otherFrameIn_eq h]
  unfold peerClaim withdrawClaim claimHeard
  cases hclaim : s.starts.claim with
  | absent =>
    have hqueued : s.link.queue.claim = false := by
      unfold ClaimLaw at h
      rwa [hclaim] at h
    rw [← hqueued]
    rfl
  | queued | sending => rfl

theorem claimHeard_spaced (n : Nat) (s : State) : Spaced (claimHeard n s) := ⟨rfl, rfl, rfl⟩

theorem claimHeard_resolverKept (n : Nat) (s : State) : ResolverKept s (claimHeard n s) :=
  ⟨⟨rfl, rfl, rfl, rfl, rfl, rfl, rfl⟩, rfl, fun _ => rfl⟩

/-- The carried value is within 1..60 once read, so clamping it again changes nothing. -/
theorem claimHeard_claimHoldOff (w : Word) (s : State) : claimHeard (claimHoldOff w) s = claimHeard (field w 5 0) s := by
  have hclamp : max 1 (min 60 (claimHoldOff w)) = max 1 (min 60 (field w 5 0)) := by
    unfold claimHoldOff clampNat
    omega
  unfold claimHeard
  rw [hclamp]

/-! ### Its acceptance -/

theorem exec_peerClaim {u : Bool} (hh : s.hears = true)
    (hown : isOwnFrame { cls := claimClass u, station := z, words := [w] } s = false) :
    exec (.startClaimAccepted u z w) s
      = .next (settleRaises s (startTests (detectConflict false { cls := claimClass u, station := z, words := [w] }
          (whenApplied (peerClaim (claimHoldOff w)) (otherFrameIn s))))) := by
  change Host.Outcome.next (acceptFrame (isOwnFrame _ s) _ _ s) = _
  rw [hown]
  unfold acceptFrame
  rw [State.accepts_eq, if_pos hh]
  rfl

/-- Outside LISTEN, ACTIVE and MUTE the link alone takes part in the frame (R76, R136). -/
theorem exec_peerClaim_unapplied {u : Bool} (hh : s.hears = true)
    (hown : isOwnFrame { cls := claimClass u, station := z, words := [w] } s = false) (ha : s.ctl.mode.applies = false) :
    exec (.startClaimAccepted u z w) s = .next (settleRaises s (startTests (otherFrameIn s))) := by
  have happlies : (otherFrameIn s).ctl.mode.applies = false := by rw [(otherFrameIn_ownKept s).ctl, ha]
  rw [exec_peerClaim hh hown, whenApplied, if_neg (by simp [happlies]), detectConflict, evidence_idle happlies, ite_self]

theorem exec_peerClaim_applied {u : Bool} (hh : s.hears = true)
    (hown : isOwnFrame { cls := claimClass u, station := z, words := [w] } s = false) (ha : s.ctl.mode.applies = true)
    (hclaim : ClaimLaw s) :
    exec (.startClaimAccepted u z w) s
      = .next (settleRaises s (startTests
          (if z.toNat = s.station then evidence (claimHeard (field w 5 0) s) else claimHeard (field w 5 0) s))) := by
  have happlies : (otherFrameIn s).ctl.mode.applies = true := by rw [(otherFrameIn_ownKept s).ctl, ha]
  rw [exec_peerClaim hh hown, whenApplied, if_pos happlies, peerClaim_otherFrameIn hclaim, claimHeard_claimHoldOff]
  simp only [detectConflict, Bool.not_false, Bool.true_and, decide_eq_true_eq]
  rfl

/-- A claim under another station number: nothing follows it (R78). -/
theorem exec_peerClaim_other {u : Bool} (hh : s.hears = true)
    (hown : isOwnFrame { cls := claimClass u, station := z, words := [w] } s = false) (ha : s.ctl.mode.applies = true)
    (hclaim : ClaimLaw s) (hz : z.toNat ≠ s.station) :
    exec (.startClaimAccepted u z w) s = .next (claimHeard (field w 5 0) s) := by
  have hsettled : settleRaises s (claimHeard (field w 5 0) s) = claimHeard (field w 5 0) s := settleRaises_idle fun h => h
  rw [exec_peerClaim_applied hh hown ha hclaim, if_neg hz, (claimHeard_spaced _ s).startTests_eq, hsettled]

/-- A claim under own station number is conflict evidence, and no start test follows it (R78, R136). -/
theorem exec_peerClaim_conflict {u : Bool} (hh : s.hears = true)
    (hown : isOwnFrame { cls := claimClass u, station := z, words := [w] } s = false) (ha : s.ctl.mode.applies = true)
    (hclaim : ClaimLaw s) (hz : z.toNat = s.station) :
    exec (.startClaimAccepted u z w) s = .next (settleRaises s (evidence (claimHeard (field w 5 0) s))) := by
  have hspaced : Spaced (claimHeard (field w 5 0) s) := claimHeard_spaced _ s
  have happlies : (claimHeard (field w 5 0) s).ctl.mode.applies = true := ha
  rw [exec_peerClaim_applied hh hown ha hclaim, if_pos hz, (hspaced.kept (evidence_spacing happlies hspaced)).startTests_eq]

theorem sequencing_of_not_applies (h : s.ctl.mode.applies = false) : s.sequencing = false := by
  unfold State.sequencing
  cases hm : s.ctl.mode with
  | start | config | listen | lockout => rfl
  | active | mute => rw [hm] at h; cases h

/-- Where the sequencers do not run, the start tests leave the hold-off alone (R72, R75, R78). -/
theorem startTests_holdOff (h : s.sequencing = false) : (startTests s).starts.holdOff = s.starts.holdOff := by
  have hwithdraw : (withdrawTest s).starts.holdOff = s.starts.holdOff := by
    unfold withdrawTest
    split
    · unfold withdrawClaim
      split <;> rfl
    · rfl
  have hclaim (u : State) : (claimTest u).starts.holdOff = u.starts.holdOff := by
    unfold claimTest
    split <;> rfl
  have hidle : (claimTest (withdrawTest s)).sequencing = false := by
    obtain ⟨hctl, -⟩ := lessSequencing_eq
      ((claimTest_lessSequencing (withdrawTest s)).trans (withdrawTest_lessSequencing s))
    rw [State.sequencing, hctl]
    exact h
  unfold startTests
  rcases isolatedTest_cases (claimTest (withdrawTest s)) with hnone | ⟨c, -, hrunning, -⟩
  · rw [hnone, hclaim, hwithdraw]
  · rw [hidle] at hrunning
    cases hrunning

end Sys2Proof.Machine

open Sys2Proof Sys2Proof.Machine in
/-- Settles O38: the frame ends an own attempt and sends its claim back to the queue, from where the peer's claim withdraws
it; with the hold-off set the start tests do nothing, and the entry to MUTE under own number finds the roles as they
stand. -/
theorem peerClaimRaisesTheHoldOff : Obligations.PeerClaimRaisesTheHoldOff := by
  intro u z w s hlink hh hown
  obtain ⟨-, -, hclaim, -⟩ := hlink
  cases ha : s.ctl.mode.applies with
  | false =>
    have hframe : ResolverKept s (settleRaises s (startTests (otherFrameIn s))) :=
      (otherFrameIn_resolverKept s).trans (frameClosed_resolverKept s _)
    have hsettled := settleRaises_lessReports s (startTests (otherFrameIn s))
    obtain ⟨-, -, -, -, hstarts, -⟩ := lessReports_eq hsettled
    obtain ⟨-, hattempt, -, hcount, htx, -⟩ := lessSequencing_eq_link
      ((lessSequencing_of_lessReports hsettled).trans (startTests_lessSequencing _))
    have hidle : (otherFrameIn s).sequencing = false := by
      refine sequencing_of_not_applies ?_
      rw [(otherFrameIn_ownKept s).ctl, ha]
    refine ⟨_, exec_peerClaim_unapplied hh hown ha, fun _ => ?holdOff, nofun, nofun, nofun, fun _ => nofun, hframe.reg,
      hframe.peers, hframe.meas, hframe.panel, hframe.override, fun _ => nofun, ?count, ?txFail, ?attempt⟩
    case holdOff => rw [hstarts, startTests_holdOff hidle, otherFrameIn_eq hclaim]
    case count => rw [hcount, otherFrameIn_eq hclaim]; rfl
    case txFail => rw [htx, otherFrameIn_eq hclaim]; rfl
    case attempt => rw [hattempt, otherFrameIn_eq hclaim]; rfl
  | true =>
    by_cases hz : z.toNat = s.station
    · have hspaced : Spaced (claimHeard (field w 5 0) s) := claimHeard_spaced _ s
      have happlies : (claimHeard (field w 5 0) s).ctl.mode.applies = true := ha
      have hsettled := settleRaises_lessReports s (evidence (claimHeard (field w 5 0) s))
      have hinputs : InputsKept s (settleRaises s (evidence (claimHeard (field w 5 0) s))) :=
        ((claimHeard_resolverKept _ s).toInputsKept.trans (evidence_inputsKept happlies)).trans (.of_lessReports hsettled)
      have hspacing := (spacing_of_lessReports hsettled).trans (evidence_spacing happlies hspaced)
      obtain ⟨hctl, -, -, hchans, -⟩ := lessReports_eq hsettled
      obtain ⟨-, hattempt, -, hcount, htx, -⟩ := lessReports_eq_link hsettled
      obtain ⟨hcounted, hworks, hidle⟩ := evidence_link happlies rfl
      refine ⟨_, exec_peerClaim_conflict hh hown ha hclaim hz, nofun, fun _ => congrArg Prod.fst hspacing,
        fun _ _ => congrArg Prod.snd hspacing, fun _ hroles => ?chans, fun _ _ => ?entered, hinputs.reg, hinputs.peers,
        hinputs.meas, hinputs.panel, hinputs.override, fun h => absurd hz h, hcount.trans hcounted, htx.trans hworks,
        hattempt.trans hidle⟩
      case chans =>
        rw [hchans, evidence_chans happlies hspaced ((rolesStand_of_roleLaw hroles ha).kept (claimHeard_resolverKept _ s))]
        rfl
      case entered =>
        rw [hctl]
        exact evidence_mute happlies
    · exact ⟨_, exec_peerClaim_other hh hown ha hclaim hz, nofun, fun _ => rfl, fun _ _ => rfl, fun _ _ => rfl,
        fun h => absurd h hz, rfl, rfl, rfl, rfl, rfl, fun _ _ => ⟨rfl, rfl, rfl, rfl, rfl⟩, rfl, rfl, rfl⟩
end

section
/-! What a command leaves of the Mode Controller, the Measurement Unit, the Peer Table, the RESET line and the queue of waiting
commands: the shell of the node, which sequencing, roles, containment and reports never touch. -/

namespace Sys2Proof.Machine

/-! ### The shell -/

/-- The parts of the node that modes, the scan and the Peer Table are about. -/
structure Shell where
  ctl     : ModeCtl
  meas    : Measurement
  peers   : PeerTable
  reset   : ResetLine
  pending : List Instr

def State.shell (s : State) : Shell :=
  { ctl := s.ctl, meas := s.meas, peers := s.peers, reset := s.panel.reset, pending := s.pending }

variable (s : State)

theorem shell_of_lessRoles {s t : State} (h : t.lessRoles = s.lessRoles) : t.shell = s.shell := by
  obtain ⟨hctl, -, -, hmeas, hpeers, hpanel, hpending⟩ := lessRoles_eq h
  simp only [State.shell, hctl, hmeas, hpeers, hpanel, hpending]

theorem shell_of_lessSequencing {s t : State} (h : t.lessSequencing = s.lessSequencing) : t.shell = s.shell :=
  shell_of_lessRoles (lessRoles_of_lessSequencing h)

theorem shell_of_lessReports {s t : State} (h : t.lessReports = s.lessReports) : t.shell = s.shell :=
  shell_of_lessSequencing (lessSequencing_of_lessReports h)

/-- What equality of the shell says of each part. -/
theorem shell_eq {t : State} {x : Shell} (h : t.shell = x) :
    t.ctl = x.ctl ∧ t.meas = x.meas ∧ t.peers = x.peers ∧ t.panel.reset = x.reset ∧ t.pending = x.pending := by
  subst h
  exact ⟨rfl, rfl, rfl, rfl, rfl⟩

@[simp] theorem shell_ctl : s.shell.ctl = s.ctl := rfl
@[simp] theorem shell_meas : s.shell.meas = s.meas := rfl
@[simp] theorem shell_peers : s.shell.peers = s.peers := rfl
@[simp] theorem shell_reset : s.shell.reset = s.panel.reset := rfl
@[simp] theorem shell_pending : s.shell.pending = s.pending := rfl

@[simp] theorem shell_withCtl (x : ModeCtl) : (s.withCtl x).shell = { s.shell with ctl := x } := rfl
@[simp] theorem shell_withMeas (x : Measurement) : (s.withMeas x).shell = { s.shell with meas := x } := rfl
@[simp] theorem shell_withPeers (x : PeerTable) : (s.withPeers x).shell = { s.shell with peers := x } := rfl
@[simp] theorem shell_withPanel (x : Panel) : (s.withPanel x).shell = { s.shell with reset := x.reset } := rfl
@[simp] theorem shell_withLink (x : Link) : (s.withLink x).shell = s.shell := rfl
@[simp] theorem shell_withReg (x : IncidentRegister) : (s.withReg x).shell = s.shell := rfl
@[simp] theorem shell_withRole (x : Resolver) : (s.withRole x).shell = s.shell := rfl
@[simp] theorem shell_withChans (x : Vector Channel 12) : (s.withChans x).shell = s.shell := rfl
@[simp] theorem shell_withStarts (x : StartLogic) : (s.withStarts x).shell = s.shell := rfl
@[simp] theorem shell_withStatus (x : Composer) : (s.withStatus x).shell = s.shell := rfl
@[simp] theorem shell_withTrouble (x : Trouble) : (s.withTrouble x).shell = s.shell := rfl
@[simp] theorem shell_withContain (x : Containment) : (s.withContain x).shell = s.shell := rfl
@[simp] theorem shell_setQueued (k : FrameKind) (b : Bool) : (s.setQueued k b).shell = s.shell := rfl

/-! ### Work that leaves the shell alone -/

@[simp] theorem queueStatus_shell : (queueStatus s).shell = s.shell := shell_of_lessReports (by simp)
@[simp] theorem statusNotice_shell : (statusNotice s).shell = s.shell := shell_of_lessReports (by simp)
@[simp] theorem refreshTrouble_shell : (refreshTrouble s).shell = s.shell := rfl
@[simp] theorem raise_shell (c : Cond) : (raise c s).shell = s.shell := shell_of_lessReports (by simp)
@[simp] theorem endCond_shell (c : Cond) : (endCond c s).shell = s.shell := shell_of_lessReports (by simp)
@[simp] theorem followLatch_shell (c : Cond) (b : Bool) : (followLatch c b s).shell = s.shell :=
  shell_of_lessReports (by simp)
@[simp] theorem followSupply_shell (x : Supply) : (followSupply x s).shell = s.shell := shell_of_lessReports (by simp)
@[simp] theorem raiseSilent_shell : (raiseSilent s).shell = s.shell := shell_of_lessReports (by simp)
@[simp] theorem settleRaises_shell (t : State) : (settleRaises s t).shell = t.shell := shell_of_lessReports (by simp)
@[simp] theorem acknowledge_shell (b : Bool) : (acknowledge b s).shell = s.shell := shell_of_lessReports (by simp)
@[simp] theorem startTests_shell : (startTests s).shell = s.shell := shell_of_lessSequencing (by simp)
@[simp] theorem startSequencers_shell : (startSequencers s).shell = s.shell := shell_of_lessSequencing (by simp)
@[simp] theorem resumeSequencers_shell (v : Vector Channel 12) : (resumeSequencers v s).shell = s.shell :=
  shell_of_lessSequencing (by simp)
@[simp] theorem claimRequeued_shell : (claimRequeued s).shell = s.shell := shell_of_lessSequencing (by simp)
@[simp] theorem withdrawClaim_shell : (withdrawClaim s).shell = s.shell := shell_of_lessSequencing (by simp)
@[simp] theorem peerClaim_shell (n : Nat) : (peerClaim n s).shell = s.shell := shell_of_lessSequencing (by simp)
@[simp] theorem ownClaim_shell : (ownClaim s).shell = s.shell := shell_of_lessSequencing (by simp)
@[simp] theorem limitEvent_shell (c : ChannelNo) : (limitEvent c s).shell = s.shell := shell_of_lessSequencing (by simp)
@[simp] theorem travelExpiry_shell (c : ChannelNo) : (travelExpiry c s).shell = s.shell :=
  shell_of_lessSequencing (by simp)
@[simp] theorem runDownExpiry_shell (c : ChannelNo) : (runDownExpiry c s).shell = s.shell :=
  shell_of_lessSequencing (by simp)
@[simp] theorem provingExpiry_shell (c : ChannelNo) : (provingExpiry c s).shell = s.shell :=
  shell_of_lessSequencing (by simp)
@[simp] theorem provingEvent_shell (b : Bool) (c : ChannelNo) : (provingEvent b c s).shell = s.shell :=
  shell_of_lessSequencing (by simp)
@[simp] theorem recompute_shell : (recompute s).shell = s.shell := shell_of_lessRoles (by simp)
@[simp] theorem graceStart_shell : (graceStart s).shell = s.shell := shell_of_lessRoles (by simp)
@[simp] theorem graceExpiry_shell : (graceExpiry s).shell = s.shell := shell_of_lessRoles (by simp)
@[simp] theorem resumeContain_shell : (resumeContain s).shell = s.shell := shell_of_lessRoles (by simp)

@[simp] theorem registerEvent_shell (new : IncidentRegister) : (registerEvent new s).shell = s.shell :=
  (shell_of_lessRoles (registerEvent_lessRoles s new)).trans rfl

@[simp] theorem storeRegister_shell (new : IncidentRegister) : (storeRegister new s).shell = s.shell :=
  (shell_of_lessReports (storeRegister_lessReports s new)).trans rfl

@[simp] theorem placeDeclare_shell : (placeDeclare s).shell = s.shell := by
  unfold placeDeclare
  split <;> simp

@[simp] theorem declarationCheck_shell : (declarationCheck s).shell = s.shell := by
  unfold declarationCheck
  split <;> simp

@[simp] theorem replaceDeclare_shell : (replaceDeclare s).shell = s.shell := by
  unfold replaceDeclare
  split <;> simp

@[simp] theorem resumeDeclaration_shell : (resumeDeclaration s).shell = s.shell := by
  unfold resumeDeclaration
  split <;> simp

@[simp] theorem resumeConditions_shell : (resumeConditions s).shell = s.shell :=
  shell_of_lessReports (resumeConditions_lessReports s)

@[simp] theorem startStagger_shell : (startStagger s).shell = s.shell := by
  unfold startStagger
  split <;> simp

@[simp] theorem emptyQueue_shell : (emptyQueue s).shell = s.shell := rfl

@[simp] theorem endAttempt_shell (l : Line) (n : Nat) : (endAttempt l n s).shell = s.shell := by
  unfold endAttempt
  dsimp only
  split <;> simp

@[simp] theorem stopSending_shell (bit : Nat) : (stopSending bit s).shell = s.shell := by
  unfold stopSending
  split <;> simp

@[simp] theorem countFailure_shell : (countFailure s).shell = s.shell := by
  unfold countFailure
  split <;> simp

@[simp] theorem sendKind_shell (k : FrameKind) : (sendKind k s).shell = s.shell := by
  cases k with
  | clear | fireDeclare | status => rfl
  | claim =>
    change (sendClaim s).shell = _
    unfold sendClaim
    split
    · simp
    · rfl

@[simp] theorem ownFrameOut_shell : (ownFrameOut s).shell = s.shell := by
  unfold ownFrameOut
  split <;> simp

@[simp] theorem otherFrameIn_shell : (otherFrameIn s).shell = s.shell := by
  unfold otherFrameIn
  dsimp only
  split
  · simp
  · rfl

@[simp] theorem ownStatusAccepted_shell : (ownStatusAccepted s).shell = s.shell := by
  have hearly (t : State) (b : Bool) : (if b then queueStatus t else t).shell = t.shell := by cases b <;> simp
  have hfresh (b : Bool) (x : Trouble) (y : Composer) :
      ((if b then s.withTrouble x else s).withStatus y).shell = s.shell := by cases b <;> rfl
  exact (hearly _ _).trans (hfresh _ _ _)

@[simp] theorem applyOverride_shell (w : Word) : (applyOverride w s).shell = s.shell := by
  unfold applyOverride
  split <;> simp

@[simp] theorem storeInput_shell (c : ChannelNo) (i : Input) (made : Bool) : (storeInput c i made s).shell = s.shell := rfl

@[simp] theorem inputEvent_shell (c : ChannelNo) (i : Input) (made : Bool) : (inputEvent c i made s).shell = s.shell := by
  unfold inputEvent
  split
  · simp
  · split <;> simp
  · rfl

@[simp] theorem applyClear_shell : (applyClear s).shell = s.shell := by simp [applyClear]

@[simp] theorem applyDeclare_shell (own : Bool) (z : Station) (words : List Word) :
    (applyDeclare own z words s).shell = s.shell := by
  cases own <;> simp [applyDeclare]

/-! ### Work on the shell -/

theorem setMode_shell (m : Mode) : (setMode m s).shell = { s.shell with ctl := { s.ctl with mode := m } } := rfl

/-- Listening is complete at the first entry to ACTIVE (R131). -/
theorem completeListening_shell :
    (completeListening s).shell = { s.shell with peers := { s.shell.peers with listened := true } } := by
  unfold completeListening
  split
  · next h =>
    rw [shell_peers, ← h]
    rfl
  · simp

theorem enterActive_shell :
    (enterActive s).shell = { s.shell with
      ctl := { s.ctl with mode := .active, listenTimer := none }, peers := { s.peers with listened := true } } := by
  simp [enterActive, completeListening_shell, setMode_shell]

theorem beginListen_shell :
    (beginListen s).shell = { s.shell with
      ctl := { s.ctl with mode := .listen, listenTimer := some listenTime, quietTimer := none, origin := none } } := by
  simp [beginListen, setMode_shell]

theorem enterMute_shell (o : Origin) :
    (enterMute o s).shell = { s.shell with
      ctl := { s.ctl with mode := .mute, listenTimer := none, quietTimer := some quietTime, origin := some o } } := by
  simp [enterMute, setMode_shell]

theorem enterLockout_shell : (enterLockout s).shell = { s.shell with ctl := { s.ctl with mode := .lockout } } := by
  simp [enterLockout, setMode_shell]

theorem sampleStraps_shell (p : StrapPins) :
    (sampleStraps p s).shell = { s.shell with
      ctl := { s.ctl with
        mode := if p.station = 0 then .lockout else .config
        straps := some { station := p.station.toNat, missLimit := missLimitOf p.miss, rate := p.rate } } } := by
  unfold sampleStraps
  dsimp only
  split
  · simp [enterLockout_shell]
  · simp [setMode_shell]

/-- A resumption begins the scan and the Peer Table anew (R107, R133). -/
theorem resumeBlocks_shell :
    (resumeBlocks s).shell = { s.shell with
      meas := { s.meas with scan := scanFrom s 0, channels := Vector.replicate 4 .reset }
      peers := { s.peers with entries := mapVec (resumePeer s.silence) s.peers.entries } } := by
  simp [resumeBlocks, resumePeers, resumeMeasure]
  rfl

theorem scanFrom_congr {s t : State} (h : t.ctl.config = s.ctl.config) (n : Nat) : scanFrom t n = scanFrom s n := by
  unfold scanFrom enabled State.prCfg State.cfg
  rw [h]

theorem silence_congr {s t : State} (h : t.ctl.straps = s.ctl.straps) : t.silence = s.silence := by
  unfold State.silence
  rw [h]

/-- The resumption sets the mode, and the scan and the Peer Table begin anew. -/
theorem resumeSet_shell (m : Mode) (x : ModeCtl) (v : Vector Channel 12) (hs : x.straps = s.ctl.straps)
    (hk : x.config = s.ctl.config) :
    (resumeBlocks (setMode m ((s.withChans v).withCtl x))).shell = { s.shell with
      ctl := { x with mode := m }
      meas := { s.meas with scan := scanFrom s 0, channels := Vector.replicate 4 .reset }
      peers := { s.peers with entries := mapVec (resumePeer s.silence) s.peers.entries } } := by
  rw [resumeBlocks_shell, scanFrom_congr (s := s) hk, silence_congr (s := s) hs]
  rfl

theorem resumeActive_eq :
    resumeActive s = startTests (completeListening (resumeSequencers s.chans (resumeBlocks (setMode .active
      ((s.withChans (haltSequencers s).chans).withCtl
        { s.ctl with listenTimer := none, quietTimer := none, origin := none }))))) := rfl

theorem resumeListen_eq :
    resumeListen s = endListenOnAlarm (resumeBlocks (setMode .listen
      ((s.withChans (stopSequencers s).chans).withCtl
        { s.ctl with listenTimer := some listenTime, quietTimer := none, origin := none }))) := rfl

theorem resumeActive_shell :
    (resumeActive s).shell = { s.shell with
      ctl := { s.ctl with mode := .active, listenTimer := none, quietTimer := none, origin := none }
      meas := { s.meas with scan := scanFrom s 0, channels := Vector.replicate 4 .reset }
      peers := { entries := mapVec (resumePeer s.silence) s.peers.entries, listened := true } } := by
  have hset := resumeSet_shell s .active { s.ctl with listenTimer := none, quietTimer := none, origin := none }
    (haltSequencers s).chans rfl rfl
  rw [resumeActive_eq, startTests_shell, completeListening_shell, resumeSequencers_shell, hset]

theorem setPeer_shell (z : Nat) (x : Peer) : (s.setPeer z x).shell = { s.shell with peers := (s.setPeer z x).peers } := by
  unfold State.setPeer
  split <;> rfl

theorem storeStatus_shell (z : Nat) (r : StatusRecord) :
    (storeStatus z r s).shell
      = (if z = 0 ∨ z = s.station then s else s.setPeer z (heardPeer s.silence r (s.peer z))).shell :=
  shell_of_lessReports (storeStatus_lessReports s z r)

theorem silenceExpiry_shell (z : Nat) :
    (silenceExpiry z s).shell
      = (if (s.peer z).silence.isSome = true then s.setPeer z (silentPeer (s.peer z)) else s).shell := by
  unfold silenceExpiry
  split
  · dsimp only
    split <;> simp
  · rfl

theorem pairEvent_shell (p : PressureNo) (a b : Code) :
    (pairEvent p a b s).shell = (s.setPressure p (applyPair (s.prCfg p) a b (s.pressure p))).shell :=
  shell_of_lessRoles (pairEvent_lessRoles s p a b)

theorem supplyEvent_shell (v : Nat) :
    (supplyEvent v s).shell = { s.shell with meas := { s.meas with supply := nextSupply s.meas.supply v } } :=
  shell_of_lessSequencing (supplyEvent_lessSequencing s v)

end Sys2Proof.Machine
end

section
/-! Every command is a run of the shell's events: modes, scan, peers and the RESET line (R89 to R91, R126 to R133, R156, R163 to
R174). -/

namespace Sys2Proof.Machine

/-- One event of the shell, from a node to the shell it leaves. -/
inductive ShellEvent (s : State) : Shell → Prop
  /-- The straps are sampled (R164). -/
  | sampled (p : StrapPins) (mode : s.ctl.mode = .start) : ShellEvent s { s.shell with
      ctl := { s.ctl with
        mode := if p.station = 0 then .lockout else .config
        straps := some { station := p.station.toNat, missLimit := missLimitOf p.miss, rate := p.rate } } }
  /-- The block read is good: LISTEN, and the scan starts (R91, R165, R169). -/
  | configured (b : ConfigBytes) (mode : s.ctl.mode = .config) (awake : s.inReset = false) : ShellEvent s { s.shell with
      ctl := { s.ctl with
        config := some (decodeConfig s.station b), mode := .listen
        listenTimer := some listenTime, quietTimer := none, origin := none }
      meas := { s.meas with scan := scanFrom (s.withCtl { s.ctl with config := some (decodeConfig s.station b) }) 0 } }
  /-- The block read fails a check (R165, R172). -/
  | locked (mode : s.ctl.mode = .config) : ShellEvent s { s.shell with ctl := { s.ctl with mode := .lockout } }
  /-- LISTEN ends (R169, R170). -/
  | active (mode : s.ctl.mode = .listen) : ShellEvent s { s.shell with
      ctl := { s.ctl with mode := .active, listenTimer := none }, peers := { s.peers with listened := true } }
  /-- Conflict evidence in LISTEN and ACTIVE (R171). -/
  | muted (o : Origin) (mode : s.ctl.mode = .listen ∨ s.ctl.mode = .active) : ShellEvent s { s.shell with
      ctl := { s.ctl with mode := .mute, listenTimer := none, quietTimer := some quietTime, origin := some o } }
  /-- Conflict evidence in MUTE (R171). -/
  | quietAgain (mode : s.ctl.mode = .mute) : ShellEvent s { s.shell with
      ctl := { s.ctl with quietTimer := some quietTime } }
  /-- MUTE ends in LISTEN (R171). -/
  | listenAgain (mode : s.ctl.mode = .mute) : ShellEvent s { s.shell with
      ctl := { s.ctl with mode := .listen, listenTimer := some listenTime, quietTimer := none, origin := none } }
  /-- MUTE ends in ACTIVE (R171). -/
  | activeAgain (mode : s.ctl.mode = .mute) : ShellEvent s { s.shell with
      ctl := { s.ctl with mode := .active, quietTimer := none, origin := none }
      peers := { s.peers with listened := true } }
  /-- Conversion A ends (R89). -/
  | converted (p : PressureNo) (a : Code) (scan : s.meas.scan = .convA p) : ShellEvent s { s.shell with
      meas := { s.meas with scan := .convB p a } }
  /-- A pair completes (R90, R94). -/
  | paired (p : PressureNo) (a b : Code) (scan : s.meas.scan = .convB p a) : ShellEvent s { s.shell with
      meas := { s.meas with
        scan := scanFrom s (p.val + 1)
        channels := s.meas.channels.set p.val (applyPair (s.prCfg p) a b (s.pressure p)) } }
  /-- The supply is sampled (R90, R103). -/
  | supplied (v : Nat) (scan : s.meas.scan = .supply) : ShellEvent s { s.shell with
      meas := { s.meas with scan := scanFrom s 0, supply := nextSupply s.meas.supply v } }
  /-- Another station's STATUS is stored (R127, R128). -/
  | heard (z : Nat) (r : StatusRecord) (mode : s.ctl.mode.applies = true) (other : z ≠ s.station) :
    ShellEvent s { s.shell with peers := (s.setPeer z (heardPeer s.silence r (s.peer z))).peers }
  /-- A spacing timer expires (R128). -/
  | spaced (z : Nat) : ShellEvent s { s.shell with peers := (s.setPeer z { s.peer z with spacing := none }).peers }
  /-- A silence timer expires (R129). -/
  | silent (z : Nat) (runs : (s.peer z).silence.isSome = true) : ShellEvent s { s.shell with
      peers := (s.setPeer z (silentPeer (s.peer z))).peers }
  /-- RESET is taken as held (R107, R156). -/
  | held (awake : s.inReset = false) : ShellEvent s { s.shell with
      meas := { s.meas with scan := .stopped }
      reset := { raw := true, run := 0, held := true, hold := resetDeglitch, fiveSecs := false } }
  /-- The hold of RESET reaches 5 s (R156). -/
  | fiveSecs (inReset : s.inReset = true) : ShellEvent s { s.shell with
      reset := { s.panel.reset with hold := coldHold, fiveSecs := true } }
  /-- Cold reset (R174). -/
  | cold : ShellEvent s { State.reset.shell with pending := s.pending }
  /-- A warm-reset release in START, CONFIG and LOCKOUT (R173). -/
  | released (mode : s.ctl.mode.applies = false) : ShellEvent s { s.shell with reset := State.reset.panel.reset }
  /-- A warm-reset release in LISTEN (R107, R133, R173). -/
  | resumedListen (mode : s.ctl.mode = .listen) : ShellEvent s { s.shell with
      ctl := { s.ctl with mode := .listen, listenTimer := some listenTime, quietTimer := none, origin := none }
      meas := { s.meas with scan := scanFrom s 0, channels := Vector.replicate 4 .reset }
      peers := { s.peers with entries := mapVec (resumePeer s.silence) s.peers.entries }
      reset := State.reset.panel.reset }
  /-- A warm-reset release in ACTIVE and MUTE (R107, R133, R173). -/
  | resumedActive (mode : s.ctl.mode = .active ∨ s.ctl.mode = .mute) : ShellEvent s { s.shell with
      ctl := { s.ctl with mode := .active, listenTimer := none, quietTimer := none, origin := none }
      meas := { s.meas with scan := scanFrom s 0, channels := Vector.replicate 4 .reset }
      peers := { entries := mapVec (resumePeer s.silence) s.peers.entries, listened := true }
      reset := State.reset.panel.reset }

/-- A run of the shell's events. -/
inductive ShellRun : State → State → Prop
  | kept {s t : State} (h : t.shell = s.shell) : ShellRun s t
  | event {s t : State} {x : Shell} (h : ShellEvent s x) (ht : t.shell = x) : ShellRun s t
  | trans {s t u : State} (first : ShellRun s t) (then_ : ShellRun t u) : ShellRun s u

namespace ShellRun

variable {s t u : State}

theorem refl (s : State) : ShellRun s s := .kept rfl

theorem outside {f : State → State} (h : s.inReset = false → ShellRun s (f s)) : ShellRun s (s.outside f) := by
  unfold State.outside
  split
  · exact refl s
  · next hr => exact h (by simpa using hr)

theorem settled (h : ShellRun s t) : ShellRun s (settleRaises u t) := h.trans (.kept (by simp))

/-- A line of the panel, or an input, takes its level before what follows outside reset. -/
theorem outside_after {f : State → State} (hk : u.shell = s.shell) (h : ShellRun u (f u)) : ShellRun s (u.outside f) :=
  .trans (.kept hk) (.outside fun _ => h)

/-- A part of the shell's work that a guard may leave out. -/
theorem ite {p : Prop} [Decidable p] (h : p → ShellRun s t) (k : ¬p → ShellRun s u) :
    ShellRun s (if p then t else u) := by
  split
  · next hp => exact h hp
  · next hp => exact k hp

/-- What moves no part of the shell may follow a run. -/
theorem then_kept (h : ShellRun s t) (k : u.shell = t.shell) : ShellRun s u := h.trans (.kept k)

end ShellRun

variable (s : State)

theorem endListenOnAlarm_shellRun (h : s.ctl.mode = .listen) : ShellRun s (endListenOnAlarm s) := by
  unfold endListenOnAlarm
  split
  · exact .event (.active h) (enterActive_shell s)
  · exact .refl s

theorem evidence_shellRun : ShellRun s (evidence s) := by
  unfold evidence
  split
  · next h => exact .event (.muted _ (.inl h)) (enterMute_shell s _)
  · next h => exact .event (.muted _ (.inr h)) (enterMute_shell s _)
  · next h => exact .event (.quietAgain h) rfl
  · exact .refl s

theorem enterListen_shellRun (b : ConfigBytes) (hm : s.ctl.mode = .config) (hr : s.inReset = false) :
    ShellRun s (enterListen (s.withCtl { s.ctl with config := some (decodeConfig s.station b) })) := by
  have hset : (recompute (declarationCheck (setScan (scanFrom (beginListen
      (s.withCtl { s.ctl with config := some (decodeConfig s.station b) })) 0)
      (beginListen (s.withCtl { s.ctl with config := some (decodeConfig s.station b) }))))).shell = { s.shell with
        ctl := { s.ctl with
          config := some (decodeConfig s.station b), mode := .listen
          listenTimer := some listenTime, quietTimer := none, origin := none }
        meas := { s.meas with
          scan := scanFrom (s.withCtl { s.ctl with config := some (decodeConfig s.station b) }) 0 } } := by
    obtain ⟨hctl, hmeas, -⟩ := shell_eq
      (beginListen_shell (s.withCtl { s.ctl with config := some (decodeConfig s.station b) }))
    simp only [recompute_shell, declarationCheck_shell, setScan, shell_withMeas, hmeas, beginListen_shell]
    rw [scanFrom_congr (s := s.withCtl { s.ctl with config := some (decodeConfig s.station b) }) (by rw [hctl])]
    rfl
  obtain ⟨hctl, -⟩ := shell_eq hset
  exact .trans (.event (.configured b hm hr) hset) (endListenOnAlarm_shellRun _ (by rw [hctl]))

theorem leaveMute_shellRun (h : s.ctl.mode = .mute) : ShellRun s (leaveMute s) := by
  obtain ⟨hctl, hmeas, hpeers, -⟩ := shell_eq (endCond_shell s (plainCond .stationConflict))
  unfold leaveMute
  dsimp only
  split
  · have hset : (recompute (declarationCheck (replaceDeclare (beginListen
        (endCond (plainCond .stationConflict) s))))).shell = { s.shell with
          ctl := { s.ctl with mode := .listen, listenTimer := some listenTime, quietTimer := none, origin := none } } := by
      simp only [recompute_shell, declarationCheck_shell, replaceDeclare_shell, beginListen_shell, endCond_shell, hctl]
      rfl
    obtain ⟨hset', -⟩ := shell_eq hset
    exact .trans (.event (.listenAgain h) hset) (endListenOnAlarm_shellRun _ (by rw [hset']))
  · refine .event (.activeAgain h) ?_
    simp only [startTests_shell, completeListening_shell, recompute_shell, replaceDeclare_shell, startStagger_shell,
      setMode_shell, shell_withCtl, State.withCtl_ctl, endCond_shell, hctl]
    rfl

theorem warmReset_shellRun : ShellRun s (warmReset s) := by
  have hreleased : (releaseReset s).shell = { s.shell with reset := State.reset.panel.reset } := rfl
  unfold warmReset
  dsimp only
  split
  · next h =>
    refine .trans (.event (.released (by rw [show s.ctl.mode = .start from h]; rfl)) hreleased) ?_
    exact .event (.sampled _ h) (sampleStraps_shell _ _)
  · next h => exact .event (.released (by rw [show s.ctl.mode = .config from h]; rfl)) hreleased
  · next h =>
    have hset := resumeSet_shell (releaseReset s) .listen
      { s.ctl with listenTimer := some listenTime, quietTimer := none, origin := none }
      (stopSequencers (releaseReset s)).chans rfl rfl
    obtain ⟨hctl, -⟩ := shell_eq hset
    rw [resumeListen_eq]
    exact .trans (.event (.resumedListen h) hset) (endListenOnAlarm_shellRun _ (by rw [hctl]))
  · next h => exact .event (.resumedActive (.inl h)) (resumeActive_shell (releaseReset s))
  · next h => exact .event (.resumedActive (.inr h)) (resumeActive_shell (releaseReset s))
  · next h =>
    exact .event (.released (by rw [show s.ctl.mode = .lockout from h]; rfl)) (by simpa using hreleased)

theorem coldReset_shellRun (p : StrapPins) : ShellRun s (coldReset p s) :=
  .trans (.event .cold (t := coldState p s) rfl) (.event (.sampled p rfl) (sampleStraps_shell _ p))

/-! ### Accepted frames -/

theorem acceptFrame_shellRun (own : Bool) (f : Frame) {blocks : State → State} (h : ∀ u, ShellRun u (blocks u)) :
    ShellRun s (acceptFrame own f blocks s) := by
  have hconflict (u : State) : ShellRun u (detectConflict own f u) := by
    unfold detectConflict
    split
    · exact evidence_shellRun u
    · exact .refl u
  unfold acceptFrame
  split
  · refine .settled (.then_kept (.trans ?_ (hconflict _)) (startTests_shell _))
    refine .trans (.kept ?_) (h _)
    cases own
    · exact otherFrameIn_shell s
    · exact ownFrameOut_shell s
  · exact .refl s

theorem whenApplied_kept {f : State → State} (h : ∀ u, (f u).shell = u.shell) (u : State) :
    ShellRun u (whenApplied f u) := by
  unfold whenApplied
  split
  · exact .kept (h u)
  · exact .refl u

theorem storeStatus_shellRun (z : Nat) (r : StatusRecord) (ha : s.ctl.mode.applies = true) :
    ShellRun s (storeStatus z r s) := by
  have hstore := storeStatus_shell s z r
  split at hstore
  · exact .kept hstore
  · next h =>
    rw [setPeer_shell] at hstore
    exact .event (.heard z r ha (fun e => h (.inr e))) hstore

theorem applyStatus_shellRun (own : Bool) (z : Station) (w1 w2 w3 : Word) :
    ShellRun s (applyStatus own z w1 w2 w3 s) := by
  have hstored : ShellRun s (if own then ownStatusAccepted s
      else whenApplied (storeStatus z.toNat { mode := readMode w1, contain := readContain w1 }) s) := by
    split
    · exact .kept (ownStatusAccepted_shell s)
    · unfold whenApplied
      split
      · next ha => exact storeStatus_shellRun s _ _ ha
      · exact .refl s
  have hview (u : State) : ShellRun u (whenApplied (applyView z w2 w3) u) :=
    whenApplied_kept (fun t => by unfold applyView; split <;> simp) u
  unfold applyStatus
  exact .trans (hstored.trans (hview _)) (.ite (fun _ => .kept (recompute_shell _)) fun _ => .refl _)

/-! ### Every command -/

theorem setPeer_event {s : State} {z : Nat} {x : Peer}
    (h : ShellEvent s { s.shell with peers := (s.setPeer z x).peers }) : ShellRun s (s.setPeer z x) :=
  .event h (setPeer_shell s z x)

theorem alarmEvent_shellRun (active : Bool) : ShellRun s (alarmEvent active s) := by
  have hnotice : ShellRun s (declarationCheck (statusNotice s)) := .kept (by simp)
  unfold alarmEvent
  dsimp only
  refine .ite (fun _ => ?_) (fun _ => .kept (by simp))
  exact .ite (fun h => hnotice.trans (.event (.active h) (enterActive_shell _))) (fun _ => hnotice)

theorem silenceExpiry_shellRun (z : Nat) : ShellRun s (silenceExpiry z s) := by
  have hsilent := silenceExpiry_shell s z
  split at hsilent
  · next h =>
    rw [setPeer_shell] at hsilent
    exact .event (.silent z h) hsilent
  · exact .kept hsilent

theorem execPairComplete_shellRun {t : State} (b : Code) (h : exec (.pairComplete b) s = .next t) : ShellRun s t := by
  cases h
  refine .outside fun _ => ?_
  split
  · next p a hscan =>
    have hpair : (pairEvent p a b (setScan (scanFrom s (p.val + 1)) s)).shell = { s.shell with
        meas := { s.meas with
          scan := scanFrom s (p.val + 1)
          channels := s.meas.channels.set p.val (applyPair (s.prCfg p) a b (s.pressure p)) } } :=
      pairEvent_shell _ p a b
    dsimp only
    exact .ite (fun _ => .settled (.event (.paired p a b hscan) hpair)) (fun _ => .event (.paired p a b hscan) hpair)
  · exact .refl s

/-- Every command is a run of the shell's events. -/
theorem exec_shellRun {i : Instr} {s t : State} (h : exec i s = .next t) : ShellRun s t := by
  cases i with
  | powerUp p => cases h; exact coldReset_shellRun s p
  | coldReset p => cases h; exact coldReset_shellRun s p
  | resetHeld => cases h; exact .outside fun hr => .event (.held hr) rfl
  | resetHold5s => cases h; exact .ite (fun hr => .event (.fiveSecs hr) rfl) (fun _ => .refl s)
  | warmReset => cases h; exact .ite (fun _ => .settled (warmReset_shellRun s)) (fun _ => .refl s)
  | configReadDone b =>
    cases h
    refine .outside fun hr => .ite (fun hm => .settled ?_) (fun _ => .refl s)
    exact .ite (fun _ => enterListen_shellRun s b hm hr) (fun _ => .event (.locked hm) (enterLockout_shell s))
  | listenTimerExpiry =>
    cases h
    exact .outside fun _ => .ite (fun hm => .settled (.event (.active hm.1) (enterActive_shell s))) (fun _ => .refl s)
  | muteQuietTimerExpiry =>
    cases h
    exact .outside fun _ => .ite (fun hm => .settled (leaveMute_shellRun s hm.1)) (fun _ => .refl s)
  | lineIdle levels => cases h; exact .outside fun _ => .ite (fun _ => .kept rfl) (fun _ => .refl s)
  | attemptStart =>
    cases h
    refine .outside fun _ => .ite (fun _ => ?_) (fun _ => .refl s)
    split
    · exact .kept (sendKind_shell s _)
    · exact .refl s
  | arbitrationLost bit => cases h; exact .outside fun _ => .kept (stopSending_shell s bit)
  | duplicateKeyStop bit =>
    cases h
    refine .outside fun _ => .ite (fun _ => ?_) (fun _ => .refl s)
    exact .trans (.kept (stopSending_shell s bit)) (evidence_shellRun _)
  | failedAttempt => cases h; exact .outside fun _ => .ite (fun _ => .kept (by simp)) (fun _ => .refl s)
  | retryWaitEnd b => cases h; exact .outside fun _ => .ite (fun _ => .kept rfl) (fun _ => .refl s)
  | clearAccepted z w => cases h; exact acceptFrame_shellRun s _ _ (whenApplied_kept applyClear_shell)
  | overrideAccepted z w =>
    cases h; exact acceptFrame_shellRun s _ _ (whenApplied_kept fun u => applyOverride_shell u w)
  | fireDeclareAccepted z ws =>
    cases h; exact acceptFrame_shellRun s _ _ (whenApplied_kept fun u => applyDeclare_shell u _ z ws)
  | startClaimAccepted urgent z w =>
    cases h
    refine acceptFrame_shellRun s _ _ fun u => ?_
    split
    · exact .kept (ownClaim_shell u)
    · exact whenApplied_kept (fun u => peerClaim_shell u _) u
  | statusAccepted z w1 w2 w3 w4 =>
    cases h; exact acceptFrame_shellRun s _ _ fun u => applyStatus_shellRun u _ z w1 w2 w3
  | otherFrameAccepted cls z ws => cases h; exact acceptFrame_shellRun s _ _ .refl
  | isolatedDeclarationTimerExpiry =>
    cases h; exact .outside fun _ => .ite (fun _ => .kept (by simp)) (fun _ => .refl s)
  | alarmChange active =>
    cases h
    exact .ite (fun _ => .refl s) (fun _ => .settled (.outside_after rfl (alarmEvent_shellRun _ active)))
  | panelResetPulse =>
    cases h
    refine .ite (fun _ => .refl s) (fun _ => .outside_after rfl ?_)
    exact .ite (fun _ => .kept rfl) (fun _ => .refl _)
  | ackPulse b =>
    cases h
    exact .ite (fun _ => .refl s) (fun _ => .outside_after rfl (.kept (acknowledge_shell _ b)))
  | statusPeriodTimerExpiry =>
    cases h; exact .outside fun _ => .ite (fun _ => .kept (by simp)) (fun _ => .refl s)
  | spacingTimerExpiry z => cases h; exact .outside fun _ => setPeer_event (.spaced z.toNat)
  | silenceTimerExpiry z => cases h; exact .outside fun _ => .settled (silenceExpiry_shellRun s z.toNat)
  | holdOffExpiry => cases h; exact .outside fun _ => .ite (fun _ => .kept (by simp)) (fun _ => .refl s)
  | provingTimerExpiry c => cases h; exact .outside fun _ => .kept (provingExpiry_shell s c)
  | runDownTimerExpiry c => cases h; exact .outside fun _ => .kept (by simp)
  | travelTimerExpiry c => cases h; exact .outside fun _ => .kept (by simp)
  | provingSwitchChange c made =>
    cases h
    exact .ite (fun _ => .refl s) (fun _ => .outside_after (storeInput_shell s c .a made)
      (.kept (inputEvent_shell _ c .a made)))
  | limitChange c i made =>
    cases h
    exact .ite (fun _ => .refl s) (fun _ => .outside_after (storeInput_shell s c i made)
      (.kept (inputEvent_shell _ c i made)))
  | graceTimerExpiry => cases h; exact .outside fun _ => .kept (graceExpiry_shell s)
  | conversionADone a =>
    cases h
    refine .outside fun _ => ?_
    split
    · next p hscan => exact .event (.converted p a hscan) rfl
    · exact .refl s
  | pairComplete b => exact execPairComplete_shellRun s b h
  | supplySample k =>
    cases h
    refine .outside fun _ => ?_
    split
    · next hscan => exact .event (.supplied _ hscan) (supplyEvent_shell _ _)
    · exact .refl s
  | pulseLineReturnInactive line => cases h; cases line <;> exact .kept rfl

end Sys2Proof.Machine
end

section
/-! The laws of the Mode Controller, the Measurement Unit and the Peer Table along the shell's events; O3, O4, O9, O11. -/

namespace Sys2Proof.Machine

variable {s t : State}

/-! ### The ranges of a decoded configuration (R166 to R168) -/

theorem decodeNeighbours_law (own : Nat) (b : ConfigBytes) : NeighbourLaw own (decodeNeighbours own b) := by
  unfold decodeNeighbours
  refine neighbourLaw_keepFirst ?_ ?_
  · refine (List.length_filter_le _ _).trans ((List.length_take_le _ _).trans ?_)
    omega
  · intro z hz
    obtain ⟨-, hz⟩ := List.mem_filter.mp hz
    obtain ⟨hne, hle, hown⟩ := of_decide_eq_true hz
    exact ⟨by omega, hle, hown⟩

theorem byteAt_le (b : ConfigBytes) (i : Nat) : byteAt b i ≤ 255 := by
  have := (b.toList.getD i 0).isLt
  unfold byteAt
  omega

theorem wordAt_le (b : ConfigBytes) (i : Nat) : wordAt b i ≤ 65535 := by
  have := byteAt_le b i
  have := byteAt_le b (i + 1)
  unfold wordAt
  omega

theorem decodeConfig_channel (own : Nat) (b : ConfigBytes) (c : ChannelNo) :
    (decodeConfig own b).channels[c.val] = decodeChannel b c := by
  fin_cases c <;> rfl

theorem decodeConfig_pressure (own : Nat) (b : ConfigBytes) (p : PressureNo) :
    (decodeConfig own b).pressure[p.val] = decodePressure b p := by
  fin_cases p <;> rfl

/-- A channel has the kind its byte gives (R167). -/
theorem decodeChannel_kind (b : ConfigBytes) (c : ChannelNo) : (decodeChannel b c).kind = decodeKind b c := by
  unfold decodeChannel
  cases decodeKind b c <;> rfl

theorem mem_decodeInterlock {b : ConfigBytes} {i : Nat} {d : ChannelNo} :
    d ∈ decodeInterlock b i ↔ byteAt b i = d.val + 1 ∧ (decodeKind b d).isDamper = true := by
  simp [decodeInterlock, mem_allChannels]

/-- An interlock field names one channel at most. -/
theorem decodeInterlock_length (b : ConfigBytes) (i : Nat) : (decodeInterlock b i).length ≤ 1 := by
  have hnodup : (decodeInterlock b i).Nodup := List.Nodup.filter _ (by decide)
  have hsame {x y : ChannelNo} (hx : x ∈ decodeInterlock b i) (hy : y ∈ decodeInterlock b i) : x = y := by
    obtain ⟨hx, -⟩ := mem_decodeInterlock.mp hx
    obtain ⟨hy, -⟩ := mem_decodeInterlock.mp hy
    exact Fin.ext (by omega)
  rcases hl : decodeInterlock b i with _ | ⟨x, _ | ⟨y, l⟩⟩
  · simp
  · simp
  · rw [hl] at hnodup hsame
    exact absurd (hsame (List.mem_cons_self ..) (List.mem_cons_of_mem _ (List.mem_cons_self ..))) (by simp_all)

theorem mem_decodeInterlocks {b : ConfigBytes} {c d : ChannelNo} :
    d ∈ decodeInterlocks b c ↔
      (byteAt b (channelBase c + 2) = d.val + 1 ∨ byteAt b (channelBase c + 3) = d.val + 1)
        ∧ (decodeKind b d).isDamper = true := by
  simp only [decodeInterlocks, List.mem_append, List.mem_filter, decide_eq_true_eq, mem_decodeInterlock]
  tauto

theorem decodeInterlocks_nodup (b : ConfigBytes) (c : ChannelNo) : (decodeInterlocks b c).Nodup := by
  have hnodup (i : Nat) : (decodeInterlock b i).Nodup := List.Nodup.filter _ (by decide)
  refine List.nodup_append'.mpr ⟨hnodup _, (hnodup _).filter _, fun d hfirst hsecond => ?_⟩
  obtain ⟨-, hne⟩ := List.mem_filter.mp hsecond
  exact of_decide_eq_true hne hfirst

theorem decodeInterlocks_length (b : ConfigBytes) (c : ChannelNo) : (decodeInterlocks b c).length ≤ 2 := by
  have hfirst := decodeInterlock_length b (channelBase c + 2)
  have hsecond := decodeInterlock_length b (channelBase c + 3)
  have hkept := List.length_filter_le (fun d => decide (d ∉ decodeInterlock b (channelBase c + 2)))
    (decodeInterlock b (channelBase c + 3))
  simp only [decodeInterlocks, List.length_append]
  omega

theorem decodeProving_iff {b : ConfigBytes} {c : ChannelNo} {p : PressureNo} :
    decodeProving b c = some p ↔ byteAt b (channelBase c + 1) % 8 = p.val + 1 ∧ decodePressureRole b p = .proving := by
  have hmem : p ∈ allPressure := by revert p; decide
  unfold decodeProving
  constructor
  · intro h
    simpa using List.find?_some h
  · intro h
    cases hf : allPressure.find? _ with
    | none =>
      have := List.find?_eq_none.mp hf p hmem
      simp [h] at this
    | some q =>
      have hq := List.find?_some hf
      simp only [Bool.and_eq_true, decide_eq_true_eq] at hq
      obtain ⟨hq, -⟩ := hq
      exact congrArg some (Fin.ext (by omega))

theorem decodeChannel_law (own : Nat) (b : ConfigBytes) (c : ChannelNo) :
    ChannelLaw (decodeConfig own b) (decodeChannel b c) := by
  have hkind := decodeChannel_kind b c
  unfold ChannelLaw
  rw [hkind]
  unfold decodeChannel
  dsimp only
  split
  · next h =>
    have hfan : (decodeKind b c).isFan = false := by cases hk : decodeKind b c <;> simp_all [ChannelKind.isDamper,
      ChannelKind.isFan]
    refine ⟨fun _ => ?_, fun k => absurd k (by simp [hfan]), by simp, by simp, by simp, by simp⟩
    simp only [clampNat]
    omega
  · next h =>
    split
    · refine ⟨fun k => absurd k h, fun _ => ?_, decodeInterlocks_length b c, decodeInterlocks_nodup b c, fun d hd => ?_,
        fun p hp => ?_⟩
      · simp only [clampNat]
        omega
      · rw [decodeConfig_channel, decodeChannel_kind]
        exact (mem_decodeInterlocks.mp hd).2
      · rw [decodeConfig_pressure]
        exact (decodeProving_iff.mp (Option.mem_toList.mp hp)).2
    · next hf => exact ⟨fun k => absurd k h, fun k => absurd k hf, by simp [unusedChannel], by simp [unusedChannel],
        by simp [unusedChannel], by simp [unusedChannel]⟩

theorem decodePressure_law (b : ConfigBytes) (p : PressureNo) : PressureLaw (decodePressure b p) := by
  have hgain := wordAt_le b (pressureBase p + 1)
  have hhyst := byteAt_le b (pressureBase p + 7)
  simp only [PressureLaw, decodePressure, clampInt, clampNat]
  omega

theorem decodeConfig_law (own : Nat) (b : ConfigBytes) : ConfigLaw own (decodeConfig own b) := by
  have hsupply := wordAt_le b 130
  refine ⟨decodeNeighbours_law own b, fun c => ?_, fun p => ?_, ?_, ?_, ?_⟩
  · rw [decodeConfig_channel]
    exact decodeChannel_law own b c
  · rw [decodeConfig_pressure]
    exact decodePressure_law b p
  · simp only [decodeConfig]
    omega
  · simp only [decodeConfig, clampNat]
    omega
  · simp only [decodeConfig, clampNat]
    omega

/-! ### Laws of the shell -/

/-- A node with a given shell, at its reset values elsewhere: a law of the shell holds of a node exactly when it holds of
this. -/
def Shell.node (x : Shell) : State :=
  { State.reset with
    ctl := x.ctl, meas := x.meas, peers := x.peers, pending := x.pending
    panel := { State.reset.panel with reset := x.reset } }

theorem modeLaw_shell : ModeLaw s ↔ ModeLaw s.shell.node := Iff.rfl
theorem measureLaw_shell : MeasureLaw s ↔ MeasureLaw s.shell.node := Iff.rfl
theorem peerLaw_shell : PeerLaw s ↔ PeerLaw s.shell.node := Iff.rfl

/-- What every event of the shell keeps, every run keeps. -/
theorem ShellRun.keeps {P : State → Prop} (hP : ∀ s, P s ↔ P s.shell.node)
    (hevent : ∀ {s : State} {x : Shell}, ShellEvent s x → P s → P x.node) (h : ShellRun s t) : P s → P t := by
  induction h with
  | kept h => intro hs; rwa [hP, h, ← hP]
  | event h ht => intro hs; rw [hP, ht]; exact hevent h hs
  | trans _ _ ih ih' => exact fun hs => ih' (ih hs)

theorem ShellRun.pending (h : ShellRun s t) : t.pending = s.pending := by
  induction h with
  | kept h => exact congrArg Shell.pending h
  | event h ht => cases h <;> exact congrArg Shell.pending ht
  | trans _ _ ih ih' => exact ih'.trans ih

/-- What a command's run and a millisecond keep, a step keeps. -/
theorem step_keeps {P : State → Prop} (hP : ∀ s, P s ↔ P s.shell.node)
    (hpending : ∀ (s : State) (l : List Instr), P s → P (s.withPending l))
    (hevent : ∀ {s : State} {x : Shell}, ShellEvent s x → P s → P x.node) (htick : ∀ s, P s → P (passMs s))
    (hs : P s) (h : step s = .next t) : P t := by
  rcases step_cases h with ⟨i, rest, he⟩ | rfl
  · exact (exec_shellRun he).keeps hP hevent (hpending s rest hs)
  · exact htick s hs

/-- One millisecond at the shell (R129, R156, R169, R171). -/
theorem passMs_shell (s : State) :
    (passMs s).shell = if s.inReset then { s.shell with reset := s.panel.reset.tick } else { s.shell with
      ctl := { s.ctl with
        listenTimer := countDown 1 s.ctl.listenTimer, quietTimer := countDown 1 s.ctl.quietTimer }
      peers := { s.peers with entries := mapVec Peer.tick s.peers.entries }
      reset := s.panel.reset.tick } := by
  have hlines (u : State) : (endAck (tickLines u)).shell = { u.shell with reset := u.panel.reset.tick } := rfl
  unfold passMs
  rw [hlines]
  cases hr : s.inReset with
  | true =>
    rw [outside_of_inReset hr]
    rfl
  | false =>
    have hseq (u : State) := shell_of_lessSequencing (tickSequencers_lessSequencing u)
    have hpanel (u : State) := (lessSequencing_eq (tickSequencers_lessSequencing u)).2.2.2.2.2.2.1
    rw [outside_of_not_inReset hr]
    unfold tickTimers
    dsimp only
    rw [hseq, hpanel]
    rfl

/-! ### The Mode Controller (R156, R163 to R173) -/

theorem atMost_some {n m : Nat} : AtMost n (some m) ↔ m ≤ n := by simp [AtMost]

theorem ResetLine.tick_held (x : ResetLine) : x.tick.held = x.held ∧ x.tick.fiveSecs = x.fiveSecs := by
  unfold ResetLine.tick
  split <;> exact ⟨rfl, rfl⟩

theorem modeLaw_reset : ModeLaw .reset := by
  simp [ModeLaw, State.reset, atMost_none, State.station, Mode.applies]

theorem ShellEvent.modeLaw {x : Shell} (h : ShellEvent s x) (hs : ModeLaw s) : ModeLaw x.node := by
  have hsame := hs
  obtain ⟨hlisten, hlistenMost, hquiet, hquietMost, horigin, hstraps, hrange, hown, hconfig, hlaw, hfive⟩ := hs
  have hstopped (n : Nat) : AtMost n none := atMost_none n
  have hfull (n : Nat) : AtMost n (some n) := atMost_some.mpr le_rfl
  cases h with
  | converted | paired | supplied | heard | spaced | silent => exact hsame
  | cold => exact modeLaw_reset
  | fiveSecs held =>
    exact ⟨hlisten, hlistenMost, hquiet, hquietMost, horigin, hstraps, hrange, hown, hconfig, hlaw, fun _ => held⟩
  | held | released =>
    exact ⟨hlisten, hlistenMost, hquiet, hquietMost, horigin, hstraps, hrange, hown, hconfig, hlaw, nofun⟩
  | sampled p mode =>
    have hpin := p.station.isLt
    have hzero : p.station = 0 ↔ p.station.toNat = 0 := by bv_omega
    by_cases hp : p.station = 0 <;> cases hmiss : p.miss <;>
      simp_all [ModeLaw, Shell.node, State.station, State.inReset, Mode.applies, missLimitOf] <;> omega
  | configured b mode awake =>
    have := decodeConfig_law s.station b
    simp_all [ModeLaw, Shell.node, State.station, State.inReset, Mode.applies]
  | resumedActive mode | muted _ mode =>
    rcases mode with mode | mode <;>
      simp_all [ModeLaw, Shell.node, State.station, State.inReset, Mode.applies, State.reset]
  | locked mode | active mode | quietAgain mode | listenAgain mode | activeAgain mode | resumedListen mode =>
    simp_all [ModeLaw, Shell.node, State.station, State.inReset, Mode.applies, State.reset]

theorem passMs_modeLaw (h : ModeLaw s) : ModeLaw (passMs s) := by
  rw [modeLaw_shell, passMs_shell]
  obtain ⟨hlisten, hlistenMost, hquiet, hquietMost, horigin, hstraps, hrange, hown, hconfig, hlaw, hfive⟩ := h
  obtain ⟨hheld, hfives⟩ := s.panel.reset.tick_held
  have hreset : s.panel.reset.tick.fiveSecs = true → s.panel.reset.tick.held = true := by
    rw [hheld, hfives]
    exact hfive
  split
  · exact ⟨hlisten, hlistenMost, hquiet, hquietMost, horigin, hstraps, hrange, hown, hconfig, hlaw, hreset⟩
  · refine ⟨?_, atMost_countDown 1 hlistenMost, ?_, atMost_countDown 1 hquietMost, horigin, hstraps, hrange, hown, hconfig,
      hlaw, hreset⟩
    · exact (iff_of_eq (congrArg (· = true) (countDown_isSome 1 _))).trans hlisten
    · exact (iff_of_eq (congrArg (· = true) (countDown_isSome 1 _))).trans hquiet

/-! ### The Measurement Unit (R89 to R107) -/

theorem pressureStateLaw_reset (r : PressureRole) : PressureStateLaw r .reset := by
  simp [PressureStateLaw, PressureState.reset]

theorem applyBand_law {r : PressureRole} {x : PressureState} (b : Band) (hr : r ≠ .unused) (hf : x.fault = false)
    (h : PressureStateLaw r x) : PressureStateLaw r (applyBand b x) := by
  obtain ⟨hsat, hrec, hp, hu, hfault, hzero, hdown, hproven, hunproven, -⟩ := h
  unfold applyBand
  cases hx : x.proven <;> cases b <;> simp only [Bool.false_eq_true, ↓reduceIte] <;> (try split) <;>
    simp_all [PressureStateLaw]

theorem applyPair_law {r : PressureRole} {x : PressureState} (k : PressureConfig) (a b : Code) (hr : r ≠ .unused)
    (h : PressureStateLaw r x) : PressureStateLaw r (applyPair k a b x) := by
  have hsame := h
  obtain ⟨hsat, hrec, hp, hu, hfault, hzero, hdown, hproven, hunproven, -⟩ := h
  unfold applyPair
  split
  · unfold applySaturated
    split
    · simp_all [PressureStateLaw]
    · split <;> simp_all [PressureStateLaw]
      omega
  · unfold applyValid
    split
    · split <;> simp_all [PressureStateLaw]
    · exact applyBand_law _ hr (by simp_all) (by simp_all [PressureStateLaw])

theorem measureLaw_reset : MeasureLaw .reset := by
  refine ⟨fun p => ?_, trivial, by simp [State.reset, Mode.applies], fun _ => rfl⟩
  fin_cases p <;> exact pressureStateLaw_reset _

theorem scanFrom_cases (s : State) (n : Nat) :
    (∃ p, scanFrom s n = .convA p ∧ enabled s p = true) ∨ scanFrom s n = .supply := by
  unfold scanFrom
  split
  · next p h =>
    have := List.find?_some h
    exact .inl ⟨p, rfl, by simp_all⟩
  · exact .inr rfl


theorem scanLaw_scanFrom {n : Nat} (h : t.meas.scan = scanFrom s n) (hk : t.ctl.config = s.ctl.config) : ScanLaw t := by
  have hen (p : PressureNo) : enabled t p = enabled s p := by
    unfold enabled State.prCfg State.cfg
    rw [hk]
  unfold ScanLaw
  rcases scanFrom_cases s n with ⟨p, hp, he⟩ | hp <;> rw [h, hp] <;> simp_all

theorem scanFrom_ne_stopped (s : State) (n : Nat) : scanFrom s n ≠ .stopped := by
  rcases scanFrom_cases s n with ⟨p, hp, -⟩ | hp <;> rw [hp] <;> nofun

/-- A scan that runs is one in LISTEN, ACTIVE or MUTE, outside reset (R91, R107). -/
theorem measureLaw_scanning (h : MeasureLaw s) (hscan : s.meas.scan ≠ .stopped) :
    s.ctl.mode.applies = true ∧ s.inReset = false := by
  obtain ⟨-, -, hstopped, -⟩ := h
  have := mt hstopped.mpr hscan
  simpa using this

/-- Work that leaves the unit and the configuration alone, and the modes and the reset in which the scan runs. -/
theorem measureLaw_moved {x : Shell} (h : MeasureLaw s) (hmeas : x.meas = s.meas) (hk : x.ctl.config = s.ctl.config)
    (ha : x.ctl.mode.applies = s.ctl.mode.applies) (hr : x.ctl.mode.applies = true → x.reset.held = s.inReset) :
    MeasureLaw x.node := by
  obtain ⟨hstates, hscan, hstopped, hreset⟩ := h
  have hcfg (p : PressureNo) : x.node.prCfg p = s.prCfg p :=
    congrArg (fun k => (Option.getD k blankConfig).pressure[p.val]) hk
  refine ⟨fun p => ?_, ?_, ?_, fun h => hmeas.trans (hreset (ha ▸ h))⟩
  · rw [hcfg]
    have : x.node.pressure p = s.pressure p := congrArg (fun m : Measurement => m.channels[p.val]) hmeas
    rw [this]
    exact hstates p
  · have hen (p : PressureNo) : enabled x.node p = enabled s p := by simp only [enabled, hcfg]
    have hm : x.node.meas = s.meas := hmeas
    simpa only [ScanLaw, hen, hm] using hscan
  · have hm : x.node.meas = s.meas := hmeas
    rw [hm, hstopped]
    change _ ↔ x.ctl.mode.applies = false ∨ x.reset.held = true
    rw [← ha]
    cases hx : x.ctl.mode.applies with
    | true => rw [hr hx]
    | false => simp

/-- A scan that begins or goes on, with every pressure channel lawful. -/
theorem measureLaw_scans {x : Shell} {n : Nat}
    (hstates : ∀ p : PressureNo, PressureStateLaw (x.node.prCfg p).role (x.node.pressure p))
    (hscan : x.meas.scan = scanFrom s n) (hk : x.ctl.config = s.ctl.config) (ha : x.ctl.mode.applies = true)
    (hr : x.reset.held = false) : MeasureLaw x.node := by
  refine ⟨hstates, scanLaw_scanFrom (t := x.node) hscan hk, ?_, fun h => ?_⟩
  · change x.meas.scan = _ ↔ x.ctl.mode.applies = false ∨ x.reset.held = true
    simp [hscan, scanFrom_ne_stopped, ha, hr]
  · change x.ctl.mode.applies = false at h
    rw [ha] at h
    cases h

theorem pressure_replicate {x : Shell} (h : x.meas.channels = Vector.replicate 4 .reset) (p : PressureNo)
    (r : PressureRole) : PressureStateLaw r (x.node.pressure p) := by
  have : x.node.pressure p = .reset := by
    change x.meas.channels[p.val] = _
    rw [h, Vector.getElem_replicate]
  rw [this]
  exact pressureStateLaw_reset r

theorem ShellEvent.measureLaw {x : Shell} (h : ShellEvent s x) (hs : MeasureLaw s) : MeasureLaw x.node := by
  have hsame := hs
  obtain ⟨hstates, hscan, hstopped, hreset⟩ := hs
  cases h with
  | sampled p mode =>
    have hmode : (if p.station = 0 then Mode.lockout else .config).applies = false := by split <;> rfl
    exact measureLaw_moved hsame rfl rfl (hmode.trans (by simp [mode, Mode.applies]))
      (fun h => absurd (hmode.symm.trans h) nofun)
  | locked mode => exact measureLaw_moved hsame rfl rfl (by simp [mode, Mode.applies]) (by simp [Mode.applies])
  | active mode | listenAgain mode | activeAgain mode =>
    exact measureLaw_moved hsame rfl rfl (by simp [mode, Mode.applies]) (fun _ => rfl)
  | muted _ mode =>
    have ha : Mode.mute.applies = s.ctl.mode.applies := by rcases mode with mode | mode <;> simp [mode, Mode.applies]
    exact measureLaw_moved hsame rfl rfl ha (fun _ => rfl)
  | quietAgain | heard | spaced | silent | fiveSecs => exact measureLaw_moved hsame rfl rfl rfl fun _ => rfl
  | released mode => exact measureLaw_moved hsame rfl rfl rfl (by simp [mode])
  | cold => exact measureLaw_reset
  | held awake =>
    refine ⟨hstates, trivial, by simp [Shell.node, State.inReset], fun h => ?_⟩
    have := hreset h
    change ({ s.meas with scan := .stopped } : Measurement) = _
    rw [this]
    rfl
  | configured b mode awake =>
    have hm := hreset (by simp [mode, Mode.applies])
    exact measureLaw_scans (n := 0) (s := s.withCtl { s.ctl with config := some (decodeConfig s.station b) })
      (fun p => pressure_replicate (by change s.meas.channels = _; rw [hm]; rfl) p _) rfl rfl rfl awake
  | converted p a scan =>
    obtain ⟨ha, hr⟩ := measureLaw_scanning hsame (by simp [scan])
    have : enabled s p = true := by simpa [ScanLaw, scan] using hscan
    refine ⟨hstates, this, ?_, fun h => ?_⟩
    · change Scan.convB p a = .stopped ↔ s.ctl.mode.applies = false ∨ s.inReset = true
      simp [ha, hr]
    · exact absurd h (by change ¬ s.ctl.mode.applies = false; simp [ha])
  | supplied v scan =>
    obtain ⟨ha, hr⟩ := measureLaw_scanning hsame (by simp [scan])
    exact measureLaw_scans (s := s) hstates rfl rfl ha hr
  | paired p a b scan =>
    obtain ⟨ha, hr⟩ := measureLaw_scanning hsame (by simp [scan])
    have hp : enabled s p = true := by simpa [ScanLaw, scan] using hscan
    refine measureLaw_scans (s := s) (fun q => ?_) rfl rfl ha hr
    change PressureStateLaw (s.prCfg q).role ((s.setPressure p (applyPair (s.prCfg p) a b (s.pressure p))).pressure q)
    rw [State.pressure_setPressure]
    split
    · next h => subst h; exact applyPair_law _ _ _ (by simpa [enabled] using hp) (hstates p)
    · exact hstates q
  | resumedListen | resumedActive => exact measureLaw_scans (s := s) (fun p => pressure_replicate rfl p _) rfl rfl rfl rfl

theorem passMs_measureLaw (h : MeasureLaw s) : MeasureLaw (passMs s) := by
  rw [measureLaw_shell, passMs_shell]
  obtain ⟨hheld, -⟩ := s.panel.reset.tick_held
  split <;> exact measureLaw_moved h rfl rfl rfl (fun _ => hheld)

/-! ### The Peer Table (R126 to R134) -/

theorem entryLaw_reset (n : Nat) : EntryLaw n .reset := ⟨rfl, atMost_none _, atMost_none _⟩

theorem heardPeer_law {n : Nat} {x : Peer} (r : StatusRecord) (h : EntryLaw n x) : EntryLaw n (heardPeer n r x) := by
  obtain ⟨-, hspacing, hsilence⟩ := h
  have hsil : AtMost n (some n) := atMost_some.mpr le_rfl
  have hspc : AtMost spacingTime (some spacingTime) := atMost_some.mpr le_rfl
  unfold heardPeer
  cases hp : x.presence with
  | unknown | lost | present => simp [EntryLaw, hsil, hspc]
  | seen =>
    dsimp only
    split
    · simp [EntryLaw, hsil, hspc]
    · split
      · next hc => exact ⟨⟨hc, rfl, rfl⟩, hspc, hsil⟩
      · simp [EntryLaw, hsil, hspc]

theorem silentPeer_law {n : Nat} {x : Peer} (h : EntryLaw n x) (hruns : x.silence.isSome = true) :
    EntryLaw n (silentPeer x) := by
  obtain ⟨hentry, -⟩ := h
  refine ⟨⟨rfl, rfl, rfl, ?_⟩, atMost_none _, atMost_none _⟩
  change x.record.isSome = true
  cases hp : x.presence <;> simp_all [Peer.reset]

theorem spacing_stopped_law {n : Nat} {x : Peer} (h : EntryLaw n x) : EntryLaw n { x with spacing := none } := by
  obtain ⟨hentry, -, hsilence⟩ := h
  refine ⟨?_, atMost_none _, hsilence⟩
  cases hp : x.presence <;> simp_all [Peer.reset]

theorem resumePeer_law {n : Nat} {x : Peer} (h : EntryLaw n x) : EntryLaw n (resumePeer n x) := by
  obtain ⟨hentry, -⟩ := h
  have hsil : AtMost n (some n) := atMost_some.mpr le_rfl
  unfold resumePeer
  cases hp : x.presence <;> rw [hp] at hentry
  case unknown => exact entryLaw_reset n
  case lost => exact ⟨⟨rfl, rfl, rfl, hentry.2.2.2⟩, atMost_none _, atMost_none _⟩
  case seen | present => exact ⟨⟨Nat.zero_le _, rfl, hentry.2.2⟩, atMost_none _, hsil⟩

theorem tickPeer_law {n : Nat} {x : Peer} (h : EntryLaw n x) : EntryLaw n x.tick := by
  obtain ⟨hentry, hspacing, hsilence⟩ := h
  refine ⟨?_, atMost_countDown 1 hspacing, atMost_countDown 1 hsilence⟩
  change match x.presence with
    | .unknown => x.tick = .reset
    | .lost => _
    | .seen => _
    | .present => _
  cases hp : x.presence <;> rw [hp] at hentry
  case unknown => subst hentry; rfl
  case lost => simp_all [Peer.tick, countDown]
  case seen | present => simp_all [Peer.tick, countDown]

/-- Every entry, that of a station with none included, is lawful. -/
theorem peerLaw_iff : PeerLaw s ↔ (∀ z : Nat, EntryLaw s.silence (s.peer z)) ∧ s.peer s.station = .reset
    ∧ (s.ctl.mode.applies = false → s.peers = State.reset.peers) := by
  refine and_congr_left fun _ => ⟨fun h z => ?_, fun h z => ?_⟩
  · unfold State.peer
    split
    · next hz => exact h ⟨z - 1, by omega⟩
    · exact entryLaw_reset _
  · have := h (z.val + 1)
    simpa [State.peer, show z.val + 1 ≤ 63 by omega] using this

/-- Work that leaves the straps, and each entry as a function of the station makes it. -/
theorem peerLaw_moved {x : Shell} (f : Nat → Peer → Peer) (h : PeerLaw s) (hstraps : x.ctl.straps = s.ctl.straps)
    (hpeer : ∀ z, x.node.peer z = f z (s.peer z))
    (hf : ∀ z, EntryLaw s.silence (s.peer z) → EntryLaw s.silence (f z (s.peer z))) (hown : f s.station .reset = .reset)
    (hempty : x.ctl.mode.applies = false → x.peers = State.reset.peers) : PeerLaw x.node := by
  obtain ⟨hentries, hself, -⟩ := peerLaw_iff.mp h
  have hsilence : x.node.silence = s.silence := silence_congr hstraps
  have hstation : x.node.station = s.station := by
    change (x.ctl.straps.map _).getD 0 = _
    rw [hstraps]
    rfl
  refine peerLaw_iff.mpr ⟨fun z => ?_, ?_, hempty⟩
  · rw [hsilence, hpeer]
    exact hf z (hentries z)
  · rw [hstation, hpeer, hself, hown]

theorem peer_mapVec {x : Shell} {f : Peer → Peer} (h : x.peers.entries = mapVec f s.peers.entries)
    (hf : f .reset = .reset) (z : Nat) : x.node.peer z = f (s.peer z) := by
  unfold State.peer
  split
  · next hz =>
    change x.peers.entries[z - 1] = _
    simp [h]
  · exact hf.symm

theorem peer_congr (h : t.peers.entries = s.peers.entries) (z : Nat) : t.peer z = s.peer z := by
  simp only [State.peer, h]

theorem peer_of_empty (h : s.peers = State.reset.peers) (z : Nat) : s.peer z = .reset := by
  unfold State.peer
  split
  · simp [h, State.reset]
  · rfl

/-- An empty table is lawful, whatever the straps (R134). -/
theorem peerLaw_of_empty (h : s.peers = State.reset.peers) : PeerLaw s :=
  peerLaw_iff.mpr ⟨fun z => by rw [peer_of_empty h]; exact entryLaw_reset _, peer_of_empty h _, fun _ => h⟩

theorem setPeer_same_peers {z : Nat} {e : Peer} (h : s.peer z = e) : (s.setPeer z e).peers = s.peers := by
  subst h
  unfold State.setPeer State.peer
  split
  · simp
  · rfl

theorem ShellEvent.peerLaw {x : Shell} (h : ShellEvent s x) (hs : PeerLaw s) : PeerLaw x.node := by
  obtain ⟨hentries, hself, hempty⟩ := peerLaw_iff.mp hs
  have hblank (ha : s.ctl.mode.applies = false) (z : Nat) : s.peer z = .reset := peer_of_empty (hempty ha) z
  have hsame {y : Shell} (hstraps : y.ctl.straps = s.ctl.straps) (hp : y.peers.entries = s.peers.entries)
      (ha : y.ctl.mode.applies = false → y.peers = State.reset.peers) : PeerLaw y.node :=
    peerLaw_moved (fun _ e => e) hs hstraps (peer_congr (t := y.node) hp) (fun _ h => h) rfl ha
  have hset {y : Shell} {z : Nat} {e : Peer} (hctl : y.ctl = s.ctl) (hp : y.peers = (s.setPeer z e).peers)
      (he : EntryLaw s.silence (s.peer z) → EntryLaw s.silence e) (hz : z = s.station → e = .reset)
      (ha : s.ctl.mode.applies = false → s.peer z = e) : PeerLaw y.node := by
    refine peerLaw_moved (fun w o => if z = w ∧ 1 ≤ z ∧ z ≤ 63 then e else o) hs (by rw [hctl])
      (fun w => (peer_congr (t := y.node) (s := s.setPeer z e) (congrArg _ hp) w).trans (State.peer_setPeer ..))
      (fun w hw => ?_) ?_ (fun h => ?_)
    · split
      · next h => obtain ⟨rfl, -⟩ := h; exact he hw
      · exact hw
    · split
      · next h => exact hz h.1
      · rfl
    · rw [hctl] at h
      rw [hp, setPeer_same_peers (ha h), hempty h]
  cases h with
  | sampled p mode =>
    have ha : s.ctl.mode.applies = false := by simp [mode, Mode.applies]
    exact peerLaw_of_empty (hempty ha)
  | locked mode => exact hsame rfl rfl (fun _ => hempty (by simp [mode, Mode.applies]))
  | configured b mode => exact hsame rfl rfl (fun _ => hempty (by simp [mode, Mode.applies]))
  | active | muted | listenAgain | activeAgain => exact hsame rfl rfl nofun
  | quietAgain | converted | paired | supplied | held | fiveSecs | released => exact hsame rfl rfl hempty
  | cold => exact peerLaw_of_empty rfl
  | heard z r ha other =>
    exact hset rfl rfl (heardPeer_law r) (fun h => absurd h other) (fun h => by rw [ha] at h; cases h)
  | spaced z =>
    refine hset rfl rfl spacing_stopped_law (fun h => ?_) (fun h => ?_)
    · rw [h, hself]; rfl
    · rw [hblank h]; rfl
  | silent z runs =>
    refine hset rfl rfl (fun h => silentPeer_law h runs) (fun h => ?_) (fun h => ?_)
    · rw [h, hself] at runs; cases runs
    · rw [hblank h] at runs; cases runs
  | resumedListen | resumedActive =>
    exact peerLaw_moved (fun _ e => resumePeer s.silence e) hs rfl (peer_mapVec rfl rfl) (fun _ => resumePeer_law) rfl
      nofun

theorem passMs_peerLaw (h : PeerLaw s) : PeerLaw (passMs s) := by
  rw [peerLaw_shell, passMs_shell]
  split
  · exact h
  · have ⟨_, _, hempty⟩ := h
    refine peerLaw_moved (fun _ e => e.tick) h rfl (peer_mapVec rfl rfl) (fun _ => tickPeer_law) rfl (fun ha => ?_)
    change ({ s.peers with entries := mapVec Peer.tick s.peers.entries } : PeerTable) = _
    rw [hempty ha]
    decide

end Sys2Proof.Machine

open Sys2Proof Sys2Proof.Machine in
/-- Settles O3: no arm of `exec` faults or refuses, and no event of the shell touches the queue. -/
theorem everyCommandAnswersNext : Obligations.EveryCommandAnswersNext := by
  intro i s
  have hnext : ∃ t, exec i s = .next t := by cases i <;> exact ⟨_, rfl⟩
  obtain ⟨t, ht⟩ := hnext
  exact ⟨t, ht, (exec_shellRun ht).pending⟩

open Sys2Proof Sys2Proof.Machine in
/-- Settles O4: every event of the shell leaves timers, origin, straps and configuration where the mode has them. -/
theorem stepKeepsModeLaw : Obligations.StepKeepsModeLaw := fun _ _ hs h =>
  step_keeps (fun _ => modeLaw_shell) (fun _ _ hs => hs) ShellEvent.modeLaw (fun _ => passMs_modeLaw) hs h

open Sys2Proof Sys2Proof.Machine in
/-- Settles O9: a pair alone moves a pressure channel, the scan goes on to enabled channels, and modes start and stop it. -/
theorem stepKeepsMeasureLaw : Obligations.StepKeepsMeasureLaw := fun _ _ _ hs h =>
  step_keeps (fun _ => measureLaw_shell) (fun _ _ hs => hs) ShellEvent.measureLaw (fun _ => passMs_measureLaw) hs h

open Sys2Proof Sys2Proof.Machine in
/-- Settles O11: every event of the shell makes a lawful entry of a lawful one and leaves own entry alone. -/
theorem stepKeepsPeerLaw : Obligations.StepKeepsPeerLaw := fun _ _ hs h =>
  step_keeps (fun _ => peerLaw_shell) (fun _ _ hs => hs) ShellEvent.peerLaw (fun _ => passMs_peerLaw) hs h
end

section
/-! What any work of the blocks does to the Trouble Unit and to the place of STATUS: raises and ends of conditions, and notices
to the status composer, with the Mode Controller and the RESET line as they are (R58, R85, R115, R121, R157). -/

namespace Sys2Proof.Machine

/-! ### Reports -/

/-- Nothing is reported: the Trouble Unit, the Mode Controller, the RESET line and what the composer's notices read and move
are as they were. -/
structure Unreported (s t : State) : Prop where
  ctl     : t.ctl = s.ctl
  trouble : t.trouble = s.trouble
  reset   : t.panel.reset = s.panel.reset
  attempt : t.link.attempt = s.link.attempt
  queued  : t.link.queue.status = s.link.queue.status
  early   : t.status.earlyPending = s.status.earlyPending

/-- A run of reports: conditions that begin and end, and notices to the status composer. -/
inductive ReportRun : State → State → Prop
  | quiet {s t : State} (h : Unreported s t) : ReportRun s t
  | raised (c : Cond) (h : QualifierLaw c) (s : State) : ReportRun s (raise c s)
  | ended (c : Cond) (s : State) : ReportRun s (endCond c s)
  | noticed (s : State) : ReportRun s (statusNotice s)
  | trans {s t u : State} (first : ReportRun s t) (then_ : ReportRun t u) : ReportRun s u

namespace ReportRun

variable {s t u : State}

theorem refl (s : State) : ReportRun s s := .quiet ⟨rfl, rfl, rfl, rfl, rfl, rfl⟩

/-- A write of other blocks alone. -/
theorem write (hctl : t.ctl = s.ctl) (hlink : t.link = s.link) (hstatus : t.status = s.status)
    (htrouble : t.trouble = s.trouble) (hpanel : t.panel = s.panel) : ReportRun s t :=
  .quiet ⟨hctl, htrouble, by rw [hpanel], by rw [hlink], by rw [hlink], by rw [hstatus]⟩

/-- Transitivity, the later part first. -/
theorem after (k : ReportRun t u) (h : ReportRun s t) : ReportRun s u := h.trans k

theorem ite {p : Prop} [Decidable p] (h : ReportRun s t) (k : ReportRun s u) : ReportRun s (if p then t else u) := by
  split
  · exact h
  · exact k

theorem foldl {α : Type} {f : State → α → State} (h : ∀ s a, ReportRun s (f s a)) (l : List α) (s : State) :
    ReportRun s (l.foldl f s) :=
  foldl_preserves s (ReportRun s) f (fun u a k => k.trans (h u a)) l (.refl s)

/-- A run of reports leaves the Mode Controller and the RESET line. -/
theorem keeps (h : ReportRun s t) : t.ctl = s.ctl ∧ t.panel.reset = s.panel.reset := by
  have reported {s t : State} (h : t.lessReports = s.lessReports) : t.ctl = s.ctl ∧ t.panel.reset = s.panel.reset := by
    obtain ⟨hctl, -, -, -, -, -, -, -, hpanel, -⟩ := lessReports_eq h
    exact ⟨hctl, by rw [hpanel]⟩
  induction h with
  | quiet h => exact ⟨h.ctl, h.reset⟩
  | raised c _ s => exact reported (raise_lessReports s c)
  | ended c s => exact reported (endCond_lessReports s c)
  | noticed s => exact reported (statusNotice_lessReports s)
  | trans _ _ ih ih' => exact ⟨ih'.1.trans ih.1, ih'.2.trans ih.2⟩

end ReportRun

theorem qualifierLaw_plain {k : CondCode} (h : k.plain = true) : QualifierLaw (plainCond k) := by
  cases k <;> first | rfl | cases h

/-- The condition of a sequencer carries its channel's number (R157). -/
theorem seqCond_qualifierLaw {d : ChannelNo} {q : Sequencer} {c : Cond} (h : seqCond d q = some c) : QualifierLaw c := by
  obtain ⟨hcode, hqual⟩ := seqCond_spec h
  have := d.isLt
  have hlow : 1 ≤ c.qualifier := by omega
  have hhigh : c.qualifier ≤ 12 := by omega
  unfold QualifierLaw
  cases hk : c.code <;> rw [hk] at hcode
  case damperJammed | limitConflict | fanBlocked | fanProveFail | fanRunLost => exact ⟨hlow, hhigh⟩
  all_goals cases hcode

theorem containCond_qualifierLaw {x : ContainState} {c : Cond} (h : containCond x = some c) : QualifierLaw c := by
  rw [containCond_spec h.symm]
  exact qualifierLaw_plain rfl

variable (s : State)

theorem swapCond_reports {old new : Option Cond} (h : ∀ c, new = some c → QualifierLaw c) :
    ReportRun s (swapCond old new s) := by
  have hend : ReportRun s (endOpt old s) := by
    cases old with
    | none => exact .refl s
    | some c => exact .ended c s
  have hraise (u : State) : ReportRun u (raiseOpt new u) := by
    cases hn : new with
    | none => exact .refl u
    | some c => exact .raised c (h c hn) u
  exact .ite (.refl s) (hend.trans (hraise _))

/-! ### Sequencers (R58, R85) -/

theorem setSeq_reports (c : ChannelNo) (q : Sequencer) : ReportRun s (setSeq c q s) :=
  .after (swapCond_reports _ fun _ => seqCond_qualifierLaw) (.write rfl rfl rfl rfl rfl)

theorem enterStopped_reports (c : ChannelNo) : ReportRun s (enterStopped c s) := by
  unfold enterStopped
  split <;> exact setSeq_reports s c _

theorem enterStarting_reports (c : ChannelNo) : ReportRun s (enterStarting c s) :=
  .ite (setSeq_reports s c _) (setSeq_reports s c _)

theorem enterStopping_reports (c : ChannelNo) : ReportRun s (enterStopping c s) :=
  .ite (enterStopped_reports s c) (setSeq_reports s c _)

theorem fanTarget_reports (c : ChannelNo) : ReportRun s (fanTarget c s) := by
  unfold fanTarget
  split
  case h_1 | h_2 | h_3 | h_4 | h_9 => exact enterStopped_reports s c
  case h_5 | h_6 | h_7 | h_8 => exact enterStopping_reports s c
  case h_10 => exact .refl s

theorem fanRole_reports (c : ChannelNo) : ReportRun s (fanRole c s) := by
  unfold fanRole
  split
  case h_1 | h_2 => exact .ite (.refl s) (setSeq_reports s c _)
  case h_3 => exact enterStopped_reports s c
  case h_4 => exact .refl s

theorem fanNotice_reports (a b : Bool) (c : ChannelNo) : ReportRun s (fanNotice a b c s) :=
  .trans (.ite (fanTarget_reports s c) (.refl s)) (.ite (fanRole_reports _ c) (.refl _))

theorem provingEvent_reports (b : Bool) (c : ChannelNo) : ReportRun s (provingEvent b c s) := by
  unfold provingEvent
  split
  case h_1 | h_2 | h_3 => exact setSeq_reports s c _
  case h_4 => exact .ite (setSeq_reports s c _) (setSeq_reports s c _)
  case h_5 => exact .refl s

theorem provingExpiry_reports (c : ChannelNo) : ReportRun s (provingExpiry c s) := by
  unfold provingExpiry
  split
  · exact .ite (.refl s) (.ite (setSeq_reports s c _) (setSeq_reports s c _))
  · exact .refl s

theorem runDownExpiry_reports (c : ChannelNo) : ReportRun s (runDownExpiry c s) := by
  unfold runDownExpiry
  split
  · exact enterStopped_reports s c
  · exact .refl s

theorem interlockEvent_reports (d c : ChannelNo) : ReportRun s (interlockEvent d s c) := by
  unfold interlockEvent
  split
  · split
    case h_1 | h_2 => exact setSeq_reports s c _
    case h_3 => exact .ite (setSeq_reports s c _) (.refl s)
    case h_4 => exact .refl s
  · exact .refl s

theorem setTravel_reports (c : ChannelNo) (q : Sequencer) : ReportRun s (setTravel c q s) :=
  .trans (setSeq_reports s c q) (.ite (.foldl (fun u e => interlockEvent_reports u c e) _ _) (.refl _))

theorem damperTarget_reports (c : ChannelNo) : ReportRun s (damperTarget c s) := by
  unfold damperTarget
  split
  · exact .ite (.refl s) (setTravel_reports s c _)
  · exact setTravel_reports s c _
  · exact .refl s

theorem limitEvent_reports (c : ChannelNo) : ReportRun s (limitEvent c s) := by
  unfold limitEvent
  dsimp only
  split
  · refine .ite (setTravel_reports s c _) ?_
    split
    case h_1 => exact setTravel_reports s c _
    case h_2 | h_3 => exact .ite (.refl s) (setTravel_reports s c _)
    case h_4 | h_5 | h_6 => exact .ite (setTravel_reports s c _) (.refl s)
  · exact .refl s

theorem travelExpiry_reports (c : ChannelNo) : ReportRun s (travelExpiry c s) := by
  unfold travelExpiry
  split
  · exact .ite (.refl s) (setTravel_reports s c _)
  · exact .refl s

theorem startDamper_reports (c : ChannelNo) : ReportRun s (startDamper c s) :=
  .ite (setTravel_reports s c _) (.refl s)

theorem startFan_reports (c : ChannelNo) : ReportRun s (startFan c s) := .ite (enterStopped_reports s c) (.refl s)

theorem resumeFan_reports (q : Sequencer) (c : ChannelNo) : ReportRun s (resumeFan q c s) := by
  unfold resumeFan
  refine .ite ?_ (.refl s)
  split
  case h_1 | h_2 | h_3 | h_4 => exact enterStarting_reports s c
  case h_5 => exact enterStopping_reports s c
  case h_6 => exact enterStopped_reports s c

theorem startSequencers_reports : ReportRun s (startSequencers s) :=
  .trans (.foldl startDamper_reports _ s) (.foldl startFan_reports _ _)

theorem resumeSequencers_reports (v : Vector Channel 12) : ReportRun s (resumeSequencers v s) :=
  .trans (.foldl startDamper_reports _ s) (.foldl (fun u c => resumeFan_reports u _ c) _ _)

/-! ### The start logic (R71 to R78): claims report nothing -/

/-- A claim enters or leaves the queue. -/
theorem setClaim_reports (b : Bool) (x : StartLogic) : ReportRun s ((s.setQueued .claim b).withStarts x) :=
  .quiet ⟨rfl, rfl, rfl, rfl, rfl, rfl⟩

theorem withdrawClaim_reports : ReportRun s (withdrawClaim s) := by
  unfold withdrawClaim
  split
  · exact setClaim_reports s _ _
  · exact .refl s

theorem startTests_reports : ReportRun s (startTests s) := by
  have hisolated (u : State) : ReportRun u (isolatedTest u) := by
    unfold isolatedTest
    split
    · exact .refl u
    · refine .ite ?_ (.refl u)
      exact ((enterStarting_reports u _).trans (withdrawClaim_reports _)).trans (.write rfl rfl rfl rfl rfl)
  have hwithdraw : ReportRun s (withdrawTest s) := .ite (withdrawClaim_reports s) (.refl s)
  have hclaim (u : State) : ReportRun u (claimTest u) := .ite (setClaim_reports u _ _) (.refl u)
  exact (hwithdraw.trans (hclaim _)).trans (hisolated _)

theorem peerClaim_reports (n : Nat) : ReportRun s (peerClaim n s) :=
  .after (withdrawClaim_reports _) (.write rfl rfl rfl rfl rfl)

theorem ownClaim_reports : ReportRun s (ownClaim s) := by
  unfold ownClaim
  split
  · next c _ carried _ =>
    exact .trans (t := raiseHoldOff carried (s.withStarts { s.starts with claim := .absent }))
      (.write rfl rfl rfl rfl rfl) (.ite (enterStarting_reports _ _) (.refl _))
  · exact .refl s

theorem claimRequeued_reports : ReportRun s (claimRequeued s) := by
  unfold claimRequeued
  split <;> exact .write rfl rfl rfl rfl rfl

/-! ### Containment and the recompute (R29, R111 to R117) -/

theorem setContain_reports (st : ContainState) (g : Option Nat) : ReportRun s (setContain st g s) :=
  .trans (t := s.withContain { state := st, grace := g }) (.write rfl rfl rfl rfl rfl)
    (.ite (.refl _) (.trans (.noticed _) (swapCond_reports _ fun _ => containCond_qualifierLaw)))

theorem deriveContain_reports : ReportRun s (deriveContain s) :=
  .ite (setContain_reports s _ _) (.ite (setContain_reports s _ _) (setContain_reports s _ _))

theorem containRole_reports (a b : ZoneRole) : ReportRun s (containRole a b s) :=
  .ite (.ite (.refl s) (deriveContain_reports s)) (setContain_reports s _ _)

theorem containComparator_reports : ReportRun s (containComparator s) := by
  unfold containComparator
  split
  case h_1 | h_3 => exact .ite (setContain_reports s _ _) (.refl s)
  case h_2 => exact .ite (.refl s) (setContain_reports s _ _)
  case h_4 | h_5 => exact .refl s

theorem graceExpiry_reports : ReportRun s (graceExpiry s) := by
  unfold graceExpiry
  split
  · exact .ite (setContain_reports s _ _) (.refl s)
  · exact .refl s

theorem graceStart_reports : ReportRun s (graceStart s) := .ite (.write rfl rfl rfl rfl rfl) (.refl s)

theorem resumeContain_reports : ReportRun s (resumeContain s) :=
  .ite (.ite (setContain_reports s _ _) (setContain_reports s _ _)) (setContain_reports s _ _)

theorem recompute_reports : ReportRun s (recompute s) := by
  unfold recompute
  refine .ite ?_ (.refl s)
  dsimp only
  refine .trans ?_ (startTests_reports _)
  refine .trans ?_ (.foldl (fun u c => fanNotice_reports u _ _ c) _ _)
  refine .trans ?_ (.foldl damperTarget_reports _ _)
  refine .trans ?_ (.ite (.trans (.noticed _) (containRole_reports _ _ _)) (.refl _))
  exact .after (.foldl (f := fun u c => replaceTarget c (newTarget u c) u) (fun u c => .write rfl rfl rfl rfl rfl) _ _)
    (.write rfl rfl rfl rfl rfl)

/-! ### The register (R3, R4, R9) -/

theorem followLatch_reports {c : Cond} (h : QualifierLaw c) (b : Bool) : ReportRun s (followLatch c b s) :=
  .ite (.raised c h s) (.ended c s)

theorem storeRegister_reports (new : IncidentRegister) : ReportRun s (storeRegister new s) := by
  refine .after (followLatch_reports _ (qualifierLaw_plain rfl) _) (.after (followLatch_reports _ (qualifierLaw_plain rfl) _) ?_)
  exact .trans (t := s.withReg new) (.write rfl rfl rfl rfl rfl) (.ite (.refl _) (.noticed _))

theorem registerEvent_reports (new : IncidentRegister) : ReportRun s (registerEvent new s) :=
  .trans (storeRegister_reports s new) (.ite (.refl _) (recompute_reports _))

theorem placeDeclare_reports : ReportRun s (placeDeclare s) := .ite (.quiet ⟨rfl, rfl, rfl, rfl, rfl, rfl⟩) (.refl s)

theorem declarationCheck_reports : ReportRun s (declarationCheck s) :=
  .ite (.after (placeDeclare_reports _) (.write rfl rfl rfl rfl rfl)) (.refl s)

theorem replaceDeclare_reports : ReportRun s (replaceDeclare s) := .ite (placeDeclare_reports s) (.refl s)

theorem resumeDeclaration_reports : ReportRun s (resumeDeclaration s) :=
  .ite (.after (placeDeclare_reports _) (.write rfl rfl rfl rfl rfl)) (declarationCheck_reports s)

/-! ### The supply, the pressure channels and the Peer Table (R95, R104, R132) -/

theorem followSupply_reports (x : Supply) : ReportRun s (followSupply x s) := by
  have hfail := qualifierLaw_plain (k := .fieldSupplyFail) rfl
  have hlow := qualifierLaw_plain (k := .fieldSupplyLow) rfl
  cases x with
  | normal => exact .trans (.ended _ s) (.ended _ _)
  | low => exact .trans (.ended _ s) (.raised _ hlow _)
  | fail => exact .trans (.raised _ hfail s) (.raised _ hlow _)

theorem resumeConditions_reports : ReportRun s (resumeConditions s) :=
  .trans (.trans (followSupply_reports s _) (followLatch_reports _ (qualifierLaw_plain rfl) _))
    (followLatch_reports _ (qualifierLaw_plain rfl) _)

theorem supplyEvent_reports (v : Nat) : ReportRun s (supplyEvent v s) := by
  refine .ite (.refl s) (.after (startTests_reports _) (.after (followSupply_reports _ _) ?_))
  exact .write rfl rfl rfl rfl rfl

theorem passComparator_reports (p : PressureNo) (b : Bool) : ReportRun s (passComparator p b s) := by
  unfold passComparator
  split
  · exact .foldl (fun u c => .ite (provingEvent_reports u b c) (.refl u)) _ s
  · exact containComparator_reports s
  · exact .refl s

theorem pairEvent_reports (p : PressureNo) (a b : Code) : ReportRun s (pairEvent p a b s) := by
  have hsensor : QualifierLaw (sensorFault p) := ⟨by simp [sensorFault], by have := p.isLt; simp [sensorFault]⟩
  have hset : ReportRun s (s.setPressure p (applyPair (s.prCfg p) a b (s.pressure p))) := .write rfl rfl rfl rfl rfl
  exact .trans (hset.trans (.ite (.refl _) (followLatch_reports _ hsensor _)))
    (.ite (.refl _) (passComparator_reports _ p _))

theorem setPeer_reports (z : Nat) (x : Peer) : ReportRun s (s.setPeer z x) := by
  unfold State.setPeer
  split <;> exact .write rfl rfl rfl rfl rfl

theorem storeStatus_reports (z : Nat) (r : StatusRecord) : ReportRun s (storeStatus z r s) :=
  .ite (.refl s) (.trans (setPeer_reports s z _) (.ite (.ended _ _) (.refl _)))

theorem raiseSilent_reports : ReportRun s (raiseSilent s) := by
  have hall (l : List Nat) (hl : ∀ z ∈ l, 1 ≤ z ∧ z ≤ 63) (u : State) :
      ReportRun u (l.foldl (fun s z => if isSilent s z then raise (neighbourSilent z) s else s) u) := by
    induction l generalizing u with
    | nil => exact .refl u
    | cons z l ih =>
      have hz : QualifierLaw (neighbourSilent z) := hl z (List.mem_cons_self ..)
      exact .trans (.ite (.raised _ hz u) (.refl u)) (ih (fun y hy => hl y (List.mem_cons_of_mem _ hy)) _)
  exact hall allZones (fun z => mem_allZones.mp) s

theorem completeListening_reports : ReportRun s (completeListening s) :=
  .ite (.refl s) (.after (raiseSilent_reports _) (.write rfl rfl rfl rfl rfl))

/-- A station's silence timer, of a station that has an entry (R126). -/
theorem silenceExpiry_reports (z : Nat) : ReportRun s (silenceExpiry z s) := by
  unfold silenceExpiry
  split
  · next h =>
    have hz : QualifierLaw (neighbourSilent z) := by
      unfold State.peer at h
      split at h
      · assumption
      · cases h
    refine .trans (setPeer_reports s z (silentPeer (s.peer z))) ?_
    exact .ite (.trans (.raised _ hz _) (recompute_reports _)) (.refl _)
  · exact .refl s

/-! ### The composer's own frames in the sending modes (R119 to R121) -/

theorem startStagger_reports (h : s.ctl.mode.sends = true) : ReportRun s (startStagger s) := by
  unfold startStagger
  split
  · have hnotice : queueStatus (s.withStatus { s.status with period := none })
        = statusNotice (s.withStatus { s.status with period := none }) := (if_pos h).symm
    rw [hnotice]
    exact .trans (t := s.withStatus { s.status with period := none }) (.quiet ⟨rfl, rfl, rfl, rfl, rfl, rfl⟩) (.noticed _)
  · exact .quiet ⟨rfl, rfl, rfl, rfl, rfl, rfl⟩

end Sys2Proof.Machine
end

section
/-! One millisecond, field by field, and what an empty queue lets happen: O1 and O2 (00, Conventions; R45, R57, R83, R84, R154 to
R156). -/

namespace Sys2Proof.Machine

variable {s : State}

/-- One sequencer's timers (R57, R83, R84). -/
def tickChannel (s : State) (c : ChannelNo) : State :=
  s.setCh c { s.ch c with seq := tickSeq (s.chCfg c).kind s.meas.supply (s.ch c).seq }

theorem tickChannel_ch (s : State) (c d : ChannelNo) : (tickChannel s c).ch d =
    if c = d then { s.ch d with seq := tickSeq (s.chCfg d).kind s.meas.supply (s.ch d).seq } else s.ch d := by
  unfold tickChannel
  rw [State.ch_setCh]
  split
  · next h => rw [h]
  · rfl

theorem foldl_tickChannel (l : List ChannelNo) (s : State) : l.foldl tickChannel s = s.withChans (l.foldl tickChannel s).chans := by
  induction l generalizing s with
  | nil => rfl
  | cons c l ih => exact ih (tickChannel s c)

theorem foldl_tickChannel_ch (l : List ChannelNo) (hl : l.Nodup) (s : State) (d : ChannelNo) :
    (l.foldl tickChannel s).ch d =
      if d ∈ l then { s.ch d with seq := tickSeq (s.chCfg d).kind s.meas.supply (s.ch d).seq } else s.ch d := by
  induction l generalizing s with
  | nil => rfl
  | cons c l ih =>
    obtain ⟨hc, hl⟩ := List.nodup_cons.mp hl
    rw [List.foldl_cons, ih hl, tickChannel_ch]
    have hcfg : (tickChannel s c).chCfg d = s.chCfg d := rfl
    have hmeas : (tickChannel s c).meas = s.meas := rfl
    rw [hcfg, hmeas]
    by_cases hcd : c = d
    · subst hcd
      simp [hc]
    · simp [hcd, Ne.symm hcd]

theorem tickSequencers_eq (s : State) : tickSequencers s = s.withChans (tickSequencers s).chans :=
  foldl_tickChannel allChannels s

theorem tickSequencers_ch (s : State) (c : ChannelNo) : (tickSequencers s).ch c =
    { s.ch c with seq := tickSeq (s.chCfg c).kind s.meas.supply (s.ch c).seq } := by
  have h := foldl_tickChannel_ch allChannels (by decide) s c
  rwa [if_pos (by fin_cases c <;> decide)] at h

/-- The timers outside reset, block by block; the sequencers' stand with their channels. -/
theorem tickTimers_eq (s : State) : tickTimers s =
    { s with
      ctl := { s.ctl with
        listenTimer := countDown 1 s.ctl.listenTimer, quietTimer := countDown 1 s.ctl.quietTimer }
      reg := { s.reg with isoTimer := countDown 1 s.reg.isoTimer }
      starts := { s.starts with holdOff := countDown 1 s.starts.holdOff }
      contain := { s.contain with grace := countDown 1 s.contain.grace }
      status := { s.status with period := countDown 1 s.status.period }
      peers := { s.peers with entries := mapVec Peer.tick s.peers.entries }
      chans := (tickTimers s).chans } := by
  unfold tickTimers
  dsimp only
  rw [tickSequencers_eq]
  rfl

theorem tickTimers_ch (s : State) (c : ChannelNo) : (tickTimers s).ch c =
    { s.ch c with seq := tickSeq (s.chCfg c).kind s.meas.supply (s.ch c).seq } := by
  unfold tickTimers
  dsimp only
  rw [tickSequencers_ch]
  rfl

/-- A millisecond outside reset, block by block. -/
theorem passMs_outside (hr : s.inReset = false) : passMs s =
    { s with
      ctl := { s.ctl with
        listenTimer := countDown 1 s.ctl.listenTimer, quietTimer := countDown 1 s.ctl.quietTimer }
      reg := { s.reg with isoTimer := countDown 1 s.reg.isoTimer }
      starts := { s.starts with holdOff := countDown 1 s.starts.holdOff }
      contain := { s.contain with grace := countDown 1 s.contain.grace }
      status := { s.status with period := countDown 1 s.status.period }
      peers := { s.peers with entries := mapVec Peer.tick s.peers.entries }
      chans := (passMs s).chans
      panel := { s.panel with
        alarm := s.panel.alarm.tick, panelReset := s.panel.panelReset.tick, ack := s.panel.ack.tick
        reset := s.panel.reset.tick }
      trouble := { s.trouble with record := s.trouble.record.map (fun r => { r with acked := false }) } } := by
  unfold passMs
  rw [outside_of_not_inReset hr, tickTimers_eq]
  rfl

/-- A millisecond in reset: the lines and the inputs alone. -/
theorem passMs_inReset (hr : s.inReset = true) : passMs s =
    { s with
      chans := (passMs s).chans
      panel := { s.panel with
        alarm := s.panel.alarm.tick, panelReset := s.panel.panelReset.tick, ack := s.panel.ack.tick
        reset := s.panel.reset.tick }
      trouble := { s.trouble with record := s.trouble.record.map (fun r => { r with acked := false }) } } := by
  unfold passMs
  rw [outside_of_inReset hr]
  rfl

theorem passMs_ch (s : State) (c : ChannelNo) : (passMs s).ch c = { s.ch c with
    seq := if s.inReset then (s.ch c).seq else tickSeq (s.chCfg c).kind s.meas.supply (s.ch c).seq
    inA := (s.ch c).inA.tick, inB := (s.ch c).inB.tick } := by
  have hlines (u : State) : (endAck (tickLines u)).ch c =
      { u.ch c with inA := (u.ch c).inA.tick, inB := (u.ch c).inB.tick } := ch_mapVec _ u c
  unfold passMs
  rw [hlines]
  cases hr : s.inReset with
  | true => rw [outside_of_inReset hr]; rfl
  | false => rw [outside_of_not_inReset hr, tickTimers_ch]; rfl

/-- The RESET line's interval counts against the level taken, and its hold while held (R156). -/
theorem ResetLine.tick_eq (x : ResetLine) : x.tick = { x with
    run := if x.raw = x.held then 0 else x.run + 1
    hold := if x.held then min 5000 (x.hold + 1) else x.hold } := by
  unfold ResetLine.tick
  cases hh : x.held <;> cases hraw : x.raw <;> rfl

theorem passMs_panel (s : State) : (passMs s).panel = { s.panel with
    alarm := s.panel.alarm.tick, panelReset := s.panel.panelReset.tick, ack := s.panel.ack.tick
    reset := s.panel.reset.tick } := by
  cases hr : s.inReset with
  | true => rw [passMs_inReset hr]
  | false => rw [passMs_outside hr]

theorem passMs_rest (s : State) : (passMs s).role = s.role ∧ (passMs s).link = s.link ∧ (passMs s).meas = s.meas
    ∧ (passMs s).freeTick = s.freeTick ∧ (passMs s).pending = s.pending
    ∧ (passMs s).trouble = { s.trouble with record := s.trouble.record.map (fun r => { r with acked := false }) } := by
  cases hr : s.inReset with
  | true => rw [passMs_inReset hr]; exact ⟨rfl, rfl, rfl, rfl, rfl, rfl⟩
  | false => rw [passMs_outside hr]; exact ⟨rfl, rfl, rfl, rfl, rfl, rfl⟩

/-- The entries' timers, that of a station with none included (R126, R129). -/
theorem passMs_peer (hr : s.inReset = false) (z : Nat) : (passMs s).peer z = (s.peer z).tick := by
  rw [passMs_outside hr]
  unfold State.peer
  split
  · simp
  · rfl

end Sys2Proof.Machine

open Sys2Proof Sys2Proof.Machine in
/-- Settles O1. -/
theorem stepRunsTheFrontCommand : Obligations.StepRunsTheFrontCommand := by
  intro c rest s h
  simp only [step, h]

open Sys2Proof Sys2Proof.Machine in
/-- Settles O2: `step` reads the due events of an empty queue, and the millisecond is read field by field. -/
theorem emptyQueueLetsTimePass : Obligations.EmptyQueueLetsTimePass := by
  intro s hq
  refine ⟨fun c rest hdue => by simp only [step, hq, hdue], fun hdue => ⟨passMs s, by simp only [step, hq, hdue], ?_⟩⟩
  obtain ⟨hrole, hlink, hmeas, htick, hpending, htrouble⟩ := passMs_rest s
  refine ⟨fun hr => ?_, fun hr => ?_, fun c => ?_, ?_, hrole, hlink, hmeas, htick, htrouble, hpending.trans hq⟩
  · have hseq (c : ChannelNo) := congrArg Channel.seq (passMs_ch s c)
    have hpeer := passMs_peer hr
    have heq := passMs_outside hr
    refine ⟨by rw [heq]; rfl, by rw [heq]; rfl, by rw [heq]; rfl, by rw [heq]; rfl, by rw [heq]; rfl, by rw [heq],
      fun z => hpeer z.toNat, fun c => ?_⟩
    rw [hseq, hr]
    cases (s.ch c).seq <;> rfl
  · have hseq (c : ChannelNo) := congrArg Channel.seq (passMs_ch s c)
    have heq := passMs_inReset hr
    refine ⟨by rw [heq], by rw [heq], by rw [heq], by rw [heq], by rw [heq], by rw [heq], fun c => ?_⟩
    rw [hseq, hr]
    rfl
  · rw [passMs_ch]
    exact ⟨rfl, rfl, fun i => by cases i <;> rfl⟩
  · rw [passMs_panel, ResetLine.tick_eq]
    rfl
end

section
/-! The Trouble Unit keeps its law through every step: the set stays in order, the record empty over an empty set alone, and
TROUBLE as record, mode and RESET hold give it; O12 (R156 to R162). -/

namespace Sys2Proof.Machine

variable {s t : State}

/-! ### The set in its order (R157, R160) -/

theorem QualifierLaw.le {c : Cond} (h : QualifierLaw c) : c.qualifier ≤ 63 := by
  unfold QualifierLaw at h
  split at h <;> omega

theorem CondCode.number_inj {a b : CondCode} (h : a.number = b.number) : a = b := by
  cases a <;> cases b <;> first | rfl | cases h

/-- Lawful instances in one place are one instance. -/
theorem key_inj {c d : Cond} (hc : QualifierLaw c) (hd : QualifierLaw d) (h : c.key = d.key) : c = d := by
  have hqc := hc.le
  have hqd := hd.le
  unfold Cond.key at h
  have hcode : c.code = d.code := CondCode.number_inj (by omega)
  rw [hcode] at h
  obtain ⟨cc, cq⟩ := c
  obtain ⟨dc, dq⟩ := d
  simp_all

theorem insertCond_sorted {c : Cond} {l : List Cond} (hc : QualifierLaw c) (hl : ∀ d ∈ l, QualifierLaw d) (hnew : c ∉ l)
    (h : (l.map Cond.key).Pairwise (· < ·)) : ((insertCond c l).map Cond.key).Pairwise (· < ·) := by
  induction l with
  | nil => simp [insertCond]
  | cons d ds ih =>
    have hd : d ∈ d :: ds := List.mem_cons_self ..
    rw [List.map_cons, List.pairwise_cons] at h
    obtain ⟨hhead, htail⟩ := h
    unfold insertCond
    split
    · next hlt =>
      rw [List.map_cons, List.pairwise_cons, List.map_cons, List.pairwise_cons]
      refine ⟨fun k hk => ?_, hhead, htail⟩
      rcases List.mem_cons.mp hk with rfl | hk
      · exact hlt
      · exact Nat.lt_trans hlt (hhead k hk)
    · next hge =>
      have hne : d.key ≠ c.key := fun e => hnew (key_inj hc (hl d hd) e.symm ▸ hd)
      rw [List.map_cons, List.pairwise_cons]
      refine ⟨fun k hk => ?_, ih (fun e he => hl e (List.mem_cons_of_mem _ he))
        (fun he => hnew (List.mem_cons_of_mem _ he)) htail⟩
      obtain ⟨e, he, rfl⟩ := List.mem_map.mp hk
      rcases (mem_insertCond c e ds).mp he with rfl | he
      · omega
      · exact hhead _ (List.mem_map_of_mem he)

/-! ### The law of set and record, TROUBLE apart -/

/-- The set and the record (R157, R159). -/
structure ConditionsLaw (x : Trouble) : Prop where
  sorted  : (x.active.map Cond.key).Pairwise (· < ·)
  lawful  : ∀ c ∈ x.active, QualifierLaw c
  record  : ∀ r ∈ x.record.toList, QualifierLaw r.cond ∧ r.filling ≤ x.fillings
  emptied : x.record = none → x.active = []

/-- The law is that of set and record, and TROUBLE at its level outside a 5 s hold that has ended. -/
theorem troubleLaw_iff : TroubleLaw s ↔ ConditionsLaw s.trouble ∧ s.trouble.output = troubleLevel s
    ∧ (s.panel.reset.fiveSecs = true → s.inReset = true) :=
  ⟨fun ⟨hsorted, hlawful, hrecord, hemptied, houtput, hfive⟩ =>
    ⟨⟨hsorted, hlawful, hrecord, hemptied⟩, houtput, hfive⟩,
   fun ⟨⟨hsorted, hlawful, hrecord, hemptied⟩, houtput, hfive⟩ => ⟨hsorted, hlawful, hrecord, hemptied, houtput, hfive⟩⟩

theorem troubleLevel_congr (hm : t.ctl.mode = s.ctl.mode) (hrec : t.trouble.record.isNone = s.trouble.record.isNone)
    (hfive : t.panel.reset.fiveSecs = s.panel.reset.fiveSecs) : troubleLevel t = troubleLevel s := by
  simp only [troubleLevel, hm, hrec, hfive]

theorem troubleLaw_congr (h : TroubleLaw s) (ht : t.trouble = s.trouble) (hm : t.ctl.mode = s.ctl.mode)
    (hr : t.panel.reset = s.panel.reset) : TroubleLaw t := by
  rw [troubleLaw_iff] at h ⊢
  obtain ⟨hset, hout, hfive⟩ := h
  refine ⟨ht ▸ hset, ?_, ?_⟩
  · rw [ht, troubleLevel_congr hm (by rw [ht]) (by rw [hr]), hout]
  · simpa only [State.inReset, hr] using hfive

/-- Lawful set and record, with TROUBLE at its level. -/
theorem refreshTrouble_law (h : ConditionsLaw s.trouble) (hfive : s.panel.reset.fiveSecs = true → s.inReset = true) :
    TroubleLaw (refreshTrouble s) :=
  troubleLaw_iff.mpr ⟨⟨h.sorted, h.lawful, h.record, h.emptied⟩, rfl, hfive⟩

theorem filled_law {x : Trouble} (b : Bool) {c : Cond} (hc : QualifierLaw c)
    (hsorted : (x.active.map Cond.key).Pairwise (· < ·)) (hlawful : ∀ c ∈ x.active, QualifierLaw c) :
    ConditionsLaw (x.filled c b) where
  sorted := hsorted
  lawful := hlawful
  record := by simp [Trouble.filled, hc]
  emptied := nofun

/-- An acknowledge leaves the record filled from a set that is not empty (R160). -/
theorem refilled_law {x : Trouble} (b : Bool) (hsorted : (x.active.map Cond.key).Pairwise (· < ·))
    (hlawful : ∀ c ∈ x.active, QualifierLaw c) : ConditionsLaw (x.refilled b) := by
  unfold Trouble.refilled
  split
  · next h => exact ⟨hsorted, hlawful, by simp, fun _ => h⟩
  · next c _ h => exact filled_law b (hlawful c (by simp [h])) hsorted hlawful

theorem statusNotice_troubleLaw (h : TroubleLaw s) : TroubleLaw (statusNotice s) := by
  obtain ⟨hctl, -, -, -, -, -, -, -, hpanel, -⟩ := lessReports_eq (statusNotice_lessReports s)
  exact troubleLaw_congr h (statusNotice_trouble s) (by rw [hctl]) (by rw [hpanel])

theorem queueStatus_troubleLaw (h : TroubleLaw s) : TroubleLaw (queueStatus s) := by
  obtain ⟨hctl, -, -, -, -, -, -, -, hpanel, -⟩ := lessReports_eq (queueStatus_lessReports s)
  exact troubleLaw_congr h (queueStatus_trouble s) (by rw [hctl]) (by rw [hpanel])

/-! ### Conditions (R157 to R160) -/

theorem raise_troubleLaw {c : Cond} (hc : QualifierLaw c) (h : TroubleLaw s) : TroubleLaw (raise c s) := by
  obtain ⟨hset, hout, hfive⟩ := troubleLaw_iff.mp h
  unfold raise
  split
  · exact h
  · next hnew =>
    have hnew : c ∉ s.trouble.active := by simp_all
    have hsorted := insertCond_sorted hc hset.lawful hnew hset.sorted
    have hlawful (d : Cond) (hd : d ∈ insertCond c s.trouble.active) : QualifierLaw d := by
      rcases (mem_insertCond c d _).mp hd with rfl | hd
      · exact hc
      · exact hset.lawful d hd
    dsimp only
    split
    · exact statusNotice_troubleLaw (refreshTrouble_law (filled_law false hc hsorted hlawful) hfive)
    · next hfull =>
      exact troubleLaw_iff.mpr ⟨⟨hsorted, hlawful, hset.record, fun h => absurd (Option.isNone_iff_eq_none.mpr h) hfull⟩, hout, hfive⟩

theorem endCond_troubleLaw (c : Cond) (h : TroubleLaw s) : TroubleLaw (endCond c s) := by
  obtain ⟨hset, hout, hfive⟩ := troubleLaw_iff.mp h
  have hsub : (s.trouble.active.filter (fun d => decide (d ≠ c))).Sublist s.trouble.active := List.filter_sublist
  have hsorted := hset.sorted.sublist (hsub.map Cond.key)
  have hlawful (d : Cond) (hd : d ∈ s.trouble.active.filter (fun d => decide (d ≠ c))) := hset.lawful d (hsub.subset hd)
  unfold endCond
  dsimp only
  split
  · exact refreshTrouble_law (refilled_law true hsorted hlawful) hfive
  · exact troubleLaw_iff.mpr
      ⟨⟨hsorted, hlawful, hset.record, fun h => by change List.filter _ _ = _; rw [hset.emptied h]; rfl⟩, hout, hfive⟩

theorem ReportRun.troubleLaw (h : ReportRun s t) : TroubleLaw s → TroubleLaw t := by
  induction h with
  | quiet h => exact fun hs => troubleLaw_congr hs h.trouble (by rw [h.ctl]) h.reset
  | raised c hc s => exact raise_troubleLaw hc
  | ended c s => exact endCond_troubleLaw c
  | noticed s => exact statusNotice_troubleLaw
  | trans _ _ ih ih' => exact fun hs => ih' (ih hs)

theorem acknowledge_troubleLaw (b : Bool) (h : TroubleLaw s) : TroubleLaw (acknowledge b s) := by
  obtain ⟨hset, -, hfive⟩ := troubleLaw_iff.mp h
  unfold acknowledge
  split
  · exact h
  · exact statusNotice_troubleLaw (refreshTrouble_law (refilled_law b hset.sorted hset.lawful) hfive)

theorem firstOfBlocks_subset (seen : List RaisingBlock) (l : List Cond) : firstOfBlocks seen l ⊆ l := by
  induction l generalizing seen with
  | nil => exact List.Subset.refl _
  | cons c cs ih =>
    unfold firstOfBlocks
    split
    · exact List.subset_cons_of_subset c (ih seen)
    · exact List.cons_subset_cons c (ih _)

/-- Whichever rival is taken first, it is a lawful instance (R159). -/
theorem rival_lawful {before after : List Cond} {c : Cond} (n : Nat) (hafter : ∀ c ∈ after, QualifierLaw c)
    (hc : QualifierLaw c) : QualifierLaw ((rivals before after).getD n c) := by
  rcases lt_or_ge n (rivals before after).length with hn | hn
  · rw [List.getD_eq_getElem _ _ hn]
    exact hafter _ (List.filter_sublist.subset (firstOfBlocks_subset [] _ (List.getElem_mem hn)))
  · rw [List.getD_eq_default _ _ hn]
    exact hc

theorem settleRaises_troubleLaw (s : State) (h : TroubleLaw t) : TroubleLaw (settleRaises s t) := by
  obtain ⟨hset, hout, hfive⟩ := troubleLaw_iff.mp h
  unfold settleRaises
  split
  · next r _ hr =>
    obtain ⟨hcond, hfilling⟩ := hset.record r (by simp [hr])
    refine holds_ite h (troubleLaw_iff.mpr ⟨⟨hset.sorted, hset.lawful, ?_, nofun⟩, ?_, hfive⟩)
    · intro r' hr'
      obtain rfl := List.mem_singleton.mp hr'
      exact ⟨rival_lawful _ hset.lawful hcond, hfilling⟩
    · exact hout.trans (troubleLevel_congr rfl (by rw [hr]; rfl) rfl)
  · exact h

/-! ### Modes (R161, R164 to R172) -/

theorem setMode_troubleLaw (m : Mode) (x : ModeCtl) (h : TroubleLaw s) : TroubleLaw (setMode m (s.withCtl x)) := by
  obtain ⟨hset, -, hfive⟩ := troubleLaw_iff.mp h
  exact refreshTrouble_law (s := (s.withCtl x).withCtl { x with mode := m }) hset hfive

theorem startStagger_troubleLaw (h : TroubleLaw s) : TroubleLaw (startStagger s) :=
  holds_ite (queueStatus_troubleLaw (troubleLaw_congr h rfl rfl rfl)) (troubleLaw_congr h rfl rfl rfl)

theorem recompute_troubleLaw (h : TroubleLaw s) : TroubleLaw (recompute s) := (recompute_reports s).troubleLaw h

theorem startTests_troubleLaw (h : TroubleLaw s) : TroubleLaw (startTests s) := (startTests_reports s).troubleLaw h

theorem enterActive_troubleLaw (h : TroubleLaw s) : TroubleLaw (enterActive s) := by
  have hrun (u : State) : ReportRun u (startTests (completeListening (graceStart (startSequencers (recompute u))))) :=
    .trans (.trans (.trans (.trans (recompute_reports u) (startSequencers_reports _)) (graceStart_reports _))
      (completeListening_reports _)) (startTests_reports _)
  exact (hrun _).troubleLaw (setMode_troubleLaw _ _ h)

theorem endListenOnAlarm_troubleLaw (h : TroubleLaw s) : TroubleLaw (endListenOnAlarm s) :=
  holds_ite (enterActive_troubleLaw h) h

theorem beginListen_troubleLaw (h : TroubleLaw s) : TroubleLaw (beginListen s) :=
  startStagger_troubleLaw (setMode_troubleLaw _ _ h)

theorem enterListen_troubleLaw (h : TroubleLaw s) : TroubleLaw (enterListen s) := by
  have hscan : TroubleLaw (setScan (scanFrom (beginListen s) 0) (beginListen s)) :=
    troubleLaw_congr (beginListen_troubleLaw h) rfl rfl rfl
  exact endListenOnAlarm_troubleLaw (((declarationCheck_reports _).trans (recompute_reports _)).troubleLaw hscan)

theorem reenterListen_troubleLaw (h : TroubleLaw s) : TroubleLaw (reenterListen s) :=
  endListenOnAlarm_troubleLaw ((((replaceDeclare_reports _).trans (declarationCheck_reports _)).trans
    (recompute_reports _)).troubleLaw (beginListen_troubleLaw h))

theorem enterMute_troubleLaw (o : Origin) (h : TroubleLaw s) : TroubleLaw (enterMute o s) := by
  have hentered : TroubleLaw (muteEntered o s) := troubleLaw_congr (setMode_troubleLaw .mute
    { s.ctl with listenTimer := none, quietTimer := some quietTime, origin := some o } h) rfl rfl rfl
  have hraised := raise_troubleLaw (qualifierLaw_plain rfl) hentered (c := plainCond .stationConflict)
  rw [enterMute_eq]
  exact startTests_troubleLaw (recompute_troubleLaw hraised)

theorem evidence_troubleLaw (h : TroubleLaw s) : TroubleLaw (evidence s) := by
  unfold evidence
  split
  · exact enterMute_troubleLaw _ h
  · exact enterMute_troubleLaw _ h
  · exact troubleLaw_congr h rfl rfl rfl
  · exact h

theorem leaveMute_troubleLaw (h : TroubleLaw s) : TroubleLaw (leaveMute s) := by
  have hended := endCond_troubleLaw (plainCond .stationConflict) h
  unfold leaveMute
  dsimp only
  split
  · exact reenterListen_troubleLaw hended
  · have hset := startStagger_troubleLaw (setMode_troubleLaw .active { (endCond (plainCond .stationConflict) s).ctl with
      quietTimer := none, origin := none } hended)
    exact ((((replaceDeclare_reports _).trans (recompute_reports _)).trans (completeListening_reports _)).trans
      (startTests_reports _)).troubleLaw hset

theorem enterLockout_troubleLaw (h : TroubleLaw s) : TroubleLaw (enterLockout s) :=
  startStagger_troubleLaw (raise_troubleLaw (qualifierLaw_plain rfl) (setMode_troubleLaw .lockout s.ctl h))

theorem sampleStraps_troubleLaw (p : StrapPins) (h : TroubleLaw s) : TroubleLaw (sampleStraps p s) :=
  holds_ite (enterLockout_troubleLaw (troubleLaw_congr h rfl rfl rfl)) (setMode_troubleLaw .config _ h)

theorem configRead_troubleLaw (b : ConfigBytes) (h : TroubleLaw s) : TroubleLaw (configRead b s) :=
  holds_ite (enterListen_troubleLaw (troubleLaw_congr h rfl rfl rfl)) (enterLockout_troubleLaw h)

/-! ### Resets (R156, R162, R173, R174) -/

theorem coldReset_troubleLaw (p : StrapPins) (s : State) : TroubleLaw (coldReset p s) :=
  sampleStraps_troubleLaw p ⟨.nil, nofun, nofun, fun _ => rfl, rfl, nofun⟩

theorem resumeBlocks_troubleLaw (h : TroubleLaw s) : TroubleLaw (resumeBlocks s) := by
  have hstagger : TroubleLaw (startStagger (resumePeers (resumeMeasure s))) :=
    startStagger_troubleLaw (troubleLaw_congr h rfl rfl rfl)
  have hbefore : TroubleLaw (resumeBefore s) :=
    ((resumeConditions_reports _).trans (raiseSilent_reports _)).troubleLaw (troubleLaw_congr hstagger rfl rfl rfl)
  rw [resumeBlocks_eq]
  exact (((resumeDeclaration_reports _).trans (recompute_reports _)).trans (resumeContain_reports _)).troubleLaw hbefore

theorem warmReset_troubleLaw (hfive : s.panel.reset.fiveSecs = false) (h : TroubleLaw s) : TroubleLaw (warmReset s) := by
  have hreleased : TroubleLaw (releaseReset s) := by
    obtain ⟨hset, hout, -⟩ := troubleLaw_iff.mp h
    exact troubleLaw_iff.mpr ⟨hset, hout.trans (troubleLevel_congr rfl rfl (by rw [hfive]; rfl)), nofun⟩
  have hchans (v : Vector Channel 12) : TroubleLaw ((releaseReset s).withChans v) :=
    troubleLaw_congr hreleased rfl rfl rfl
  have hactive : TroubleLaw (resumeActive (releaseReset s)) :=
    (((resumeSequencers_reports _ _).trans (completeListening_reports _)).trans (startTests_reports _)).troubleLaw
      (resumeBlocks_troubleLaw (setMode_troubleLaw _ _ (hchans _)))
  unfold warmReset
  dsimp only
  split
  · exact sampleStraps_troubleLaw _ hreleased
  · exact hreleased
  · exact endListenOnAlarm_troubleLaw (resumeBlocks_troubleLaw (setMode_troubleLaw _ _ (hchans _)))
  · exact hactive
  · exact hactive
  · exact startStagger_troubleLaw (raise_troubleLaw (qualifierLaw_plain rfl) hreleased)

theorem fiveSecs_of_outside (h : TroubleLaw s) (hr : s.inReset = false) : s.panel.reset.fiveSecs = false := by
  obtain ⟨-, -, hfive⟩ := troubleLaw_iff.mp h
  rw [← Bool.not_eq_true]
  exact fun h => by simp [hfive h] at hr

theorem execResetHeld_troubleLaw (h : TroubleLaw s) (he : exec .resetHeld s = .next t) : TroubleLaw t := by
  cases he
  cases hr : s.inReset with
  | true => rwa [outside_of_inReset hr]
  | false =>
    obtain ⟨hset, hout, -⟩ := troubleLaw_iff.mp h
    rw [outside_of_not_inReset hr]
    refine troubleLaw_iff.mpr ⟨⟨.nil, nofun, hset.record, fun _ => rfl⟩, ?_, nofun⟩
    exact hout.trans (troubleLevel_congr rfl rfl (fiveSecs_of_outside h hr))

theorem execResetHold5s_troubleLaw (h : TroubleLaw s) (he : exec .resetHold5s s = .next t) : TroubleLaw t := by
  cases he
  obtain ⟨hset, -, -⟩ := troubleLaw_iff.mp h
  split
  · next hr =>
    refine troubleLaw_iff.mpr ⟨⟨hset.sorted, hset.lawful, hset.record, hset.emptied⟩, ?_, fun _ => hr⟩
    simp [troubleLevel, allOutputsOff]
  · exact h

/-! ### The link and accepted frames (R124, R125, R146, R152) -/

theorem endAttempt_troubleLaw (l : Line) (n : Nat) (h : TroubleLaw s) : TroubleLaw (endAttempt l n s) := by
  refine (claimRequeued_reports _).troubleLaw (holds_ite ?_ ?_) <;> exact troubleLaw_congr h rfl rfl rfl

theorem stopSending_troubleLaw (bit : Nat) (h : TroubleLaw s) : TroubleLaw (stopSending bit s) := by
  unfold stopSending
  split
  · exact h
  · exact startTests_troubleLaw (endAttempt_troubleLaw _ _ h)

theorem countFailure_troubleLaw (h : TroubleLaw s) : TroubleLaw (countFailure s) :=
  holds_ite (troubleLaw_congr h rfl rfl rfl)
    (raise_troubleLaw (qualifierLaw_plain rfl) (troubleLaw_congr h rfl rfl rfl))

theorem sendKind_troubleLaw (k : FrameKind) (h : TroubleLaw s) : TroubleLaw (sendKind k s) := by
  unfold sendKind
  split
  case h_1 | h_2 | h_4 => exact troubleLaw_congr h rfl rfl rfl
  case h_3 =>
    unfold sendClaim
    split
    · exact (withdrawClaim_reports s).troubleLaw h
    · exact troubleLaw_congr h rfl rfl rfl

theorem ownFrameOut_troubleLaw (h : TroubleLaw s) : TroubleLaw (ownFrameOut s) := by
  unfold ownFrameOut
  split
  · exact h
  · exact endCond_troubleLaw _ (troubleLaw_congr h rfl rfl rfl)

theorem otherFrameIn_troubleLaw (h : TroubleLaw s) : TroubleLaw (otherFrameIn s) := by
  have hended : TroubleLaw (if s.link.attempt.isSome then endAttempt .closed 0 s else s.setLine .closed) :=
    holds_ite (endAttempt_troubleLaw _ _ h) (troubleLaw_congr h rfl rfl rfl)
  exact troubleLaw_congr hended rfl rfl rfl

theorem acceptFrame_troubleLaw (own : Bool) (f : Frame) {blocks : State → State}
    (hb : ∀ u, TroubleLaw u → TroubleLaw (blocks u)) (h : TroubleLaw s) : TroubleLaw (acceptFrame own f blocks s) := by
  have hblocks := hb _ (holds_ite (p := own = true) (ownFrameOut_troubleLaw h) (otherFrameIn_troubleLaw h))
  exact holds_ite (settleRaises_troubleLaw s (startTests_troubleLaw (holds_ite (evidence_troubleLaw hblocks) hblocks))) h

theorem whenApplied_troubleLaw {f : State → State} (hf : ∀ u, ReportRun u (f u)) (u : State) (h : TroubleLaw u) :
    TroubleLaw (whenApplied f u) := holds_whenApplied h ((hf u).troubleLaw h)

theorem applyClear_reports (s : State) : ReportRun s (applyClear s) :=
  .trans (registerEvent_reports s _) (declarationCheck_reports _)

theorem applyOverride_reports (s : State) (w : Word) : ReportRun s (applyOverride w s) := by
  refine .ite (.after (recompute_reports _) (.after (.noticed _) ?_)) (.refl s)
  exact .write rfl rfl rfl rfl rfl

theorem applyDeclare_reports (s : State) (own : Bool) (z : Station) (words : List Word) :
    ReportRun s (applyDeclare own z words s) :=
  .after (registerEvent_reports _ _) (.ite (.write rfl rfl rfl rfl rfl) (.refl s))

theorem applyView_reports (s : State) (z : Station) (w2 w3 : Word) : ReportRun s (applyView z w2 w3 s) :=
  .ite (.refl s) (storeRegister_reports s _)

/-- The flag that clears is the record's own: set, fillings and TROUBLE stay (R125). -/
theorem ownStatusAccepted_troubleLaw (h : TroubleLaw s) : TroubleLaw (ownStatusAccepted s) := by
  obtain ⟨hset, hout, hfive⟩ := troubleLaw_iff.mp h
  have hcleared : TroubleLaw (s.withTrouble { s.trouble with
      record := s.trouble.record.map (fun r => { r with fresh := false }) }) := by
    refine troubleLaw_iff.mpr ⟨⟨hset.sorted, hset.lawful, ?_, ?_⟩, ?_, hfive⟩
    · simpa using hset.record
    · simpa using hset.emptied
    · exact hout.trans (troubleLevel_congr rfl (Option.isNone_map ..).symm rfl)
  have hcomposer {u : State} (hu : TroubleLaw u) (x : Composer) : TroubleLaw (u.withStatus x) :=
    troubleLaw_congr hu rfl rfl rfl
  exact holds_ite (queueStatus_troubleLaw (hcomposer (holds_ite hcleared h) _)) (hcomposer (holds_ite hcleared h) _)

theorem applyStatus_troubleLaw (own : Bool) (z : Station) (w1 w2 w3 : Word) (h : TroubleLaw s) :
    TroubleLaw (applyStatus own z w1 w2 w3 s) := by
  have hstored := holds_ite (p := own = true) (ownStatusAccepted_troubleLaw h)
    (whenApplied_troubleLaw (fun u => storeStatus_reports u z.toNat { mode := readMode w1, contain := readContain w1 }) s h)
  have hview := whenApplied_troubleLaw (fun u => applyView_reports u z w2 w3) _ hstored
  exact holds_ite (recompute_troubleLaw hview) hview

/-! ### Panel lines, inputs and every command -/

theorem alarmEvent_troubleLaw (active : Bool) (h : TroubleLaw s) : TroubleLaw (alarmEvent active s) := by
  have hnotice := statusNotice_troubleLaw h
  have hcheck := (declarationCheck_reports _).troubleLaw hnotice
  exact holds_ite (holds_ite (enterActive_troubleLaw hcheck) hcheck) hnotice

theorem inputEvent_reports (s : State) (c : ChannelNo) (i : Input) (made : Bool) :
    ReportRun s (inputEvent c i made s) := by
  unfold inputEvent
  split
  · exact .trans (limitEvent_reports s c) (startTests_reports _)
  · exact .ite (provingEvent_reports s made c) (.refl s)
  · exact .refl s

theorem storeInput_reports (s : State) (c : ChannelNo) (i : Input) (made : Bool) : ReportRun s (storeInput c i made s) :=
  .write rfl rfl rfl rfl rfl

theorem inputChange_troubleLaw (c : ChannelNo) (i : Input) (made : Bool) (h : TroubleLaw s) :
    TroubleLaw ((storeInput c i made s).outside (inputEvent c i made)) := by
  have hstored := (storeInput_reports s c i made).troubleLaw h
  exact holds_outside hstored ((inputEvent_reports _ c i made).troubleLaw hstored)

/-- A line of the panel takes its level or its pulse before what follows outside reset. -/
theorem panelLine_troubleLaw {x : Panel} {f : State → State} (hx : x.reset = s.panel.reset) (h : TroubleLaw s)
    (hf : ∀ u, TroubleLaw u → TroubleLaw (f u)) : TroubleLaw ((s.withPanel x).outside f) :=
  have hset : TroubleLaw (s.withPanel x) := troubleLaw_congr h rfl rfl hx
  holds_outside hset (hf _ hset)

theorem exec_troubleLaw {i : Instr} (h : TroubleLaw s) (he : exec i s = .next t) : TroubleLaw t := by
  have run {u : State} {f : State → State} (hr : ReportRun u (f u)) (hu : TroubleLaw u) : TroubleLaw (u.outside f) :=
    holds_outside hu (hr.troubleLaw hu)
  cases i with
  | powerUp p | coldReset p => cases he; exact coldReset_troubleLaw p s
  | resetHeld => exact execResetHeld_troubleLaw h he
  | resetHold5s => exact execResetHold5s_troubleLaw h he
  | warmReset =>
    cases he
    split
    · next hr => exact settleRaises_troubleLaw s (warmReset_troubleLaw hr.2 h)
    · exact h
  | configReadDone b =>
    cases he; exact holds_outside h (holds_ite (settleRaises_troubleLaw s (configRead_troubleLaw b h)) h)
  | listenTimerExpiry =>
    cases he; exact holds_outside h (holds_ite (settleRaises_troubleLaw s (enterActive_troubleLaw h)) h)
  | muteQuietTimerExpiry =>
    cases he; exact holds_outside h (holds_ite (settleRaises_troubleLaw s (leaveMute_troubleLaw h)) h)
  | lineIdle levels => cases he; exact holds_outside h (holds_ite (troubleLaw_congr h rfl rfl rfl) h)
  | attemptStart =>
    cases he
    refine holds_outside h (holds_ite ?_ h)
    split
    · exact sendKind_troubleLaw _ h
    · exact h
  | arbitrationLost bit => cases he; exact holds_outside h (stopSending_troubleLaw bit h)
  | duplicateKeyStop bit =>
    cases he; exact holds_outside h (holds_ite (evidence_troubleLaw (stopSending_troubleLaw bit h)) h)
  | failedAttempt =>
    cases he
    refine holds_outside h (holds_ite (startTests_troubleLaw (countFailure_troubleLaw ?_)) h)
    exact troubleLaw_congr (endAttempt_troubleLaw .closed 0 h) rfl rfl rfl
  | retryWaitEnd b => cases he; exact holds_outside h (holds_ite (troubleLaw_congr h rfl rfl rfl) h)
  | clearAccepted z w => cases he; exact acceptFrame_troubleLaw _ _ (whenApplied_troubleLaw applyClear_reports) h
  | overrideAccepted z w =>
    cases he; exact acceptFrame_troubleLaw _ _ (whenApplied_troubleLaw fun u => applyOverride_reports u w) h
  | fireDeclareAccepted z ws =>
    cases he; exact acceptFrame_troubleLaw _ _ (whenApplied_troubleLaw fun u => applyDeclare_reports u _ z ws) h
  | startClaimAccepted urgent z w =>
    cases he
    refine acceptFrame_troubleLaw _ _ (fun u hu => ?_) h
    split
    · exact (ownClaim_reports u).troubleLaw hu
    · exact whenApplied_troubleLaw (fun u => peerClaim_reports u _) u hu
  | statusAccepted z w1 w2 w3 w4 =>
    cases he; exact acceptFrame_troubleLaw _ _ (fun u => applyStatus_troubleLaw _ z w1 w2 w3) h
  | otherFrameAccepted cls z ws => cases he; exact acceptFrame_troubleLaw _ _ (fun _ => id) h
  | isolatedDeclarationTimerExpiry => cases he; exact run (.ite (registerEvent_reports s _) (.refl s)) h
  | alarmChange active =>
    cases he
    exact holds_ite h (settleRaises_troubleLaw s (panelLine_troubleLaw rfl h fun _ => alarmEvent_troubleLaw active))
  | panelResetPulse =>
    cases he
    exact holds_ite h (panelLine_troubleLaw rfl h fun u hu => holds_ite (troubleLaw_congr hu rfl rfl rfl) hu)
  | ackPulse b => cases he; exact holds_ite h (panelLine_troubleLaw rfl h fun _ => acknowledge_troubleLaw b)
  | statusPeriodTimerExpiry =>
    cases he
    exact holds_outside h (holds_ite (queueStatus_troubleLaw (troubleLaw_congr h rfl rfl rfl)) h)
  | spacingTimerExpiry z => cases he; exact run (setPeer_reports s _ _) h
  | silenceTimerExpiry z =>
    cases he; exact holds_outside h (settleRaises_troubleLaw s ((silenceExpiry_reports s _).troubleLaw h))
  | holdOffExpiry =>
    cases he
    exact holds_outside h (holds_ite (startTests_troubleLaw (troubleLaw_congr h rfl rfl rfl)) h)
  | provingTimerExpiry c => cases he; exact run (provingExpiry_reports s c) h
  | runDownTimerExpiry c => cases he; exact run (.trans (runDownExpiry_reports s c) (startTests_reports _)) h
  | travelTimerExpiry c => cases he; exact run (.trans (travelExpiry_reports s c) (startTests_reports _)) h
  | provingSwitchChange c made => cases he; exact holds_ite h (inputChange_troubleLaw c .a made h)
  | limitChange c i made => cases he; exact holds_ite h (inputChange_troubleLaw c i made h)
  | graceTimerExpiry => cases he; exact run (graceExpiry_reports s) h
  | conversionADone a =>
    cases he
    refine holds_outside h ?_
    split
    · exact troubleLaw_congr h rfl rfl rfl
    · exact h
  | pairComplete b =>
    cases he
    refine holds_outside h ?_
    split
    · next p a _ =>
      have hpair : TroubleLaw (pairEvent p a b (setScan (scanFrom s (p.val + 1)) s)) :=
        (pairEvent_reports _ p a b).troubleLaw (troubleLaw_congr h rfl rfl rfl)
      exact holds_ite (settleRaises_troubleLaw s hpair) hpair
    · exact h
  | supplySample k =>
    cases he
    refine holds_outside h ?_
    split
    · exact (supplyEvent_reports _ _).troubleLaw (troubleLaw_congr h rfl rfl rfl)
    · exact h
  | pulseLineReturnInactive line => cases he; cases line <;> exact troubleLaw_congr h rfl rfl rfl

/-- A millisecond ends what an ACK pulse of its moment has marked, and nothing else of the unit. -/
theorem passMs_troubleLaw (h : TroubleLaw s) : TroubleLaw (passMs s) := by
  obtain ⟨hset, hout, hfive⟩ := troubleLaw_iff.mp h
  obtain ⟨-, -, -, -, -, htrouble⟩ := passMs_rest s
  obtain ⟨hheld, hfives⟩ := s.panel.reset.tick_held
  have hmode : (passMs s).ctl.mode = s.ctl.mode := (passMs_register s).1
  have hreset : (passMs s).panel.reset = s.panel.reset.tick := by rw [passMs_panel]
  refine troubleLaw_iff.mpr ⟨htrouble ▸ ⟨hset.sorted, hset.lawful, ?_, ?_⟩, ?_, ?_⟩
  · simpa using hset.record
  · simpa using hset.emptied
  · rw [troubleLevel_congr (s := s) hmode (by simp [htrouble]) (by rw [hreset, hfives]), htrouble]
    exact hout
  · rw [State.inReset, hreset, hheld, hfives]
    exact hfive

end Sys2Proof.Machine

open Sys2Proof Sys2Proof.Machine in
/-- Settles O12: every report keeps set and record lawful, every mode entry and filling puts TROUBLE at its level. -/
theorem stepKeepsTroubleLaw : Obligations.StepKeepsTroubleLaw := by
  intro s t hs h
  rcases step_cases h with ⟨i, rest, he⟩ | rfl
  · exact exec_troubleLaw (s := s.withPending rest) (troubleLaw_congr hs rfl rfl rfl) he
  · exact passMs_troubleLaw hs
end

section
/-! The laws at reset, and the commands whose whole next state is one write: O13, O23, O46 and O48 (R148, R153 to R156, R174). -/

namespace Sys2Proof.Machine

theorem troubleLaw_reset : TroubleLaw .reset := ⟨.nil, nofun, nofun, fun _ => rfl, rfl, nofun⟩

theorem registerLaw_reset : RegisterLaw .reset :=
  registerLaw_iff.mpr ⟨registerOk_reset _, fun _ => ⟨rfl, rfl⟩⟩

theorem reset_ch (c : ChannelNo) : State.reset.ch c = .reset := by simp [State.ch, State.reset]

theorem roleLaw_reset : RoleLaw .reset :=
  ⟨nofun, fun _ => ⟨rfl, rfl, rfl, rfl, fun c => by rw [reset_ch]; rfl⟩, nofun⟩

theorem channelsLaw_reset : ChannelsLaw .reset := by
  intro c
  unfold SequencerLaw
  rw [reset_ch]
  exact ⟨rfl, nofun⟩

theorem linkLaw_reset : LinkLaw .reset := by
  refine ⟨nofun, ⟨Nat.zero_lt_succ 9, nofun⟩, rfl, rfl, by decide, by decide, by decide, nofun, nofun, atMost_none _,
    fun _ => rfl⟩

theorem containLaw_reset : ContainLaw .reset := ⟨rfl, by decide, atMost_none _, fun _ => rfl⟩

theorem conditionLaw_reset : ConditionLaw .reset := by
  have hnil : State.reset.trouble.active = [] := rfl
  refine conditionLaw_iff.mpr ⟨fun _ => hnil, fun _ c _ => ?_, fun _ => ⟨rfl, rfl⟩⟩
  refine inStep_of_nil hnil (Causes.Blank.not_stand ?_ (fun _ => nofun) (fun _ => nofun) (fun _ => rfl))
  exact blank_of_reset rfl rfl rfl ⟨rfl, rfl⟩ (fun d => by rw [reset_ch]; rfl)

end Sys2Proof.Machine

open Sys2Proof Sys2Proof.Machine in
/-- Settles O13: every block at reset holds its cold-reset values. -/
theorem resetMeetsEveryLaw : Obligations.ResetMeetsEveryLaw :=
  ⟨modeLaw_reset, registerLaw_reset, roleLaw_reset, channelsLaw_reset, linkLaw_reset, measureLaw_reset, containLaw_reset,
    peerLaw_of_empty rfl, troubleLaw_reset, conditionLaw_reset, fun _ h => by cases h <;> contradiction⟩

open Sys2Proof Sys2Proof.Machine in
/-- Settles O23: `resetHeld` and `allOutputsOff` are these writes. -/
theorem resetHeldHaltsAndFiveSecondsDeEnergize : Obligations.ResetHeldHaltsAndFiveSecondsDeEnergize := by
  intro s
  constructor
  · intro hr
    change Host.Outcome.next (s.outside _) = _
    rw [outside_of_not_inReset hr]
    rfl
  · intro hr
    change Host.Outcome.next (if s.inReset then _ else s) = _
    rw [if_pos hr]
    rfl

namespace Sys2Proof.Machine

/-- The node whose PANEL-RESET pulse has been taken (R155). -/
def panelResetTaken (s : State) : State :=
  s.withPanel { s.panel with panelReset := takePulse s.panel.panelReset }

theorem exec_panelResetPulse {s : State} (h : s.panel.panelReset.taken = false) :
    exec .panelResetPulse s = .next ((panelResetTaken s).outside
      fun t => if t.ctl.mode = .listen ∨ t.ctl.mode = .active then t.setQueued .clear true else t) := by
  change Host.Outcome.next (if s.panel.panelReset.taken then s else _) = _
  rw [h]
  rfl

/-- The period timer's expiry (R120). -/
theorem exec_statusPeriodExpiry {s : State} (hr : s.inReset = false) (h : s.status.period.isSome = true) :
    exec .statusPeriodTimerExpiry s = .next (queueStatus (s.withStatus { s.status with period := none })) := by
  change Host.Outcome.next (s.outside _) = _
  rw [outside_of_not_inReset hr, if_pos h]

end Sys2Proof.Machine

open Sys2Proof Sys2Proof.Machine in
/-- Settles O46: a pulse is taken once, and outside reset LISTEN and ACTIVE alone queue its CLEAR. -/
theorem pulsesAndTheirReturn : Obligations.PulsesAndTheirReturn := by
  intro s
  refine ⟨fun htaken hr => ?_, fun htaken hr => ?_, fun htaken => ?_, rfl, rfl⟩
  · rw [exec_panelResetPulse htaken, outside_of_not_inReset (s := panelResetTaken s) hr]
    by_cases hmode : s.ctl.mode = .listen ∨ s.ctl.mode = .active
    · rw [if_pos (show (panelResetTaken s).ctl.mode = .listen ∨ (panelResetTaken s).ctl.mode = .active from hmode),
        decide_eq_true hmode, Bool.or_true]
      rfl
    · rw [if_neg (show ¬((panelResetTaken s).ctl.mode = .listen ∨ (panelResetTaken s).ctl.mode = .active) from hmode),
        decide_eq_false hmode, Bool.or_false]
      rfl
  · rw [exec_panelResetPulse htaken, outside_of_inReset (s := panelResetTaken s) hr]
    rfl
  · change Host.Outcome.next (if s.panel.panelReset.taken then s else _) = _
    rw [if_pos htaken]

open Sys2Proof Sys2Proof.Machine in
/-- Settles O48: `queueStatus` queues the frame, or marks it pending while one is on the wire. -/
theorem periodExpiryQueuesStatus : Obligations.PeriodExpiryQueuesStatus := by
  intro s hr hperiod
  have hwire (x : Composer) : (s.withStatus x).onWire .status = s.onWire .status := rfl
  rw [exec_statusPeriodExpiry hr hperiod]
  constructor
  · intro h
    rw [queueStatus, hwire, h]
    rfl
  · intro h
    rw [queueStatus, hwire, h]
    rfl
end

section
/-! In reset nothing acts, and a stopped timer does not expire: O60 (R45, R60, R63, R87, R107, R117, R133, R153). -/

namespace Sys2Proof.Machine

variable {s : State}

theorem outside_self {f : State → State} (h : f s = s) : s.outside f = s := by
  unfold State.outside
  rw [h, ite_self]

/-- The commands that nothing of a node in reset acts on. -/
def heldBack : Instr → Bool
  | .powerUp _ | .coldReset _ | .warmReset | .resetHold5s => false
  | .alarmChange _ | .panelResetPulse | .ackPulse _ | .pulseLineReturnInactive _ => false
  | .provingSwitchChange _ _ | .limitChange _ _ _ => false
  | _ => true

theorem exec_heldBack {i : Instr} (hi : heldBack i = true) (hr : s.inReset = true) : exec i s = .next s := by
  have hout (f : State → State) : Host.Outcome.next (s.outside f) = (.next s : Host.Outcome State Fault Refusal) :=
    congrArg _ (outside_of_inReset hr)
  have hframe (own : Bool) (f : Frame) (blocks : State → State) :
      Host.Outcome.next (acceptFrame own f blocks s) = (.next s : Host.Outcome State Fault Refusal) :=
    congrArg _ (acceptFrame_inReset hr own f blocks)
  cases i with
  | powerUp | coldReset | warmReset | resetHold5s | alarmChange | panelResetPulse | ackPulse
  | pulseLineReturnInactive | provingSwitchChange | limitChange => cases hi
  | clearAccepted | overrideAccepted | fireDeclareAccepted | startClaimAccepted | statusAccepted
  | otherFrameAccepted => exact hframe _ _ _
  | _ => exact hout _

theorem exec_provingSwitchChange (c : ChannelNo) (m : Bool) (s : State) : exec (.provingSwitchChange c m) s =
    .next (if (s.ch c).inA.level = m then s else (storeInput c .a m s).outside (inputEvent c .a m)) := rfl

theorem exec_limitChange (c : ChannelNo) (i : Input) (m : Bool) (s : State) : exec (.limitChange c i m) s =
    .next (if ((s.ch c).input i).level = m then s else (storeInput c i m s).outside (inputEvent c i m)) := rfl

theorem storeInput_seq (c d : ChannelNo) (i : Input) (m : Bool) (s : State) :
    ((storeInput c i m s).ch d).seq = (s.ch d).seq := by
  unfold storeInput
  rw [State.ch_setCh]
  split
  · next h => subst h; cases i <;> rfl
  · rfl

/-- A new level that no running sequencer reads: its channel's is stopped or in reset, or a fan's that proves by a pressure
channel, or input B of a fan (R60, R63, R87). -/
theorem inputEvent_unread {c : ChannelNo} {i : Input} {m : Bool}
    (h : (s.ch c).seq = .stopped ∨ s.inReset = true
      ∨ ((s.ch c).seq.fanState.isSome = true ∧ (i = .b ∨ (s.chCfg c).proving ≠ none))) :
    (storeInput c i m s).outside (inputEvent c i m) = storeInput c i m s := by
  have hseq := storeInput_seq c c i m s
  rcases h with h | h | ⟨hfan, h⟩
  · refine outside_self ?_
    unfold inputEvent
    rw [hseq, h]
  · exact outside_of_inReset h
  · refine outside_self ?_
    unfold inputEvent
    rw [hseq]
    have hcfg : (storeInput c i m s).chCfg c = s.chCfg c := rfl
    rw [hcfg]
    cases hs : (s.ch c).seq with
    | fan st p r => exact if_neg fun hi => by rcases h with rfl | h <;> simp_all
    | stopped => rfl
    | damper st t => rw [hs] at hfan; cases hfan

end Sys2Proof.Machine

open Sys2Proof Sys2Proof.Machine in
/-- Settles O60: in reset `outside` and acceptance hold everything back, and each timer's expiry asks that it runs. -/
theorem resetAndStoppedTimersHoldEverything : Obligations.ResetAndStoppedTimersHoldEverything := by
  intro s
  have hstopped (f : State → State) (h : f s = s) :
      Host.Outcome.next (s.outside f) = (.next s : Host.Outcome State Fault Refusal) := congrArg _ (outside_self h)
  refine ⟨fun hr i hi => exec_heldBack ?_ hr, fun h => ?_, fun h => ?_, fun h => ?_, fun h => ?_, fun h => ?_, fun h => ?_,
    fun z h => ?_, fun c m => ⟨rfl, fun h => ?_, fun h => ?_, fun hne h => ?_, fun hne h => ?_⟩⟩
  · rcases hi with hi | hi
    · fin_cases hi <;> rfl
    · obtain ⟨_, rfl⟩ | ⟨_, rfl⟩ | ⟨_, rfl⟩ | ⟨_, rfl⟩ | ⟨_, rfl⟩ | ⟨_, _, rfl⟩ | ⟨_, _, rfl⟩ | ⟨_, _, rfl⟩ | ⟨_, _, _, rfl⟩
        | ⟨_, _, _, _, _, rfl⟩ | ⟨_, _, _, rfl⟩ | ⟨_, rfl⟩ | ⟨_, rfl⟩ | ⟨_, rfl⟩ | ⟨_, rfl⟩ | ⟨_, rfl⟩ | ⟨_, rfl⟩ | ⟨_, rfl⟩
        | ⟨_, rfl⟩ := hi <;> rfl
  · exact hstopped _ (if_neg (by simp [h]))
  · exact hstopped _ (if_neg (by simp [h]))
  · exact hstopped _ (if_neg (by simp [h]))
  · exact hstopped _ (if_neg (by simp [h]))
  · exact hstopped _ (if_neg (by simp [h]))
  · refine hstopped _ ?_
    unfold graceExpiry
    rw [h]
  · refine hstopped _ ?_
    have hidle : silenceExpiry z.toNat s = s := if_neg (by simp [h])
    rw [hidle]
    exact settleRaises_idle id
  · rw [exec_provingSwitchChange, if_pos h]
  · exact (exec_limitChange c .b m s).trans (congrArg _ (if_pos h))
  · rw [exec_provingSwitchChange, if_neg hne, inputEvent_unread]
    · rfl
    · exact h.imp_right (Or.imp_right fun ⟨hfan, hp⟩ => ⟨hfan, .inr hp⟩)
  · refine (exec_limitChange c .b m s).trans (congrArg _ ((if_neg hne).trans (inputEvent_unread ?_)))
    exact h.imp_right (Or.imp_right fun hfan => ⟨hfan, .inl rfl⟩)
end

section
/-! Cold reset and power-up, block by block: O22 (R164, R172, R174). -/

namespace Sys2Proof.Machine

/-- The straps as R164 reads the pins: an open miss-limit pin gives 3. -/
def strapsOf (p : StrapPins) : Straps :=
  { station := p.station.toNat, missLimit := if p.miss = .one then 1 else 3, rate := p.rate }

/-- The node with its straps sampled, before START is left. -/
def strapped (p : StrapPins) (s : State) : State := s.withCtl { s.ctl with straps := some (strapsOf p) }

theorem sampleStraps_eq (p : StrapPins) (s : State) :
    sampleStraps p s = if p.station = 0 then enterLockout (strapped p s) else setMode .config (strapped p s) := by
  have hmiss : missLimitOf p.miss = if p.miss = .one then 1 else 3 := by cases p.miss <;> rfl
  simp only [sampleStraps, hmiss]
  rfl

/-- The node of a station 0, locked out from an empty Trouble Unit and link (R120, R172). -/
theorem enterLockout_cold (p : StrapPins) (s : State) (hp : p.station = 0) :
    enterLockout (strapped p (coldState p s)) =
      { coldState p s with
        ctl := { (strapped p (coldState p s)).ctl with mode := .lockout }
        trouble := { active := [plainCond .configBad], fillings := 1, output := false
                     record := some { cond := plainCond .configBad, fresh := true, filling := 1 } }
        link := { State.reset.link with queue := { TxQueue.empty with status := true } } } := by
  have hmasked (u : State) : masked (plainCond .configBad) u = false := rfl
  have hstation : p.station.toNat = 0 := by simp [hp]
  simp [enterLockout, setMode, refreshTrouble, raise, hmasked, coldState, strapped, strapsOf, State.reset, insertCond,
    fillRecord, Trouble.filled, statusNotice, queueStatus, State.onWire, State.setQueued, TxQueue.put, TxQueue.empty,
    Mode.sends, startStagger, troubleLevel, State.station, hstation, State.withCtl, State.withTrouble, State.withLink,
    State.withStatus]

theorem setMode_config_cold (p : StrapPins) (s : State) :
    setMode .config (strapped p (coldState p s)) =
      { coldState p s with ctl := { (strapped p (coldState p s)).ctl with mode := .config } } := by
  rfl

theorem coldState_ch (p : StrapPins) (s : State) (c : ChannelNo) :
    (coldState p s).ch c = { Channel.reset with inA := (s.ch c).inA.cold, inB := (s.ch c).inB.cold } :=
  ch_mapVec _ s c

theorem reset_pressure (q : PressureNo) : State.reset.pressure q = .reset := by simp [State.pressure, State.reset]

/-- What a cold reset leaves of the blocks that sampling the straps does not touch. -/
structure ColdBlocks (p : StrapPins) (s t : State) : Prop where
  reg     : t.reg = State.reset.reg
  role    : t.role = State.reset.role
  chans   : t.chans = (coldState p s).chans
  starts  : t.starts = State.reset.starts
  meas    : t.meas = State.reset.meas
  contain : t.contain = State.reset.contain
  peers   : t.peers = State.reset.peers
  panel   : t.panel = (coldState p s).panel
  status  : t.status = State.reset.status

theorem coldReset_blocks (p : StrapPins) (s : State) : ColdBlocks p s (coldReset p s) := by
  unfold coldReset
  rw [sampleStraps_eq]
  split
  · next hp =>
    rw [enterLockout_cold p s hp]
    exact ⟨rfl, rfl, rfl, rfl, rfl, rfl, rfl, rfl, rfl⟩
  · rw [setMode_config_cold]
    exact ⟨rfl, rfl, rfl, rfl, rfl, rfl, rfl, rfl, rfl⟩

/-- The Mode Controller, the link and the Trouble Unit after a cold reset (R153, R162, R164, R172). -/
theorem coldReset_started (p : StrapPins) (s : State) :
    (coldReset p s).ctl = { State.reset.ctl with
      mode := if p.station = 0 then .lockout else .config, straps := some (strapsOf p) }
    ∧ (coldReset p s).link = { State.reset.link with
        queue := { TxQueue.empty with status := decide (p.station = 0) } }
    ∧ (coldReset p s).trouble = if p.station = 0 then
        { active := [plainCond .configBad], fillings := 1, output := false
          record := some { cond := plainCond .configBad, fresh := true, filling := 1 } }
        else State.reset.trouble := by
  unfold coldReset
  rw [sampleStraps_eq]
  by_cases hp : p.station = 0
  · simp only [if_pos hp, decide_eq_true hp, enterLockout_cold p s hp]
    exact ⟨rfl, trivial, trivial⟩
  · simp only [if_neg hp, decide_eq_false hp, setMode_config_cold]
    exact ⟨rfl, rfl, rfl⟩

end Sys2Proof.Machine

open Sys2Proof Sys2Proof.Machine in
/-- Settles O22: both commands are `coldReset`, whose blocks are those of reset but for the straps' mode. -/
theorem powerUpAndColdResetStartTheNode : Obligations.PowerUpAndColdResetStartTheNode := by
  intro p s
  obtain ⟨hreg, hrole, hchans, hstarts, hmeas, hcontain, hpeers, hpanel, hstatus⟩ := coldReset_blocks p s
  obtain ⟨hctl, hlink, htrouble⟩ := coldReset_started p s
  have hch (c : ChannelNo) : (coldReset p s).ch c = (coldState p s).ch c := by simp only [State.ch, hchans]
  have hpressure (q : PressureNo) : (coldReset p s).pressure q = .reset := by
    rw [← reset_pressure q]
    simp only [State.pressure, hmeas]
  refine ⟨coldReset p s, rfl, rfl, hctl, hreg, hrole, fun c => ?_, hstarts, by rw [hmeas]; rfl, by rw [hmeas]; rfl,
    hpressure, hcontain, fun z => peer_of_empty hpeers _, by rw [hpeers]; rfl, by rw [hpanel]; rfl,
    by rw [State.inReset, hpanel]; rfl, by rw [hpanel]; rfl, by rw [hpanel]; rfl, by rw [hstatus]; rfl, by rw [hstatus]; rfl,
    by rw [hstatus]; rfl, hlink, fun hp => ?_, fun hp => ?_⟩
  · rw [hch, coldState_ch]
    exact ⟨rfl, rfl, rfl, rfl, rfl⟩
  · rw [htrouble, if_neg hp]
    rfl
  · rw [htrouble, if_pos hp]
    exact ⟨rfl, rfl, rfl, rfl⟩
end

section
/-! The start of an attempt and the line as it is judged: O31 and O30 (R73, R122, R140, R141, R149, R151). -/

namespace Sys2Proof.Machine

variable {s : State}

/-! ### The lowest class (R149) -/

theorem lowest_iff {q : TxQueue} {k : FrameKind} (h : q.lowest = some k) :
    (k = .clear ↔ q.clear = true) ∧ (k = .fireDeclare ↔ q.clear = false ∧ q.fireDeclare = true)
      ∧ (k = .claim ↔ q.clear = false ∧ q.fireDeclare = false ∧ q.claim = true) := by
  obtain ⟨clear, declare, claim, status⟩ := q
  cases clear <;> cases declare <;> cases claim <;> cases status <;> cases h <;> simp

theorem lowestWaiting_spec {c : ChannelNo} (h : lowestWaiting s = some c) :
    waitsForSlot s c = true ∧ ∀ d : ChannelNo, d < c → waitsForSlot s d = false := by
  refine ⟨List.find?_some h, fun d hd => ?_⟩
  obtain ⟨-, l, r, heq, hbefore⟩ := List.find?_eq_some_iff_append.mp h
  have hsorted : (l ++ c :: r).Pairwise (· < ·) := heq ▸ (by decide : allChannels.Pairwise (· < ·))
  have hmem : d ∈ l ++ c :: r := heq ▸ (by fin_cases d <;> decide : d ∈ allChannels)
  have hl : d ∈ l := by
    rcases List.mem_append.mp hmem with hl | hr
    · exact hl
    · obtain ⟨-, hright, -⟩ := List.pairwise_append.mp hsorted
      rcases List.mem_cons.mp hr with rfl | hr
      · exact absurd hd (lt_irrefl _)
      · exact absurd (List.rel_of_pairwise_cons hright hr) (lt_asymm hd)
  simpa using hbefore d hl

theorem exec_attemptStart {k : FrameKind} (hr : s.inReset = false) (hline : s.link.line = .idle)
    (hattempt : s.link.attempt = none) (hwait : s.link.retryWait = false) (hmode : s.ctl.mode.sends = true)
    (hk : s.link.queue.lowest = some k) : exec .attemptStart s = .next (sendKind k s) := by
  have hmay : mayStart s = true := by simp [mayStart, hline, hattempt, hwait, hmode]
  change Host.Outcome.next (s.outside _) = _
  rw [outside_of_not_inReset hr, if_pos hmay, hk]

theorem sendClaim_eq {c : ChannelNo} (h : lowestWaiting s = some c) :
    sendClaim s = (s.withLink { s.link with
      line := .sending, run := 0
      attempt := some { kind := .claim
                        frame := ownFrame s (claimClass s.role.role.extract) (claimPayload c (carriedHoldOff s c)) } }).withStarts
      { s.starts with claim := .sending c s.role.role.extract (carriedHoldOff s c) } := by
  unfold sendClaim
  rw [h]
  rfl

end Sys2Proof.Machine

open Sys2Proof Sys2Proof.Machine in
/-- Settles O31: `sendKind` of the lowest queued kind, each kind's capture written out. -/
theorem attemptTakesTheLowestClass : Obligations.AttemptTakesTheLowestClass := by
  intro k s hr hline hattempt hwait hmode hk hclaim
  obtain ⟨hclear, hdeclare, hclaimed⟩ := lowest_iff hk
  refine ⟨_, exec_attemptStart hr hline hattempt hwait hmode hk, hclear, hdeclare, hclaimed, ?_, ?_, ?_, ?_, ?_⟩
  · rintro rfl; rfl
  · rintro rfl; rfl
  · rintro rfl; rfl
  · rintro rfl
    obtain ⟨c, hc⟩ := Option.ne_none_iff_exists'.mp (hclaim rfl)
    obtain ⟨hwaits, hlower⟩ := lowestWaiting_spec hc
    exact ⟨c, carriedHoldOff s c, hwaits, hlower, rfl, sendClaim_eq hc⟩
  · intro a ha
    cases k with
    | claim =>
      obtain ⟨c, hc⟩ := Option.ne_none_iff_exists'.mp (hclaim rfl)
      rw [show sendKind .claim s = sendClaim s from rfl, sendClaim_eq hc] at ha
      cases ha
      exact ⟨rfl, rfl⟩
    | clear | fireDeclare | status => cases ha; exact ⟨rfl, rfl⟩

namespace Sys2Proof.Machine

/-! ### The line as judged (R140, R141, R151) -/

theorem judgeLine_eq {levels : List Bool} {x : LineWatch} (h : levels.foldl LineWatch.bit s.lineWatch = x) :
    judgeLine levels s = s.withLink { s.link with line := x.line, run := x.run, retryWait := x.wait } := by
  unfold judgeLine
  rw [h]

theorem exec_lineIdle (hr : s.inReset = false) (hstraps : s.ctl.straps.isSome = true) (hattempt : s.link.attempt = none)
    (levels : List Bool) : exec (.lineIdle levels) s = .next (judgeLine levels s) := by
  change Host.Outcome.next (s.outside _) = _
  rw [outside_of_not_inReset hr, if_pos ⟨hstraps, hattempt⟩]

theorem exec_lineIdle_unheard (hr : s.inReset = false) (h : s.ctl.straps = none ∨ s.link.attempt.isSome = true)
    (levels : List Bool) : exec (.lineIdle levels) s = .next s := by
  change Host.Outcome.next (s.outside _) = _
  rw [outside_of_not_inReset hr, if_neg]
  rintro ⟨hstraps, hattempt⟩
  rcases h with h | h
  · rw [h] at hstraps; cases hstraps
  · rw [hattempt] at h; cases h

theorem exec_retryWaitEnd (hr : s.inReset = false) (b : Bool) : exec (.retryWaitEnd b) s =
    .next (if s.link.retryWait then s.withLink (if b then { s.link with retryWait := false, line := .receiving .start, run := 0 }
      else { s.link with retryWait := false, line := .idle, run := waitRun }) else s) := by
  change Host.Outcome.next (s.outside _) = _
  rw [outside_of_not_inReset hr]

/-- Well before the place of the window, the tenth recessive bit in a row makes the line idle and ends the frame (R141). -/
theorem LineWatch.foldl_ended (m run : Nat) (wait : Bool) (i : Intake) (hm : i.recessive + (m + 1) = 10)
    (ht : i.taken.length + (m + 1) ≤ 47) :
    (List.replicate (m + 1) true).foldl LineWatch.bit { line := .receiving i, run := run, wait := wait } =
      { line := .idle, run := idleRun, wait := wait } := by
  have hrec := Intake.bit_recessive i true
  have hlen := Intake.bit_taken i true
  rw [if_pos rfl] at hrec
  induction m generalizing i with
  | zero => simp [LineWatch.bit, Intake.has_ended (i.bit true) (by omega)]
  | succ m ih =>
    have hbit : LineWatch.bit { line := .receiving i, run := run, wait := wait } true =
        { line := .receiving (i.bit true), run := run, wait := wait } := by
      simp [LineWatch.bit, Intake.has_taking (i.bit true) (by omega) (by omega)]
    rw [List.replicate_succ, List.foldl_cons, hbit]
    exact ih _ (by omega) (by omega) (by simp)
      (Intake.bit_taken (i.bit true) true)

/-- Recessive bits from within a frame to the idle that ends it, and on (R140, R141). -/
theorem LineWatch.foldl_receiving_recessives (i : Intake) (n : Nat) (hi : i.recessive < 10)
    (hlen : i.taken.length ≤ 37) (hn : 10 ≤ i.recessive + n) :
    (List.replicate n true).foldl LineWatch.bit { line := .receiving i, run := 0, wait := false } =
      { line := .idle, run := min 30 (i.recessive + n), wait := false } := by
  obtain ⟨m, hm⟩ : ∃ m, i.recessive + (m + 1) = 10 := ⟨9 - i.recessive, by omega⟩
  obtain ⟨k, rfl⟩ : ∃ k, n = (m + 1) + k := ⟨n - (m + 1), by omega⟩
  rw [List.replicate_add, List.foldl_append, LineWatch.foldl_ended m 0 false i hm (by omega),
    LineWatch.foldl_recessives k _ (by simp [LineLaw, idleRun, waitRun]) (.inl rfl), ← Nat.add_assoc, hm]
  simp [idleRun, waitRun]

/-- A line outside a frame: recessive bits count on, and a dominant bit begins a frame on an idle line and the count on any
other (R140, R151). -/
theorem LineWatch.foldl_quiet (x : LineWatch) (h : LineLaw x)
    (hl : x.line = .awaitingIdle ∨ x.line = .closed ∨ x.line = .idle) (n : Nat) :
    (List.replicate n true).foldl LineWatch.bit x =
        { line := if 10 ≤ x.run + n then .idle else x.line, run := min 30 (x.run + n)
          wait := x.wait && decide (x.run + n < 30) }
      ∧ (List.replicate n true ++ [false]).foldl LineWatch.bit x =
        if 10 ≤ x.run + n then { line := .receiving .start, run := 0, wait := false } else { x with run := 0 } := by
  have hfold := LineWatch.foldl_recessives n x h (by tauto)
  refine ⟨hfold, ?_⟩
  rw [List.foldl_append, hfold]
  by_cases hn : 10 ≤ x.run + n
  · simp [hn, idleRun, LineWatch.bit, LineWatch.quiet]
  · have hidle : x.line ≠ .idle := fun e => by
      obtain ⟨hline, -⟩ := h
      rw [e] at hline
      exact hn (Nat.le_trans hline.1 (Nat.le_add_right ..))
    have hwait : (x.wait && decide (x.run + n < waitRun)) = x.wait := by
      rw [decide_eq_true (show x.run + n < waitRun by unfold waitRun; omega), Bool.and_true]
    simp only [idleRun, hn, if_false, hwait, List.foldl_cons, List.foldl_nil]
    rcases hl with e | e | e
    · simp [LineWatch.bit, LineWatch.quiet, e]
    · simp [LineWatch.bit, LineWatch.quiet, e]
    · exact absurd e hidle

theorem exec_lineIdle_then {t : State} (hr : s.inReset = false) {before levels : List Bool}
    (h : exec (.lineIdle before) s = .next t) : exec (.lineIdle (before ++ levels)) s = exec (.lineIdle levels) t := by
  by_cases hheard : s.ctl.straps.isSome = true ∧ s.link.attempt = none
  · obtain ⟨hstraps, hattempt⟩ := hheard
    rw [exec_lineIdle hr hstraps hattempt] at h ⊢
    cases h
    rw [exec_lineIdle (s := judgeLine before s) hr hstraps hattempt, judgeLine_append]
  · have hunheard : s.ctl.straps = none ∨ s.link.attempt.isSome = true := by
      cases hs : s.ctl.straps <;> cases ha : s.link.attempt <;> simp_all
    rw [exec_lineIdle_unheard hr hunheard] at h ⊢
    cases h
    rw [exec_lineIdle_unheard hr hunheard]

end Sys2Proof.Machine

open Sys2Proof Sys2Proof.Machine in
/-- Settles O30: the levels are judged bit by bit, and every other command of the line is one write. -/
theorem lineIdleAndRetryWaitEnd : Obligations.LineIdleAndRetryWaitEnd := by
  intro s hr
  refine ⟨fun hstraps hattempt hlaw => ⟨fun hline n => ?_, fun i hi => ⟨fun bits last ack error d hbits hd => ?_,
    fun n hlen hn => ?_⟩⟩, fun t before levels => exec_lineIdle_then hr, exec_lineIdle_unheard hr, fun hline => ?_,
    fun hwait => ?_, fun hwait b => ?_⟩
  · obtain ⟨hrec, hdom⟩ := LineWatch.foldl_quiet s.lineWatch hlaw hline n
    rw [exec_lineIdle hr hstraps hattempt, exec_lineIdle hr hstraps hattempt, judgeLine_eq hrec, judgeLine_eq hdom]
    refine ⟨rfl, ?_⟩
    change Host.Outcome.next (s.withLink _) = .next (s.withLink _)
    by_cases hn : 10 ≤ s.link.run + n
    · simp [State.lineWatch, hn]
    · simp [State.lineWatch, hn]
  · have hwindow := LineWatch.foldl_window bits i s.link.run s.link.retryWait last ack error d hbits hd
    rw [← hi] at hwindow
    rw [exec_lineIdle hr hstraps hattempt, judgeLine_eq hwindow]
    rfl
  · obtain ⟨hin, hwait⟩ := hlaw
    simp only [State.lineWatch, hi] at hin hwait
    have hfalse : s.link.retryWait = false := by
      rw [← Bool.not_eq_true]
      intro h
      obtain ⟨h | h, -⟩ := hwait h <;> cases h
    have hrec : i.recessive < 10 := by
      rcases Nat.lt_or_ge i.recessive 10 with h | h
      · exact h
      · rw [Intake.has_ended i h] at hin; cases hin.2
    have hfold := LineWatch.foldl_receiving_recessives i n hrec hlen hn
    have hwatch : s.lineWatch = { line := .receiving i, run := 0, wait := false } := by
      simp only [State.lineWatch, hi, hin.1, hfalse]
    rw [exec_lineIdle hr hstraps hattempt, judgeLine_eq (hwatch ▸ hfold), ← hfalse]
    rfl
  · change Host.Outcome.next (s.outside _) = _
    rw [outside_of_not_inReset hr, if_neg (by simp [mayStart, hline])]
  · rw [exec_retryWaitEnd hr, exec_retryWaitEnd hr, if_pos hwait, if_pos hwait]
    exact ⟨rfl, rfl⟩
  · rw [exec_retryWaitEnd hr, hwait]
    rfl
end

section
/-! The frame on the wire: arbitration by key, inserted bits, and what a receiver reads; O16, O15 and O14 (R138 to R146). -/

namespace Sys2Proof.Machine

/-! ### Arbitration (R143) -/

@[simp] theorem length_bitsOf (n x : Nat) : (bitsOf n x).length = n := by
  induction n with
  | zero => rfl
  | succ n ih => simp [bitsOf, ih]

/-- A number's low bits, its highest of them apart. -/
theorem mod_two_pow_succ (x n : Nat) : x % 2 ^ (n + 1) = x / 2 ^ n % 2 * 2 ^ n + x % 2 ^ n := by
  rw [Nat.mod_pow_succ]
  ring

theorem losesBits_iff (n a b : Nat) : losesBits (bitsOf n a) (bitsOf n b) = true ↔ b % 2 ^ n < a % 2 ^ n := by
  induction n with
  | zero => simp [bitsOf, losesBits, Nat.mod_one]
  | succ n ih =>
    have hlowA : a % 2 ^ n < 2 ^ n := Nat.mod_lt _ (Nat.two_pow_pos n)
    have hlowB : b % 2 ^ n < 2 ^ n := Nat.mod_lt _ (Nat.two_pow_pos n)
    rw [mod_two_pow_succ a, mod_two_pow_succ b]
    rcases Nat.mod_two_eq_zero_or_one (a / 2 ^ n) with hA | hA <;>
      rcases Nat.mod_two_eq_zero_or_one (b / 2 ^ n) with hB | hB <;>
      simp [bitsOf, losesBits, lineBit, hA, hB, ih] <;> omega

theorem key_lt (f : Frame) : f.key ≤ 511 := by
  have := f.cls.isLt
  have := f.station.isLt
  unfold Frame.key
  omega

end Sys2Proof.Machine

open Sys2Proof Sys2Proof.Machine in
/-- Settles O16: the contest of the nine key bits is the order of the keys, and a key is class and station in order. -/
theorem lowestKeyWinsArbitration : Obligations.LowestKeyWinsArbitration := by
  intro f g
  have hf := key_lt f
  have hg := key_lt g
  have hstationF := f.station.isLt
  have hstationG := g.station.isLt
  refine ⟨?_, rfl, hf⟩
  rw [losesArbitration, losesBits_iff, Nat.mod_eq_of_lt (by omega), Nat.mod_eq_of_lt (by omega), BitVec.toNat_eq]
  unfold Frame.key
  omega

namespace Sys2Proof.Machine

/-! ### Lengths (R141) -/

@[simp] theorem length_wordBits (w : Nat) : (wordBits w).length = 17 := by simp [wordBits]

theorem length_flatMap_wordBits (ws : List Word) : (ws.flatMap fun w => wordBits w.toNat).length = 17 * ws.length := by
  simp [List.length_flatMap, Nat.mul_comm]

theorem length_bits (f : Frame) : f.bits.length = 30 + 17 * f.words.length := by
  simp only [Frame.bits, List.length_cons, List.length_append, length_bitsOf, length_flatMap_wordBits, length_wordBits]
  omega

/-! ### Runs of equal bits (R139) -/

/-- The run of equal bits after one more bit. -/
def nextRun (last : Bool) (run : Nat) (b : Bool) : Nat := if b = last then run + 1 else 1

theorem insertFrom_cons (last : Bool) (run : Nat) (b : Bool) (bs : List Bool) : insertFrom last run (b :: bs) =
    if nextRun last run b = 8 then b :: (!b) :: insertFrom (!b) 1 bs else b :: insertFrom b (nextRun last run b) bs := rfl

theorem nextRun_lt {last : Bool} {run : Nat} {b : Bool} (h : run < 8) (hne : nextRun last run b ≠ 8) :
    nextRun last run b < 8 := by
  have hstep : nextRun last run b ≤ run + 1 := by unfold nextRun; split <;> omega
  omega

/-- No bit of a list makes a run of more than eight. -/
def Calm (last : Bool) (run : Nat) : List Bool → Prop
  | [] => True
  | b :: bs => nextRun last run b ≤ 8 ∧ Calm b (nextRun last run b) bs

theorem calm_insertFrom {last : Bool} {run : Nat} (h : run < 8) (bs : List Bool) :
    Calm last run (insertFrom last run bs) := by
  induction bs generalizing last run with
  | nil => trivial
  | cons b bs ih =>
    rw [insertFrom_cons]
    split
    · next h8 =>
      have hone (r : Nat) : nextRun b r (!b) = 1 := if_neg (by cases b <;> decide)
      exact ⟨h8.le, by rw [hone]; omega, by rw [hone]; exact ih (by omega)⟩
    · next hne => exact ⟨(nextRun_lt h hne).le, ih (nextRun_lt h hne)⟩

theorem Calm.append {last : Bool} {run : Nat} {pre post : List Bool} (h : Calm last run (pre ++ post)) :
    ∃ last' run', Calm last' run' post := by
  induction pre generalizing last run with
  | nil => exact ⟨last, run, h⟩
  | cons b pre ih => exact ih h.2

theorem Calm.replicate_le {b : Bool} {k : Nat} {run : Nat} {post : List Bool} (hk : run ≤ 8)
    (h : Calm b run (List.replicate k b ++ post)) : run + k ≤ 8 := by
  induction k generalizing run with
  | zero => exact hk
  | succ k ih =>
    have hnext : nextRun b run b = run + 1 := if_pos rfl
    obtain ⟨hle, h⟩ := h
    rw [hnext] at hle h
    have := ih hle h
    omega

theorem Calm.not_nine {last b : Bool} {run : Nat} {pre post : List Bool} : ¬Calm last run (pre ++ List.replicate 9 b ++ post) := by
  intro h
  rw [List.append_assoc] at h
  obtain ⟨last', run', hle, h⟩ := h.append
  have hge : 1 ≤ nextRun last' run' b := by unfold nextRun; split <;> omega
  have := h.replicate_le (k := 8) hle
  omega

/-- An inserted bit has eight bits sent before it, counting from the inserted bit before (R139). -/
theorem insertFrom_length {last : Bool} {run : Nat} (h : run < 8) (bs : List Bool) :
    bs.length ≤ (insertFrom last run bs).length
      ∧ 8 * ((insertFrom last run bs).length - bs.length) ≤ run + (insertFrom last run bs).length := by
  induction bs generalizing last run with
  | nil => simp [insertFrom]
  | cons b bs ih =>
    rw [insertFrom_cons]
    split
    · next h8 =>
      have hrun : run = 7 := by unfold nextRun at h8; split at h8 <;> omega
      obtain ⟨hle, hins⟩ := ih (last := !b) (run := 1) (by omega)
      simp only [List.length_cons]
      omega
    · next hne =>
      obtain ⟨hle, hins⟩ := ih (last := b) (nextRun_lt h hne)
      have hstep : nextRun last run b ≤ run + 1 := by unfold nextRun; split <;> omega
      simp only [List.length_cons]
      omega

end Sys2Proof.Machine

open Sys2Proof Sys2Proof.Machine in
/-- Settles O15: the transmitter's insertion keeps every run at eight, and pays for each inserted bit with eight sent. -/
theorem wireRunsAndLengths : Obligations.WireRunsAndLengths := by
  intro f
  obtain ⟨hle, hins⟩ := insertFrom_length (last := true) (run := 0) (by omega) f.bits
  refine ⟨length_bits f, fun pre post b h => ?_, hle, by rwa [Nat.zero_add] at hins⟩
  have hcalm : Calm true 0 f.wire := calm_insertFrom (by omega) f.bits
  exact Calm.not_nine (h ▸ hcalm)

namespace Sys2Proof.Machine

/-! ### Numbers and their bits (R138, R141) -/

theorem foldl_bits (n x y : Nat) :
    (bitsOf n x).foldl (fun v b => 2 * v + b.toNat) y = y * 2 ^ n + x % 2 ^ n := by
  induction n generalizing y with
  | zero => simp [bitsOf, Nat.mod_one x]
  | succ n ih =>
    have hbit : (decide (x / 2 ^ n % 2 = 1)).toNat = x / 2 ^ n % 2 := by
      rcases Nat.mod_two_eq_zero_or_one (x / 2 ^ n) with h | h <;> rw [h] <;> rfl
    rw [bitsOf, List.foldl_cons, ih, mod_two_pow_succ x, pow_succ, hbit]
    ring

theorem valueOf_bitsOf {n x : Nat} (h : x < 2 ^ n) : valueOf (bitsOf n x) = x := by
  rw [valueOf, foldl_bits, Nat.zero_mul, Nat.zero_add, Nat.mod_eq_of_lt h]

theorem recessives_append (l m : List Bool) : recessives (l ++ m) = recessives l + recessives m := by
  have hfrom (l : List Bool) (n : Nat) : l.foldl (fun n b => n + b.toNat) n = n + recessives l := by
    induction l generalizing n with
    | nil => rfl
    | cons b l ih => rw [recessives, List.foldl_cons, List.foldl_cons, ih, ih (0 + b.toNat)]; omega
  rw [recessives, List.foldl_append, hfrom]
  rfl

/-- A word and its parity bit are read back (R141). -/
theorem readWord_wordBits {w : Nat} (h : w < 65536) : readWord (wordBits w) = some w := by
  have heven : recessives (wordBits w) % 2 = 0 := by
    have hparity (b : Bool) : recessives [b] = b.toNat := by cases b <;> rfl
    rw [wordBits, recessives_append, hparity]
    rcases Nat.mod_two_eq_zero_or_one (recessives (bitsOf 16 w)) with hp | hp <;> rw [Nat.add_mod, hp] <;> rfl
  have htake : (wordBits w).take 16 = bitsOf 16 w := by
    rw [wordBits, List.take_append_of_le_length (by simp), List.take_of_length_le (by simp)]
  rw [readWord, if_pos ⟨length_wordBits w, heven⟩, htake, valueOf_bitsOf h]

/-- The payload words of a frame are read back, whatever follows them. -/
theorem readWords_flatMap (ws : List Word) (rest : List Bool) :
    readWords ws.length ((ws.flatMap fun w => wordBits w.toNat) ++ rest) = some ws := by
  induction ws with
  | nil => rfl
  | cons w ws ih =>
    have hcons : ((w :: ws).flatMap fun w => wordBits w.toNat) ++ rest =
        wordBits w.toNat ++ ((ws.flatMap fun w => wordBits w.toNat) ++ rest) := by simp
    rw [hcons, List.length_cons, readWords, List.take_left' (length_wordBits _), List.drop_left' (length_wordBits _), ih,
      readWord_wordBits w.isLt]
    simp

/-- The count of a frame of 1 to 7 words, in its place. -/
theorem bits_count (f : Frame) (h : f.words.length ≤ 7) : valueOf ((f.bits.drop 10).take 3) = f.words.length := by
  have hdrop : (f.bits.drop 10).take 3 = bitsOf 3 f.words.length := by
    simp only [Frame.bits, Frame.count, List.append_assoc, List.drop_succ_cons]
    rw [List.drop_left' (length_bitsOf 9 _), List.take_left' (length_bitsOf 3 _)]
  rw [hdrop, valueOf_bitsOf (by omega)]

theorem decodeBits_bits (f : Frame) (h1 : 1 ≤ f.words.length) (h7 : f.words.length ≤ 7) : decodeBits f.bits = some f := by
  have hkey := key_lt f
  have hcls : f.key / 64 = f.cls.toNat := by have := f.station.isLt; unfold Frame.key; omega
  have hstation : f.key % 64 = f.station.toNat := by have := f.station.isLt; unfold Frame.key; omega
  have hcount := bits_count f h7
  have hcheck : checkValue f.key f.count f.words < 65536 := Nat.mod_lt _ (by omega)
  have hbits : f.bits = false :: (bitsOf 9 f.key ++ (bitsOf 3 f.count ++ ((f.words.flatMap fun w => wordBits w.toNat)
      ++ wordBits (checkValue f.key f.count f.words)))) := by simp [Frame.bits]
  rw [hbits, List.drop_succ_cons, List.drop_left' (length_bitsOf 9 _)] at hcount
  have hbody : (bitsOf 9 f.key ++ (bitsOf 3 f.count ++ ((f.words.flatMap fun w => wordBits w.toNat)
      ++ wordBits (checkValue f.key f.count f.words)))).drop 12 = (f.words.flatMap fun w => wordBits w.toNat)
      ++ wordBits (checkValue f.key f.count f.words) := by
    rw [← List.append_assoc, List.drop_left' (by simp)]
  rw [hbits]
  unfold decodeBits
  simp only [List.take_left' (length_bitsOf 9 f.key), List.drop_left' (length_bitsOf 9 f.key), hcount, hbody,
    readWords_flatMap, valueOf_bitsOf (show f.key < 2 ^ 9 by omega),
    List.drop_left' (length_flatMap_wordBits f.words), readWord_wordBits hcheck, hcls, hstation]
  rw [if_neg (by omega), if_pos (show checkValue f.key f.count f.words = checkValue f.key f.words.length f.words from rfl)]
  simp

/-! ### Reception (R139 to R141) -/

theorem discardFrom_insertFrom {last : Bool} {run : Nat} (h : run < 8) (bs : List Bool) :
    discardFrom last run (insertFrom last run bs) = some bs := by
  induction bs generalizing last run with
  | nil => rfl
  | cons b bs ih =>
    have hnext : (if b = last then run + 1 else 1) = nextRun last run b := rfl
    rw [insertFrom_cons]
    split
    · next h8 =>
      rw [discardFrom, if_neg (by omega), hnext, h8, discardFrom, if_pos rfl, if_neg (by cases b <;> decide),
        ih (by omega)]
      rfl
    · next hne =>
      rw [discardFrom, if_neg (by omega), hnext, ih (nextRun_lt h hne)]
      rfl

/-- A receiver that has taken the bits before `bs` of a frame, at a run that the transmitter shares. -/
structure Follows (f : Frame) (bs : List Bool) (last : Bool) (run : Nat) (x : Intake) : Prop where
  level     : x.last = last
  count     : x.run = run
  recessive : x.recessive = if last then run else 0
  violated  : x.violated = false
  taken     : x.taken ++ bs = f.bits

namespace Follows

variable {f : Frame} {bs : List Bool} {b last : Bool} {run : Nat} {x : Intake}

theorem begin (f : Frame) : Follows f f.bits true 0 .begin := ⟨rfl, rfl, rfl, rfl, rfl⟩

theorem bit (h : Follows f (b :: bs) last run x) (hrun : run < 8) : Follows f bs b (nextRun last run b) (x.bit b) := by
  obtain ⟨hlast, hxrun, hrec, hvio, htaken⟩ := h
  have hbit : x.bit b = { x with
      last := b, run := nextRun last run b, recessive := if b then x.recessive + 1 else 0, taken := x.taken ++ [b] } := by
    rw [Intake.bit, if_neg (by omega), hlast, hxrun]
    rfl
  rw [hbit]
  refine ⟨rfl, rfl, ?_, hvio, by simpa using htaken⟩
  simp only [hrec, nextRun]
  cases b <;> cases last <;> simp

/-- The inserted bit after eight equal bits is discarded (R139). -/
theorem inserted (h : Follows f bs last 8 x) : Follows f bs (!last) 1 (x.bit (!last)) := by
  obtain ⟨hlast, hxrun, hrec, hvio, htaken⟩ := h
  have hbit : x.bit (!last) = { x with
      last := !last, run := 1, recessive := if !last then x.recessive + 1 else 0 } := by
    rw [Intake.bit, if_pos hxrun, hlast, if_neg (by cases last <;> decide)]
  rw [hbit]
  refine ⟨rfl, rfl, ?_, hvio, htaken⟩
  simp only [hrec]
  cases last <;> simp

theorem recessive_lt (h : Follows f bs last run x) (hrun : run ≤ 8) : ¬idleRun ≤ x.recessive := by
  rw [h.recessive]
  unfold idleRun
  split <;> omega

theorem length (h : Follows f bs last run x) : x.taken.length + bs.length = 30 + 17 * f.words.length := by
  rw [← length_bits f, ← h.taken, List.length_append]

/-- While bits of the frame, or an inserted bit, are still to come, the receiver goes on. -/
theorem taking (h : Follows f bs last run x) (hrun : run ≤ 8) (h7 : f.words.length ≤ 7) (hmore : bs ≠ [] ∨ run = 8) :
    x.has = .taking := by
  have hlen := h.length
  have hwindow : x.atWindow = false := by
    unfold Intake.atWindow takenCount
    split
    · rfl
    · next n hn =>
      split at hn
      · next h13 =>
        have hcount : valueOf ((x.taken.drop 10).take 3) = f.words.length := by
          rw [← bits_count f h7, ← h.taken, List.drop_append_of_le_length (by omega),
            List.take_append_of_le_length (by simp; omega)]
        obtain rfl : n = f.words.length := by rw [← hcount]; exact (Option.some.inj hn).symm
        rcases hmore with hmore | h8
        · have hpos := List.length_pos_iff.mpr hmore
          rw [decide_eq_false (by unfold frameBits; omega)]
          rfl
        · rw [h.count, h8]
          simp
      · cases hn
  rw [Intake.has, if_neg (h.recessive_lt hrun), hwindow]
  rfl

/-- All bits of the frame taken, with no inserted bit to come: the receiver stands at the window (R141, R145). -/
theorem window (h : Follows f [] last run x) (hrun : run < 8) (h1 : 1 ≤ f.words.length) (h7 : f.words.length ≤ 7) :
    x.has = .window (some f) := by
  have htaken : x.taken = f.bits := by simpa using h.taken
  have hlen := length_bits f
  have hwindow : x.atWindow = true := by
    simp only [Intake.atWindow, takenCount, htaken, bits_count f h7, h.count, hlen]
    rw [if_pos (by omega)]
    have hplace : frameBits (max 1 f.words.length) ≤ 30 + 17 * f.words.length := by unfold frameBits; omega
    exact (Bool.and_eq_true _ _).mpr ⟨decide_eq_true hplace, by simpa using hrun.ne⟩
  rw [Intake.has, if_neg (h.recessive_lt hrun.le), hwindow, if_pos rfl, Intake.verdict, h.violated, htaken]
  exact congrArg _ (decodeBits_bits f h1 h7)

end Follows

/-- From within a frame to its end: every bit but the last of the wire leaves the receiver taking bits, and the last brings it
to the window (R141). -/
theorem receive_insertFrom {f : Frame} (h1 : 1 ≤ f.words.length) (h7 : f.words.length ≤ 7) {bs : List Bool} (hbs : bs ≠ [])
    {last : Bool} {run : Nat} {x : Intake} (hrun : run < 8) (h : Follows f bs last run x) :
    ∃ front z, insertFrom last run bs = front ++ [z] ∧ x.receive front = .taking
      ∧ x.receive (front ++ [z]) = .window (some f) := by
  have hone {y : Intake} {b : Bool} {d : Reception} (hd : (y.bit b).has = .window (some f)) :
      y.receive [b] = .window (some f) := by simp [Intake.receive, hd]
  induction bs generalizing last run x with
  | nil => exact absurd rfl hbs
  | cons b bs ih =>
    have hbit := h.bit hrun
    have hstep : nextRun last run b ≤ 8 := by unfold nextRun; split <;> omega
    rw [insertFrom_cons]
    split
    · next h8 =>
      rw [h8] at hbit
      have hafter := hbit.inserted
      have htaking := hbit.taking le_rfl h7 (.inr rfl)
      by_cases hmore : bs = []
      · subst hmore
        have hwindow := hafter.window (by omega) h1 h7
        exact ⟨[b], !b, rfl, by simp [Intake.receive, htaking], by simp [Intake.receive, htaking, hwindow]⟩
      · obtain ⟨front, z, hout, hfront, hlast⟩ := ih hmore (by omega) hafter
        have hinserted := hafter.taking (by omega) h7 (.inl hmore)
        refine ⟨b :: (!b) :: front, z, by rw [hout]; rfl, ?_, ?_⟩
        · rw [Intake.receive_next _ _ _ htaking, Intake.receive_next _ _ _ hinserted, hfront]
        · rw [List.cons_append, List.cons_append, Intake.receive_next _ _ _ htaking, Intake.receive_next _ _ _ hinserted,
            hlast]
    · next hne =>
      have hlt := nextRun_lt hrun hne
      by_cases hmore : bs = []
      · subst hmore
        exact ⟨[], b, rfl, rfl, by simp [Intake.receive, hbit.window hlt h1 h7]⟩
      · obtain ⟨front, z, hout, hfront, hlast⟩ := ih hmore hlt hbit
        have htaking := hbit.taking hstep h7 (.inl hmore)
        refine ⟨b :: front, z, by rw [hout]; rfl, ?_, ?_⟩
        · rw [Intake.receive_next _ _ _ htaking, hfront]
        · rw [List.cons_append, Intake.receive_next _ _ _ htaking, hlast]

/-- A receiver still taking bits was taking bits before. -/
theorem receive_take {x : Intake} {bits : List Bool} (h : x.receive bits = .taking) (n : Nat) :
    x.receive (bits.take n) = .taking := by
  induction bits generalizing x n with
  | nil => simpa using h
  | cons b bs ih =>
    cases n with
    | zero => rfl
    | succ n =>
      cases e : (x.bit b).has with
      | taking =>
        rw [Intake.receive_next _ _ _ e] at h
        rw [List.take_succ_cons, Intake.receive_next _ _ _ e]
        exact ih h n
      | ended => simp [Intake.receive, e] at h
      | window d => simp [Intake.receive, e] at h

/-- At the window the receiver takes no further bit. -/
theorem receive_append {x : Intake} {bits : List Bool} {d : Option Frame} (h : x.receive bits = .window d)
    (after : List Bool) : x.receive (bits ++ after) = .window d := by
  induction bits generalizing x with
  | nil => cases h
  | cons b bs ih =>
    cases e : (x.bit b).has with
    | taking =>
      rw [Intake.receive_next _ _ _ e] at h
      rw [List.cons_append, Intake.receive_next _ _ _ e]
      exact ih h
    | ended => simp [Intake.receive, e] at h
    | window d => simpa [Intake.receive, e] using h

/-- The wire of a frame, its start bit and its last bit apart, as a receiver takes it. -/
theorem receive_wire (f : Frame) (h1 : 1 ≤ f.words.length) (h7 : f.words.length ≤ 7) :
    ∃ front z, f.wire = false :: (front ++ [z]) ∧ Intake.start.receive front = .taking
      ∧ Intake.start.receive (front ++ [z]) = .window (some f) := by
  have hbits : ∃ rest, f.bits = false :: rest := ⟨_, rfl⟩
  obtain ⟨rest, hrest⟩ := hbits
  have hlen := length_bits f
  have hmore : rest ≠ [] := by
    rintro rfl
    rw [hrest] at hlen
    simp at hlen
    omega
  have hfollow : Follows f rest false 1 .start := (hrest ▸ Follows.begin f).bit (by omega)
  obtain ⟨front, z, hout, hfront, hlast⟩ := receive_insertFrom h1 h7 hmore (by omega) hfollow
  refine ⟨front, z, ?_, hfront, hlast⟩
  rw [Frame.wire, hrest, insertFrom_cons, if_neg (by decide)]
  exact congrArg _ hout

theorem receive_start (bits : List Bool) : receive (false :: bits) = Intake.start.receive bits :=
  Intake.receive_next .begin false bits rfl

/-- A node that has judged the line idle takes a whole frame and its two slots, and counts idle from there (R140, R145). -/
theorem foldl_wholeFrame (f : Frame) (h1 : 1 ≤ f.words.length) (h7 : f.words.length ≤ 7) (run : Nat) (wait ack error : Bool)
    (n : Nat) :
    (f.wire ++ [ack, error] ++ List.replicate n true).foldl LineWatch.bit { line := .idle, run := run, wait := wait } =
      { line := if 10 ≤ n then .idle else .closed, run := min 30 n, wait := false } := by
  obtain ⟨front, z, hwire, hfront, hlast⟩ := receive_wire f h1 h7
  have hframe := LineWatch.foldl_window front .start 0 false z ack error _ hfront hlast
  have hsplit : f.wire ++ [ack, error] ++ List.replicate n true =
      false :: (front ++ [z, ack, error] ++ List.replicate n true) := by simp [hwire]
  have hstart : LineWatch.bit { line := .idle, run := run, wait := wait } false =
      { line := .receiving .start, run := 0, wait := false } := rfl
  rw [hsplit, List.foldl_cons, hstart, List.foldl_append, hframe]
  obtain ⟨hidle, -⟩ := LineWatch.foldl_quiet { line := .closed, run := 0, wait := false }
    ⟨Nat.zero_lt_succ 9, nofun⟩ (.inr (.inl rfl)) n
  simpa using hidle

/-! ### The window (R140, R145, R146) -/

/-- The station is a receiver of the frame in whose window it stands. -/
def State.receives (s : State) : Prop := s.inReset = false ∧ s.link.line ≠ .awaitingIdle ∧ s.link.attempt = none

theorem drives_of_receives {s : State} (h : s.receives) (r : Reception) : s.drives r = r.drives := by
  obtain ⟨hr, hline, hattempt⟩ := h
  exact if_pos ⟨by simp [State.hears, hr, hline], hattempt⟩

theorem drives_of_not_receives {s : State} (h : ¬s.receives) (r : Reception) : s.drives r = .none := by
  refine if_neg fun ⟨hears, hattempt⟩ => h ?_
  simp only [State.hears, Bool.and_eq_true, Bool.not_eq_true', decide_eq_true_eq] at hears
  exact ⟨hears.1, hears.2, hattempt⟩

theorem drives_ack_iff {s : State} {r : Reception} :
    (s.drives r).ack = true ↔ s.receives ∧ ∃ f, r = .window (some f) := by
  by_cases h : s.receives
  · rw [drives_of_receives h]
    rcases r with _ | _ | (_ | f) <;> simp [Reception.drives, Slots.none, h]
  · rw [drives_of_not_receives h]
    simp [Slots.none, h]

theorem drives_error_iff {s : State} {r : Reception} : (s.drives r).error = true ↔ s.receives ∧ r = .window none := by
  by_cases h : s.receives
  · rw [drives_of_receives h]
    rcases r with _ | _ | (_ | f) <;> simp [Reception.drives, Slots.none, h]
  · rw [drives_of_not_receives h]
    simp [Slots.none, h]

/-- ERROR stands in no window in which no receiver found an error (R145). -/
theorem readSlots_error_iff (stations : List (State × Reception)) :
    (readSlots (stations.map fun x => x.1.drives x.2)).error = false ↔
      ∀ x ∈ stations, x.1.receives → x.2 ≠ .window none := by
  rw [← Bool.not_eq_true]
  simp only [readSlots, List.any_map, List.any_eq_true, Function.comp, drives_error_iff]
  push Not
  exact forall₃_congr fun x _ => by tauto

theorem readSlots_ack_iff (stations : List (State × Reception)) :
    (readSlots (stations.map fun x => x.1.drives x.2)).ack = true ↔
      ∃ x ∈ stations, x.1.receives ∧ ∃ f, x.2 = .window (some f) := by
  simp only [readSlots, List.any_map, List.any_eq_true, Function.comp, drives_ack_iff]

end Sys2Proof.Machine

open Sys2Proof Sys2Proof.Machine in
/-- Settles O14: a receiver follows the transmitter's bits to the window, and the slots read are those any receiver drives. -/
theorem wireReadsBack : Obligations.WireReadsBack := by
  refine ⟨fun f h1 h7 => ?_, fun s r => ⟨fun h => ?_, fun hr hline hattempt => ?_⟩, fun stations => ?_⟩
  · obtain ⟨front, z, hwire, hfront, hlast⟩ := receive_wire f h1 h7
    refine ⟨?_, fun after => ?_, fun n hn => ?_, fun s ack error n hr hstraps hattempt hline => ?_⟩
    · rw [decodeWire, Frame.wire, discardFrom_insertFrom (by omega)]
      exact decodeBits_bits f h1 h7
    · rw [hwire, List.cons_append, receive_start]
      exact receive_append hlast after
    · rw [hwire] at hn ⊢
      cases n with
      | zero => rfl
      | succ n =>
        simp only [List.length_cons, List.length_append, List.length_nil] at hn
        rw [List.take_succ_cons, receive_start, List.take_append_of_le_length (by omega)]
        exact receive_take hfront n
    · have hjudged := foldl_wholeFrame f h1 h7 s.link.run s.link.retryWait ack error n
      rw [← hline] at hjudged
      rw [exec_lineIdle hr hstraps hattempt, judgeLine_eq (s := s) hjudged, hline]
      rfl
  · refine drives_of_not_receives (fun ⟨hr, hline, hattempt⟩ => ?_) r
    rcases h with h | h | h
    · rw [hr] at h; cases h
    · exact hline h
    · exact h hattempt
  · rw [drives_of_receives ⟨hr, hline, hattempt⟩]
    refine ⟨?_, ?_, ?_⟩
    · rintro f rfl; rfl
    · rintro rfl; rfl
    · rintro (rfl | rfl) <;> rfl
  · have herror := readSlots_error_iff stations
    have hack := readSlots_ack_iff stations
    dsimp only
    refine ⟨?_, fun x hx => ?_, fun x hx hrec hwindow => ?_⟩
    · rw [transmitterAccepts, Bool.and_eq_true, Bool.not_eq_true', herror, hack]
      exact and_comm
    · rw [receiverAccepts, Bool.and_eq_true, Bool.not_eq_true', herror, drives_ack_iff]
      exact and_comm
    · have hclean : (readSlots (stations.map fun x => x.1.drives x.2)).error = false →
          ((x.1.drives x.2).ack = true ↔ (readSlots (stations.map fun x => x.1.drives x.2)).ack = true) := by
        intro h
        rw [drives_ack_iff, hack]
        refine ⟨fun h => ⟨x, hx, h⟩, fun _ => ⟨hrec, ?_⟩⟩
        obtain ⟨d | f, hd⟩ := hwindow
        · exact absurd hd (herror.mp h x hx hrec)
        · exact ⟨f, hd⟩
      rw [receiverAccepts, transmitterAccepts]
      cases herr : (readSlots (stations.map fun x => x.1.drives x.2)).error with
      | true => simp
      | false => simpa using Bool.eq_iff_iff.mpr (hclean herr)
end

section
/-! One sequencer and the start tests, each by what it writes; the expiry of the grace, proving, run-down and hold-off timers
and the proving switch: O57, O52, O50, O53, O54 (R63, R67, R71, R72, R78 to R85, R114 to R116). -/

namespace Sys2Proof.Machine

variable {s t : State} {c d : ChannelNo}

/-! ### The grace timer (R114) -/

theorem exec_graceExpiry {r : Nat} (hr : s.inReset = false) (h : s.contain = { state := .pending, grace := some r }) :
    exec .graceTimerExpiry s = .next (setContain .notAchieved none s) := by
  have hexpiry : graceExpiry s = setContain .notAchieved none s := by simp [graceExpiry, h]
  exact congrArg _ ((outside_of_not_inReset hr).trans hexpiry)

/-- Containment lost from PENDING: a notice to the composer, then the condition (R115, R116). -/
theorem setContain_notAchieved (h : s.contain.state = .pending) :
    setContain .notAchieved none s
      = raise (plainCond .containmentNotAchieved)
          (statusNotice (s.withContain { state := .notAchieved, grace := none })) := by
  simp only [setContain, h, reduceCtorEq, if_false]
  rfl

/-- An instance raised over an empty record fills it, with TROUBLE de-energized (R159, R161). -/
theorem raise_fills {x : Cond} (hmask : masked x s = false) (hrecord : s.trouble.record = none)
    (hactive : s.trouble.active = []) :
    (raise x s).trouble.record.map (·.cond) = some x ∧ (raise x s).trouble.output = false := by
  rw [raise_trouble s x hmask (by simp [hactive]), if_pos hrecord]
  exact ⟨rfl, rfl⟩

/-! ### What one update of a sequencer writes (R58, R85) -/

/-- The trouble-enable flag of a channel masks the conditions of its sequencer (R158). -/
theorem masked_chanCond {k : CondCode} (hk : k.ofChannel = true) (c : ChannelNo) (s : State) :
    masked (chanCond k c) s = !(s.chCfg c).troubleEnable := by
  have hflag : masked.flagClear (chanCond k c) s = !(s.chCfg c).troubleEnable := by
    simp [masked.flagClear, chanCond, State.chCfg]
  cases k <;> first | exact hflag | cases hk

theorem mem_setSeq {x : Cond} {q : Sequencer} (hne : seqCond c (s.ch c).seq ≠ seqCond c q) :
    x ∈ (setSeq c q s).trouble.active
      ↔ (x ∈ s.trouble.active ∧ some x ≠ seqCond c (s.ch c).seq) ∨ (some x = seqCond c q ∧ masked x s = false) := by
  have hmask (y : Channel) : masked x (s.setCh c y) = masked x s := masked_congr rfl x
  rw [setSeq, mem_swapCond hne, hmask]
  rfl

/-- The condition of the state entered is active, where the channel's trouble-enable flag is set. -/
theorem mem_setSeq_entered {k : CondCode} {q : Sequencer} (hk : k.ofChannel = true)
    (hne : seqCond c (s.ch c).seq ≠ seqCond c q) (hq : seqCond c q = some (chanCond k c))
    (hflag : (s.chCfg c).troubleEnable = true) : chanCond k c ∈ (setSeq c q s).trouble.active :=
  (mem_setSeq hne).mpr (.inr ⟨hq.symm, by rw [masked_chanCond hk, hflag]; rfl⟩)

/-- The condition of the state left is not active. -/
theorem not_mem_setSeq_left {x : Cond} {q : Sequencer} (hx : seqCond c (s.ch c).seq = some x) (hq : seqCond c q ≠ some x) :
    x ∉ (setSeq c q s).trouble.active := by
  rw [mem_setSeq (by rw [hx]; exact hq.symm)]
  rintro (⟨-, h⟩ | ⟨h, -⟩)
  · exact h hx.symm
  · exact hq h.symm

/-- A condition that its channel's flag masks is not reported (R158). -/
theorem setSeq_trouble_of_masked {x : Cond} {q : Sequencer} (hold : seqCond c (s.ch c).seq = none)
    (hq : seqCond c q = some x) (hmask : masked x s = true) : (setSeq c q s).trouble = s.trouble := by
  have hmask' (y : Channel) : masked x (s.setCh c y) = true := (masked_congr rfl x).trans hmask
  simp only [setSeq, swapCond, hold, hq, reduceCtorEq, if_false, endOpt, raiseOpt]
  rw [raise_idle _ _ (.inl (hmask' _))]
  rfl

/-- Work that writes channels and reports alone. -/
structure ChannelWork (s t : State) : Prop where
  starts : t.starts = s.starts
  rest   : t.lessReports = (s.withChans t.chans).lessReports

theorem ChannelWork.refl (s : State) : ChannelWork s s := ⟨rfl, rfl⟩

theorem setSeq_channelWork (c : ChannelNo) (q : Sequencer) (s : State) : ChannelWork s (setSeq c q s) := by
  have h := setSeq_lessReports s c q
  obtain ⟨-, -, -, hchans, -⟩ := lessReports_eq h
  refine ⟨setSeq_starts s c q, h.trans ?_⟩
  rw [hchans]
  rfl

/-! ### What the start tests write (R72, R75, R78) -/

/-- A channel that does not wait for its slot is not started. -/
theorem startTests_ch_of_not_waiting (h : waitsForSlot s c = false) : (startTests s).ch c = s.ch c := by
  have hch : (claimTest (withdrawTest s)).chans = s.chans := by simp
  rcases isolatedTest_cases (claimTest (withdrawTest s)) with hidle | ⟨d, hlow, -, -, -, -, -, hchans, -⟩
  · rw [startTests, hidle]
    simp only [State.ch, hch]
  · have hwaits : waitsForSlot s d = true := by
      rw [lowestWaiting_congr hch] at hlow
      exact List.find?_some hlow
    have hne : d ≠ c := by
      rintro rfl
      rw [h] at hwaits
      cases hwaits
    calc (startTests s).ch c
      _ = (enterStarting d (claimTest (withdrawTest s))).ch c := congrArg (fun v => v[c.val]) hchans
      _ = (claimTest (withdrawTest s)).ch c := by rw [enterStarting_ch, if_neg hne]
      _ = s.ch c := by simp only [State.ch, hch]

/-- Neither in MUTE nor under TX-FAIL the tests start no fan. -/
theorem startTests_chans_of_claiming (hmode : s.ctl.mode ≠ .mute) (htx : s.link.txFail = false) :
    (startTests s).chans = s.chans := by
  have hkept : (claimTest (withdrawTest s)).lessSequencing = s.lessSequencing := by simp
  obtain ⟨hctl, -⟩ := lessSequencing_eq hkept
  obtain ⟨-, -, -, -, htxFail, -⟩ := lessSequencing_eq_link hkept
  rcases isolatedTest_cases (claimTest (withdrawTest s)) with hidle | ⟨d, -, -, hapart, -⟩
  · rw [startTests, hidle]
    simp
  · rw [hctl, htxFail, htx] at hapart
    rcases hapart with h | h
    · exact absurd h hmode
    · cases h

/-- With no claim record, no fan that waits or no test that may start one, the tests change nothing. -/
theorem startTests_still (hclaim : s.starts.claim = .absent)
    (h : lowestWaiting s = none ∨ s.meas.supply = .fail ∨ (s.sequencing = false ∧ s.ctl.mode ≠ .active)) :
    startTests s = s := by
  have hwithdrawn : withdrawTest s = s := by
    have hkept : withdrawClaim s = s := by simp only [withdrawClaim, hclaim]
    unfold withdrawTest
    rw [hkept, ite_self]
  have hunclaimed : claimTest s = s := by
    refine if_neg fun ⟨_, hwaits, _, hsupply, hmode, _⟩ => ?_
    rcases h with hnone | hfail | ⟨-, hidle⟩
    · rw [hnone] at hwaits; cases hwaits
    · exact hsupply hfail
    · exact hidle hmode
  rw [startTests, hwithdrawn, hunclaimed]
  rcases isolatedTest_cases s with hidle | ⟨d, hwaits, hrunning, -, -, hsupply, -⟩
  · exact hidle
  · rcases h with hnone | hfail | ⟨hstopped, -⟩
    · rw [hnone] at hwaits; cases hwaits
    · exact absurd hfail hsupply
    · rw [hstopped] at hrunning; cases hrunning

theorem lowestWaiting_ne_none (h : waitsForSlot s c = true) : lowestWaiting s ≠ none := fun hnone =>
  absurd h (by simpa using List.find?_eq_none.mp hnone c (mem_allChannels c))

end Sys2Proof.Machine

open Sys2Proof Sys2Proof.Machine in
/-- Settles O57: the expiry is the one entry to NOT-ACHIEVED, a notice and a raise. -/
theorem graceExpiryLosesContainment : Obligations.GraceExpiryLosesContainment := by
  intro r s hr hs
  have hmask (u : State) : masked (plainCond .containmentNotAchieved) u = false := masked_plain rfl u
  refine ⟨_, exec_graceExpiry hr hs, (setContain_keeps s _ _).1, ?_⟩
  have hrest : (setContain .notAchieved none s).lessReports
      = (s.withContain (setContain .notAchieved none s).contain).lessReports := by
    rw [setContain_lessReports, (setContain_keeps s _ _).1]
  rw [setContain_notAchieved (by rw [hs])] at hrest ⊢
  refine ⟨(mem_raise _ _ _ (hmask _)).mpr (.inl rfl), fun hm => raise_owed _ (statusNotice_queues _ hm), fun hfull => ?_,
    fun hlaw hempty => ?_, hrest⟩
  · rw [raise_record _ _ (by rw [statusNotice_trouble]; exact hfull), statusNotice_trouble]
    rfl
  · obtain ⟨-, -, -, hactive, -⟩ := hlaw
    exact raise_fills (hmask _) (by rw [statusNotice_trouble]; exact hempty)
      (by rw [statusNotice_trouble]; exact hactive hempty)

open Sys2Proof Sys2Proof.Machine in
/-- Settles O50: with the hold-off stopped, the three tests by their cases. -/
theorem holdOffExpiryClaimsOrStarts : Obligations.HoldOffExpiryClaimsOrStarts := by
  intro s hr hruns
  refine ⟨startTests (s.withStarts { s.starts with holdOff := none }),
    congrArg _ ((outside_of_not_inReset hr).trans (if_pos hruns)), fun hmode htx hclaim hwaits hsupply => ?_,
    fun c hrunning hapart hwaits hsupply hclaim => ?_, fun hclaim hstill => startTests_still hclaim hstill, by simp⟩
  · exact startTests_claims hwaits hsupply hmode htx (by rw [← hclaim]; rfl)
  · obtain ⟨hch, hstarts⟩ := startTests_isolated (s := s.withStarts { s.starts with holdOff := none }) hwaits hsupply
      hrunning hapart rfl (by simp [hclaim, ClaimRecord.isSending])
    have hself := (hch c).trans (if_pos rfl)
    exact ⟨hstarts, by rw [hself]; rfl, by rw [hself]; rfl, fun d hd => (hch d).trans (if_neg hd.symm)⟩

namespace Sys2Proof.Machine

variable {s t : State} {c d : ChannelNo}

/-! ### The proving timer (R79) and the proving switch (R80 to R82) -/

theorem provingExpiry_starting {r : Nat} {o : Option Nat} (h : (s.ch c).seq = .fan .starting (some r) o) :
    provingExpiry c s = if s.meas.supply = .fail then s
      else setSeq c (fanIn (if s.role.role.incident then .proveFail else .failedOff .prove)) s := by
  unfold provingExpiry
  rw [h]
  dsimp only
  split
  · rfl
  · split <;> rfl

theorem exec_provingTimerExpiry {r : Nat} {o : Option Nat} (hr : s.inReset = false)
    (h : (s.ch c).seq = .fan .starting (some r) o) :
    exec (.provingTimerExpiry c) s = .next (if s.meas.supply = .fail then s
      else setSeq c (fanIn (if s.role.role.incident then .proveFail else .failedOff .prove)) s) :=
  congrArg Host.Outcome.next ((outside_of_not_inReset hr).trans (provingExpiry_starting h))

theorem provingEvent_proves {st : FanState} {p r : Option Nat} (h : (s.ch c).seq = .fan st p r)
    (hst : st = .starting ∨ st = .proveFail ∨ st = .runLost) : provingEvent true c s = setSeq c (fanIn .running) s := by
  unfold provingEvent
  rcases hst with rfl | rfl | rfl <;> rw [h]

theorem provingEvent_loses {p r : Option Nat} (h : (s.ch c).seq = .fan .running p r) :
    provingEvent false c s = setSeq c (fanIn (if s.role.role.incident then .runLost else .failedOff .run)) s := by
  unfold provingEvent
  rw [h]
  dsimp only
  split <;> rfl

theorem provingEvent_stays {st : FanState} {m : Bool} {p r : Option Nat} (h : (s.ch c).seq = .fan st p r)
    (hst : (m = true ∧ st ≠ .starting ∧ st ≠ .proveFail ∧ st ≠ .runLost) ∨ (m = false ∧ st ≠ .running)) :
    provingEvent m c s = s := by
  unfold provingEvent
  rw [h]
  rcases hst with ⟨rfl, hst⟩ | ⟨rfl, hst⟩ <;> cases st <;> simp at hst <;> rfl

theorem provingEvent_channelWork (m : Bool) (c : ChannelNo) (s : State) : ChannelWork s (provingEvent m c s) := by
  unfold provingEvent
  split
  · exact setSeq_channelWork c _ s
  · exact setSeq_channelWork c _ s
  · exact setSeq_channelWork c _ s
  · split
    · exact setSeq_channelWork c _ s
    · exact setSeq_channelWork c _ s
  · exact .refl s

theorem provingEvent_ch_kept (m : Bool) (c : ChannelNo) (s : State) :
    ((provingEvent m c s).ch c).inA = (s.ch c).inA ∧ ((provingEvent m c s).ch c).inB = (s.ch c).inB
      ∧ ((provingEvent m c s).ch c).target = (s.ch c).target := by
  obtain ⟨htarget, hA, hB⟩ := lessSequencing_eq_ch (provingEvent_lessSequencing s m c) c
  exact ⟨hA, hB, htarget⟩

/-- The switch of a fan has changed: the level is taken, and where the fan proves by its switch, outside reset, the event
reaches it (R63). -/
def switched (c : ChannelNo) (m : Bool) (s : State) : State :=
  if s.inReset = false ∧ (s.chCfg c).proving = none then provingEvent m c (storeInput c .a m s) else storeInput c .a m s

theorem exec_switchChange {m : Bool} {st : FanState} {p r : Option Nat} (hm : (s.ch c).inA.level ≠ m)
    (h : (s.ch c).seq = .fan st p r) : exec (.provingSwitchChange c m) s = .next (switched c m s) := by
  have hseq : ((storeInput c .a m s).ch c).seq = .fan st p r := (storeInput_seq c c .a m s).trans h
  have hcfg : (storeInput c .a m s).chCfg c = s.chCfg c := rfl
  have hreset : (storeInput c .a m s).inReset = s.inReset := rfl
  rw [exec_provingSwitchChange, if_neg hm, switched, State.outside, hreset, inputEvent, hseq]
  cases s.inReset <;> simp [hcfg]

theorem storeInput_ch (c d : ChannelNo) (i : Input) (m : Bool) (s : State) :
    (storeInput c i m s).ch d
      = if c = d then (s.ch c).withInput i { level := m, raw := m, run := 0 } else s.ch d :=
  State.ch_setCh s c d _

end Sys2Proof.Machine

open Sys2Proof Sys2Proof.Machine in
/-- Settles O52: the expiry is one update of the fan's sequencer, by the supply and the role. -/
theorem fanTimersExpire : Obligations.FanTimersExpire := by
  intro c r o s hr hseq
  refine ⟨_, exec_provingTimerExpiry hr hseq, ?_⟩
  have hold : seqCond c (s.ch c).seq = none := by rw [hseq]; rfl
  by_cases hfail : s.meas.supply = .fail
  · rw [if_pos hfail]
    exact ⟨fun _ => rfl, fun h => absurd hfail h, fun h => absurd hfail h, fun h => absurd hfail h,
      fun h => absurd hfail h, fun _ _ => rfl, rfl, rfl⟩
  · have hcond : seqCond c (fanIn (if s.role.role.incident then .proveFail else .failedOff .prove))
        = some (chanCond .fanProveFail c) := by split <;> rfl
    obtain ⟨hstarts, hrest⟩ :=
      setSeq_channelWork c (fanIn (if s.role.role.incident then .proveFail else .failedOff .prove)) s
    rw [if_neg hfail]
    refine ⟨fun h => absurd h hfail, fun _ hi => ?_, fun _ hi => ?_, fun _ hflag => ?_, fun _ hflag => ?_,
      fun e he => ?_, hstarts, hrest⟩
    · rw [setSeq_ch, if_pos rfl, hi]; rfl
    · rw [setSeq_ch, if_pos rfl, hi]; rfl
    · exact mem_setSeq_entered rfl (by rw [hold, hcond]; exact nofun) hcond hflag
    · exact setSeq_trouble_of_masked hold hcond (by rw [masked_chanCond rfl, hflag]; rfl)
    · rw [setSeq_ch, if_neg (Ne.symm he)]

open Sys2Proof Sys2Proof.Machine in
/-- Settles O53: entry to STOPPED, evaluated at once, then the start tests, which reach only a fan that waits. -/
theorem runDownExpiryReturnsToStopped : Obligations.RunDownExpiryReturnsToStopped := by
  intro c r p s hr hseq
  have hexpiry : runDownExpiry c s = enterStopped c s := by simp only [runDownExpiry, hseq]
  have hexec : exec (.runDownTimerExpiry c) s = .next (startTests (enterStopped c s)) :=
    (congrArg _ (outside_of_not_inReset hr)).trans (by rw [hexpiry])
  have hself := (enterStopped_ch s c c).trans (if_pos rfl)
  have hold : seqCond c (s.ch c).seq = none := by rw [hseq]; rfl
  obtain ⟨hctl, -, -, hmeas, -⟩ := lessSequencing_eq (enterStopped_lessSequencing s c)
  obtain ⟨-, -, -, -, htxFail, -⟩ := lessSequencing_eq_link (enterStopped_lessSequencing s c)
  have hstarts : (enterStopped c s).starts = s.starts := enterStopped_starts s c
  have hstay (h : waitsForSlot (enterStopped c s) c = false) :
      (startTests (enterStopped c s)).ch c = (enterStopped c s).ch c := startTests_ch_of_not_waiting h
  have hwaits : waitsForSlot (enterStopped c s) c
      = decide ((s.ch c).target = .on ∧ evaluateStopped s c = .awaitingSlot) := by
    unfold waitsForSlot
    rw [hself]
    cases (s.ch c).target <;> cases evaluateStopped s c <;> simp
  refine ⟨_, hexec, fun ht => ?_, fun ht hf => ⟨?_, fun hflag => ?_⟩, fun ht hf hi => ?_, fun ht hf hi hno => ?_,
    fun ht hf hi hhold hsupply hmode htx hclaim => ?_, by simp, fun htx hmode e he => ?_⟩
  · rw [hstay (by rw [hwaits, ht]; rfl), hself, ht]
    rfl
  · have heval : evaluateStopped s c = .blocked := by simp [evaluateStopped, hf]
    rw [hstay (by rw [hwaits, heval]; simp), hself, ht, heval]
    rfl
  · have heval : evaluateStopped s c = .blocked := by simp [evaluateStopped, hf]
    have henter : enterStopped c s = setSeq c (fanIn .blocked) s := by simp only [enterStopped, ht, heval]
    rw [startTests_trouble, henter]
    exact mem_setSeq_entered rfl (by rw [hold]; exact nofun) rfl hflag
  · have heval : evaluateStopped s c = .awaitingInterlock := by simp [evaluateStopped, hf, hi]
    rw [hstay (by rw [hwaits, heval]; simp), hself, ht, heval]
    rfl
  · have heval : evaluateStopped s c = .awaitingSlot := by simp [evaluateStopped, hf, hi]
    have hchans : (startTests (enterStopped c s)).chans = (enterStopped c s).chans := by
      rcases hno with hhold | hfail | ⟨hmode, htx⟩
      · exact startTests_chans _ (by rw [hstarts]; exact hhold)
      · rw [startTests_of_fail (by rw [hmeas]; exact hfail), withdrawClaim_chans]
      · exact startTests_chans_of_claiming (by rw [hctl, hmode]; exact nofun) (by rw [htxFail]; exact htx)
    have hch : (startTests (enterStopped c s)).ch c = (enterStopped c s).ch c := congrArg (fun v => v[c.val]) hchans
    rw [hch, hself, ht, heval]
    rfl
  · have heval : evaluateStopped s c = .awaitingSlot := by simp [evaluateStopped, hf, hi]
    have hwaiting : waitsForSlot (enterStopped c s) c = true := by rw [hwaits, ht, heval]; simp
    rw [startTests_claims (lowestWaiting_ne_none hwaiting) (by rw [hmeas]; exact hsupply) (by rw [hctl]; exact hmode)
      (by rw [htxFail]; exact htx) (by rw [hstarts, ← hclaim, ← hhold])]
    exact ⟨rfl, rfl⟩
  · have hchans := startTests_chans_of_claiming (s := enterStopped c s) (by rw [hctl]; exact hmode)
      (by rw [htxFail]; exact htx)
    calc (startTests (enterStopped c s)).ch e
      _ = (enterStopped c s).ch e := congrArg (fun v => v[e.val]) hchans
      _ = s.ch e := by rw [enterStopped_ch, if_neg (Ne.symm he)]

open Sys2Proof Sys2Proof.Machine in
/-- Settles O54: the level is taken, and the event that reaches the fan is one update of its sequencer. -/
theorem provingSwitchMovesTheFan : Obligations.ProvingSwitchMovesTheFan := by
  intro c m st p r s hm hseq
  refine ⟨_, exec_switchChange hm hseq, ?_⟩
  have hu : (storeInput c .a m s).ch c = { s.ch c with inA := { level := m, raw := m, run := 0 } } :=
    (storeInput_ch c c .a m s).trans (if_pos rfl)
  have hother (e : ChannelNo) (he : e ≠ c) : (storeInput c .a m s).ch e = s.ch e :=
    (storeInput_ch c e .a m s).trans (if_neg he.symm)
  have huseq : ((storeInput c .a m s).ch c).seq = .fan st p r := (storeInput_seq c c .a m s).trans hseq
  by_cases hacts : s.inReset = false ∧ (s.chCfg c).proving = none
  · obtain ⟨hA, hB, htarget⟩ := provingEvent_ch_kept m c (storeInput c .a m s)
    obtain ⟨hstarts, hrest⟩ := provingEvent_channelWork m c (storeInput c .a m s)
    rw [switched, if_pos hacts]
    refine ⟨by rw [hA, hu], by rw [hB, hu], by rw [htarget, hu], fun h => ?_, fun _ _ hmade hst => ?_,
      fun _ _ hmade hst hi => ?_, fun _ _ hmade hst hi => ?_, fun h => provingEvent_stays huseq h,
      fun e he => (provingEvent_ch _ m c e he).trans (hother e he), hstarts, hrest⟩
    · rcases h with h | h
      · rw [hacts.1] at h; cases h
      · exact absurd hacts.2 h
    · subst hmade
      rw [provingEvent_proves huseq hst, setSeq_ch, if_pos rfl]
      refine ⟨rfl, rfl, ?_, ?_⟩ <;> rintro rfl
      · exact not_mem_setSeq_left (by rw [huseq]; rfl) nofun
      · exact not_mem_setSeq_left (by rw [huseq]; rfl) nofun
    · subst hmade hst
      have hi' : (storeInput c .a false s).role.role.incident = true := hi
      rw [provingEvent_loses huseq, hi', setSeq_ch, if_pos rfl]
      exact ⟨rfl, rfl, fun hflag => mem_setSeq_entered rfl (by rw [huseq]; exact nofun) rfl hflag⟩
    · subst hmade hst
      have hi' : (storeInput c .a false s).role.role.incident = false := hi
      rw [provingEvent_loses huseq, hi', setSeq_ch, if_pos rfl]
      exact ⟨rfl, rfl, fun hflag => mem_setSeq_entered rfl (by rw [huseq]; exact nofun) rfl hflag⟩
  · have hnot (hr : s.inReset = false) (hp : (s.chCfg c).proving = none) : False := hacts ⟨hr, hp⟩
    rw [switched, if_neg hacts]
    exact ⟨by rw [hu], by rw [hu], by rw [hu], fun _ => rfl, fun hr hp => (hnot hr hp).elim,
      fun hr hp => (hnot hr hp).elim, fun hr hp => (hnot hr hp).elim, fun _ => rfl, hother, rfl, rfl⟩
end

section
/-! What sequencing and a recompute leave of the active set, of the link and of the transmit queue in a mode that does not
send; the timers of a peer and the ACK pulse: O49 and O47 (R119, R121, R128 to R132, R155, R159 to R161). -/

namespace Sys2Proof.Machine

variable {s t u : State} {c : ChannelNo}

/-! ### Conditions of other blocks -/

/-- Sequencing and the recompute neither raise nor end a condition that is not a sequencer's nor the monitor's. -/
theorem membership_tracks {x : Cond} (hx : x.code.ofChannel = false) (hc : x.code ≠ .containmentNotAchieved) (p : Prop) :
    Tracks fun s => (x ∈ s.trouble.active ↔ p) where
  same hs h := by rw [hs.active]; exact h
  seq d q s h := by
    have hapart (r : Sequencer) : some x ≠ seqCond d r := fun e => by
      rw [(seqCond_spec e.symm).1] at hx
      cases hx
    by_cases e : seqCond d (s.ch d).seq = seqCond d q
    · rw [setSeq, e, swapCond, if_pos rfl]
      exact h
    · rw [mem_setSeq e, and_iff_left (hapart _), or_iff_left fun k => hapart q k.1]
      exact h
  contain st g s _ h := by
    have hapart (y : ContainState) : some x ≠ containCond y := fun e => hc (congrArg Cond.code (containCond_spec e))
    unfold setContain
    dsimp only
    split
    · exact h
    · by_cases e : containCond s.contain.state = containCond st
      · rw [swapCond, if_pos e, statusNotice_trouble]
        exact h
      · rw [mem_swapCond e, statusNotice_trouble, and_iff_left (hapart _), or_iff_left fun k => hapart st k.1]
        exact h

theorem recompute_mem {x : Cond} (hx : x.code.ofChannel = false) (hc : x.code ≠ .containmentNotAchieved) :
    x ∈ (recompute s).trouble.active ↔ x ∈ s.trouble.active :=
  recompute_tracks (membership_tracks hx hc _) Iff.rfl

theorem settleRaises_mem {x : Cond} (s t : State) : x ∈ (settleRaises s t).trouble.active ↔ x ∈ t.trouble.active := by
  rw [(settleRaises_same s t).active]

theorem settleRaises_resolverKept (s t : State) : ResolverKept t (settleRaises s t) :=
  .of_lessReports (settleRaises_lessReports s t)

/-! ### The link -/

/-- Roles, sequencing and reports leave the link but for the places of the claim and of STATUS in the queue. -/
theorem link_of_lessRoles (h : t.lessRoles = s.lessRoles) :
    t.link = { s.link with queue := { s.link.queue with claim := t.link.queue.claim, status := t.link.queue.status } } := by
  have hlink : ({ t.link with queue := (t.link.queue.put .status false).put .claim false } : Link)
      = { s.link with queue := (s.link.queue.put .status false).put .claim false } := congrArg State.link h
  cases ht : t.link with
  | mk line run queue attempt retryWait failCount txFail =>
    rw [ht] at hlink
    cases queue
    injection hlink with h1 h2 h3 h4 h5 h6 h7
    injection h3 with h31 h32
    subst h1 h2 h4 h5 h6 h7 h31 h32
    rfl

theorem statusNotice_silent (h : s.ctl.mode.sends = false) : statusNotice s = s :=
  if_neg (by rw [h]; exact Bool.false_ne_true)

/-- In a mode that does not send, reports leave queue and composer alone (R121). -/
theorem ReportRun.silent (h : ReportRun s t) (hm : s.ctl.mode.sends = false) :
    t.link.queue.status = s.link.queue.status ∧ t.status.earlyPending = s.status.earlyPending := by
  induction h with
  | quiet h => exact ⟨h.queued, h.early⟩
  | raised x hx v =>
    unfold raise
    split
    · exact ⟨rfl, rfl⟩
    · dsimp only
      split
      · rw [fillRecord, statusNotice_silent]
        · exact ⟨rfl, rfl⟩
        · exact hm
      · exact ⟨rfl, rfl⟩
  | ended x v =>
    unfold endCond
    dsimp only
    split <;> exact ⟨rfl, rfl⟩
  | noticed v =>
    rw [statusNotice_silent hm]
    exact ⟨rfl, rfl⟩
  | trans first _ ih ih' =>
    obtain ⟨hq, he⟩ := ih hm
    obtain ⟨hq', he'⟩ := ih' (by rw [first.keeps.1]; exact hm)
    exact ⟨hq'.trans hq, he'.trans he⟩

/-! ### The expiry of a silence timer (R129) -/

theorem station_of_silence {z : Station} (h : (s.peer z.toNat).silence.isSome = true) : 1 ≤ z.toNat ∧ z.toNat ≤ 63 := by
  refine ⟨Nat.one_le_iff_ne_zero.mpr fun h0 => ?_, Nat.le_of_lt_succ z.isLt⟩
  rw [h0] at h
  cases h

/-- The entry is LOST; a neighbour's is reported and reaches the Role Resolver. -/
theorem silenceExpiry_eq {z : Nat} (h : (s.peer z).silence.isSome = true) :
    silenceExpiry z s = if z ∈ s.cfg.neighbours
      then recompute (raise (neighbourSilent z) (s.setPeer z (silentPeer (s.peer z))))
      else s.setPeer z (silentPeer (s.peer z)) := by
  have hctl := (setPeer_active z (silentPeer (s.peer z)) s).2
  have hneighbour : isNeighbour (s.setPeer z (silentPeer (s.peer z))) z = decide (z ∈ s.cfg.neighbours) :=
    (isNeighbour_congr (congrArg _ hctl) z).trans rfl
  simp only [silenceExpiry, h, if_true, hneighbour, decide_eq_true_eq]

theorem silenceExpiry_peers {z : Nat} (h : (s.peer z).silence.isSome = true) :
    (silenceExpiry z s).peers = (s.setPeer z (silentPeer (s.peer z))).peers := by
  have hshell := silenceExpiry_shell s z
  rw [if_pos h] at hshell
  obtain ⟨-, -, hpeers, -⟩ := shell_eq hshell
  exact hpeers

end Sys2Proof.Machine

open Sys2Proof Sys2Proof.Machine in
/-- Settles O49: the entry is LOST, and for a neighbour the condition is raised and the roles are recomputed. -/
theorem peerTimersExpire : Obligations.PeerTimersExpire := by
  intro z s hr hruns
  have hz := station_of_silence hruns
  have hexec : exec (.silenceTimerExpiry z) s = .next (settleRaises s (silenceExpiry z.toNat s)) :=
    congrArg _ (outside_of_not_inReset hr)
  have hspacing : exec (.spacingTimerExpiry z) s = .next (s.setPeer z.toNat { s.peer z.toNat with spacing := none }) :=
    congrArg _ (outside_of_not_inReset hr)
  have hpeers : (settleRaises s (silenceExpiry z.toNat s)).peers = (s.setPeer z.toNat (silentPeer (s.peer z.toNat))).peers :=
    (lessReports_eq (settleRaises_lessReports s _)).2.2.2.2.2.2.2.1.trans (silenceExpiry_peers hruns)
  have hpeer (y : Nat) : (settleRaises s (silenceExpiry z.toNat s)).peer y
      = if z.toNat = y ∧ 1 ≤ z.toNat ∧ z.toNat ≤ 63 then silentPeer (s.peer z.toNat) else s.peer y :=
    (peer_congr (congrArg _ hpeers) y).trans (State.peer_setPeer s _ _ _)
  have hlost := (hpeer z.toNat).trans (if_pos ⟨rfl, hz⟩)
  have hroles : (settleRaises s (silenceExpiry z.toNat s)).lessRoles
      = (s.withPeers (settleRaises s (silenceExpiry z.toNat s)).peers).lessRoles := by
    rw [hpeers, ← silenceExpiry_peers hruns, ← silenceExpiry_lessRoles]
    exact lessRoles_of_lessSequencing (lessSequencing_of_lessReports (settleRaises_lessReports s _))
  refine ⟨_, hexec, hspacing, hlost, fun y hy => (hpeer y.toNat).trans (if_neg fun h => hy (BitVec.eq_of_toNat_eq h.1.symm)),
    ?_, fun hn => ?_, fun hn ha => ?_, fun hn => ?_, hroles⟩
  · rw [hpeers]
    unfold State.setPeer
    split <;> rfl
  · rw [settleRaises_mem, silenceExpiry_eq hruns, if_pos hn, recompute_mem rfl (by simp [neighbourSilent]),
      mem_raise _ _ _ (masked_plain rfl _)]
    exact .inl rfl
  · have hctl : (raise (neighbourSilent z.toNat) (s.setPeer z.toNat (silentPeer (s.peer z.toNat)))).ctl = s.ctl :=
      (lessReports_eq (raise_lessReports _ _)).1.trans (setPeer_active _ _ _).2
    have hresolved : Resolved (settleRaises s (silenceExpiry z.toNat s)) := by
      rw [silenceExpiry_eq hruns, if_pos hn]
      exact (recompute_resolved (by rw [hctl]; exact ha)).kept (settleRaises_resolverKept _ _)
    obtain ⟨hctl', hreg, -⟩ := lessRoles_eq hroles
    have hcfg : (settleRaises s (silenceExpiry z.toNat s)).cfg = s.cfg := congrArg (fun x => x.config.getD blankConfig) hctl'
    refine ⟨hresolved.role, hresolved.assist, fun hadj hmem => ?_⟩
    rw [hresolved.assist, deriveAssist, hadj, hcfg, hreg]
    refine (Bool.and_eq_true _ _).mpr ⟨rfl, List.any_eq_true.mpr ⟨z.toNat, hn, ?_⟩⟩
    rw [hlost]
    exact (Bool.and_eq_true _ _).mpr ⟨decide_eq_true hmem, rfl⟩
  · rw [hlost, silenceExpiry_eq hruns, if_neg hn]
    exact settleRaises_idle fun h => by rw [(setPeer_active _ _ _).1]; exact h

namespace Sys2Proof.Machine

variable {s t u : State}

/-! ### The ACK pulse (R160) -/

/-- What an ACK pulse writes before the Trouble Unit acts on it (R155). -/
def ackTaken (s : State) : State := s.withPanel { s.panel with ack := { s.panel.ack with raw := true, taken := true } }

theorem exec_ackPulse {b : Bool} (h : s.panel.ack.taken = false) :
    exec (.ackPulse b) s = .next ((ackTaken s).outside (acknowledge b)) :=
  congrArg _ (if_neg (by rw [h]; exact Bool.false_ne_true))

theorem acknowledge_idle {b : Bool} (h : s.trouble.record = none) : acknowledge b s = s := by
  simp only [acknowledge, h]

/-- After an acknowledge the record holds the lowest active instance, or is empty (R160). -/
theorem acknowledge_record (b : Bool) (h : s.trouble.record = none → s.trouble.active = []) :
    (acknowledge b s).trouble.record.map (·.cond) = s.trouble.active.head? := by
  cases hr : s.trouble.record with
  | none => rw [acknowledge_idle hr, hr, h hr]; rfl
  | some r =>
    rw [acknowledge_trouble _ _ (by rw [hr]; rfl)]
    simp [refreshTrouble, refilled_record, Option.map_map, Function.comp_def]

/-- TROUBLE follows the record (R161). -/
theorem acknowledge_output (b : Bool) (h : s.trouble.record = none → s.trouble.output = troubleLevel s) :
    (acknowledge b s).trouble.output = troubleLevel (acknowledge b s) := by
  cases hr : s.trouble.record with
  | none => rw [acknowledge_idle hr]; exact h hr
  | some r =>
    have htrouble := acknowledge_trouble s b (by rw [hr]; rfl)
    obtain ⟨hctl, -, -, -, -, -, -, -, hpanel, -⟩ := lessReports_eq (acknowledge_lessReports s b)
    have hlevel := troubleLevel_congr (s := refreshTrouble (s.withTrouble (s.trouble.refilled b))) (t := acknowledge b s)
      (by rw [hctl]; rfl) (by rw [htrouble]) (by rw [hpanel]; rfl)
    rw [hlevel, htrouble]
    rfl

theorem troubleLevel_of_full (h : s.trouble.record.isSome = true) : troubleLevel s = false := by
  cases hr : s.trouble.record with
  | none => rw [hr] at h; cases h
  | some r => simp [troubleLevel, hr]

/-- Where the end leaves the record empty, it falls together with the filling, and the set is empty as well (R160). -/
theorem endCond_emptied {x : Cond} (h : s.trouble.record.isSome = true) (he : (endCond x s).trouble.record = none) :
    (endCond x s).trouble.active = [] ∧ (endCond x s).trouble.output = troubleLevel (endCond x s) := by
  cases hends : s.trouble.endsWithAck x with
  | false =>
    rw [endCond_trouble s x hends] at he
    rw [he] at h
    cases h
  | true =>
    have hhead := endCond_record_together s x hends
    rw [he] at hhead
    refine ⟨by rw [endCond_active]; exact List.head?_eq_none_iff.mp hhead.symm, ?_⟩
    simp only [endCond, hends, if_true]
    rfl

/-- An end that falls together with the pulse leaves the record filled from the instances that remain (R160). -/
theorem endCond_acked {x y : Cond} {ys : List Cond} {r : FirstFault} (hactive : s.trouble.active = y :: ys)
    (hr : s.trouble.record = some r) (hcond : r.cond = y) (hacked : r.acked = true)
    (hout : s.trouble.output = troubleLevel s) (hx : x ∈ s.trouble.active) :
    (endCond x s).trouble.record.map (·.cond) = (s.trouble.active.filter (fun d => decide (d ≠ x))).head?
      ∧ (endCond x s).trouble.output = troubleLevel (endCond x s) := by
  have hends : s.trouble.endsWithAck x = decide (y = x) := by
    simp [Trouble.endsWithAck, hx, hr, hcond, hacked]
  by_cases hyx : y = x
  · rw [decide_eq_true hyx] at hends
    refine ⟨endCond_record_together s x hends, ?_⟩
    simp only [endCond, hends, if_true]
    rfl
  · rw [decide_eq_false hyx] at hends
    have htrouble := endCond_trouble s x hends
    refine ⟨by rw [htrouble, hactive]; simp [hr, hcond, hyx], ?_⟩
    obtain ⟨hctl, -, -, -, -, -, -, -, hpanel, -⟩ := lessReports_eq (endCond_lessReports s x)
    rw [troubleLevel_congr (s := s) (by rw [hctl]) (by rw [htrouble]) (by rw [hpanel]), htrouble]
    exact hout

/-- The order of the set is by code, then by qualifier (R160). -/
theorem code_lt_of_sorted {x y : Cond} (hx : QualifierLaw x) (hy : QualifierLaw y) (h : x.key < y.key) :
    x.code.number < y.code.number ∨ (x.code = y.code ∧ x.qualifier < y.qualifier) := by
  have hxle := hx.le
  have hyle := hy.le
  unfold Cond.key at h
  by_cases hlt : x.code.number < y.code.number
  · exact .inl hlt
  · have heq : x.code.number = y.code.number := by omega
    exact .inr ⟨CondCode.number_inj heq, by omega⟩

end Sys2Proof.Machine

open Sys2Proof Sys2Proof.Machine in
/-- Settles O47: the record after the pulse is filled from the set, and an end of the same moment, before or after the pulse,
leaves it filled from what remains. -/
theorem ackPulseRefillsTheRecord : Obligations.AckPulseRefillsTheRecord := by
  refine ⟨fun b s hfree hr => ?_, fun b s hfree hr => ?_, fun b s htaken => ?_⟩
  · obtain ⟨hctl, -, -, -, -, -, -, -, hpanel, -⟩ := lessReports_eq (acknowledge_lessReports (ackTaken s) b)
    have htrouble (h : s.trouble.record.isSome = true) := acknowledge_trouble (ackTaken s) b h
    have hactive : (acknowledge b (ackTaken s)).trouble.active = s.trouble.active := by
      cases h : s.trouble.record with
      | none => rw [acknowledge_idle (s := ackTaken s) h]; rfl
      | some r => rw [htrouble (by rw [h]; rfl)]; exact refilled_active b s.trouble
    have hlevel := acknowledge_output (s := ackTaken s) b
    have hrec (y : Cond) (ys : List Cond) (h : s.trouble.record.isSome = true) (ha : s.trouble.active = y :: ys) :
        (acknowledge b (ackTaken s)).trouble.record
          = some { cond := y, fresh := true, filling := s.trouble.fillings + 1, acked := b } := by
      rw [htrouble h]
      exact (refilled_record b s.trouble).trans (by rw [ha]; rfl)
    refine ⟨_, (exec_ackPulse hfree).trans (congrArg _ (outside_of_not_inReset hr)), hpanel,
      fun h => acknowledge_idle (s := ackTaken s) h, fun h ha => ?_, fun y ys h ha => ⟨hrec y ys h ha, ?_, fun hlaw d hd => ?_⟩,
      hactive, fun hb h x hx => ?_, fun h hm => ?_, ?_⟩
    · have hempty : (acknowledge b (ackTaken s)).trouble.record = none := by
        rw [htrouble h]
        exact (refilled_record b s.trouble).trans (by rw [ha]; rfl)
      refine ⟨hempty, fun hstart hconfig hfive => ?_⟩
      rw [hlevel (fun hn => by rw [show s.trouble.record = none from hn] at h; cases h), troubleLevel, hempty, hctl, hpanel]
      simp [ackTaken, hfive, hstart, hconfig]
    · rw [hlevel (fun hn => by rw [show s.trouble.record = none from hn] at h; cases h)]
      exact troubleLevel_of_full (by rw [hrec y ys h ha]; rfl)
    · obtain ⟨hsorted, hlawful, -⟩ := hlaw
      rw [ha, List.map_cons, List.pairwise_cons] at hsorted
      exact code_lt_of_sorted (hlawful y (by rw [ha]; exact List.mem_cons_self))
        (hlawful d (by rw [ha]; exact List.mem_cons_of_mem _ hd)) (hsorted.1 d.key (List.mem_map_of_mem hd))
    · obtain ⟨y, ys, ha⟩ := List.exists_cons_of_ne_nil (List.ne_nil_of_mem hx)
      have hlevel' := hlevel (fun hn => by rw [show s.trouble.record = none from hn] at h; cases h)
      obtain ⟨hcond, hout⟩ := endCond_acked (hactive.trans ha) (hrec y ys h ha) rfl hb hlevel' (by rw [hactive]; exact hx)
      rw [hactive] at hcond
      refine ⟨by rw [endCond_active, hactive], hcond, hout, fun u hu => ?_⟩
      have hkept := lessReports_eq (endCond_lessReports s x)
      obtain ⟨hectl, -, -, -, -, -, -, -, hepanel, -⟩ := hkept
      have hu' : u = acknowledge b (ackTaken (endCond x s)) := by
        have hreset : (ackTaken (endCond x s)).inReset = false := by
          rw [← hr]; exact congrArg (fun p => p.reset.held) hepanel
        rw [exec_ackPulse (by rw [hepanel]; exact hfree), outside_of_not_inReset hreset] at hu
        exact (Host.Outcome.next.inj hu).symm
      have hucond := acknowledge_record (s := ackTaken (endCond x s)) b fun he => (endCond_emptied h he).1
      have huout := acknowledge_output (s := ackTaken (endCond x s)) b fun he => (endCond_emptied h he).2
      have hsame : u.trouble.record.map (·.cond)
          = (endCond x (acknowledge b (ackTaken s))).trouble.record.map (·.cond) := by
        rw [hu', hucond, hcond]
        exact congrArg List.head? (endCond_active s x)
      refine ⟨hsame, ?_⟩
      obtain ⟨huctl, -, -, -, -, -, -, -, hupanel, -⟩ := lessReports_eq (acknowledge_lessReports (ackTaken (endCond x s)) b)
      obtain ⟨htctl, -, -, -, -, -, -, -, htpanel, -⟩ := lessReports_eq (endCond_lessReports (acknowledge b (ackTaken s)) x)
      rw [hu', huout, hout, ← hu']
      refine troubleLevel_congr ?_ ?_ ?_
      · rw [hu', huctl, htctl, hctl]
        exact congrArg (·.mode) hectl
      · rw [← Option.isNone_map (f := (·.cond)), hsame, Option.isNone_map]
      · rw [hu', hupanel, htpanel, hpanel]
        exact congrArg (fun p => p.reset.fiveSecs) hepanel
    · obtain ⟨r, hsome⟩ := Option.isSome_iff_exists.mp h
      have hack : acknowledge b (ackTaken s)
          = statusNotice (refreshTrouble ((ackTaken s).withTrouble (s.trouble.refilled b))) := by
        unfold acknowledge
        rw [show (ackTaken s).trouble.record = some r from hsome]
        rfl
      rw [hack]
      exact statusNotice_queues _ hm
    · rw [acknowledge_lessReports, hpanel]
      rfl
  · exact (exec_ackPulse hfree).trans (congrArg _ (outside_of_inReset hr))
  · exact congrArg _ (if_pos htaken)
end

section
/-! The start tests and the entry to MUTE by what they write, and the unaccepted ends of an attempt: O32, O33, O34 and O43
(R72 to R78, R119, R124, R136, R142 to R144, R146, R149, R151, R152, R171). -/

namespace Sys2Proof.Machine

variable {s t u : State} {c : ChannelNo}

/-! ### The start tests (R72, R75, R78) -/

/-- The tests leave the model's own counter alone. -/
theorem startTests_freeTick (s : State) : (startTests s).freeTick = s.freeTick := by
  have hwithdraw (v : State) : (withdrawClaim v).freeTick = v.freeTick := by unfold withdrawClaim; split <;> rfl
  have htest : (withdrawTest s).freeTick = s.freeTick := by
    unfold withdrawTest
    split
    · exact hwithdraw s
    · rfl
  have hclaim (v : State) : (claimTest v).freeTick = v.freeTick := by unfold claimTest; split <;> rfl
  have hisolated (v : State) : (isolatedTest v).freeTick = v.freeTick := by
    unfold isolatedTest
    split
    · rfl
    · next c hc =>
      dsimp only
      split
      · rw [enterStarting_of_waits (List.find?_some hc)]
        exact hwithdraw _
      · rfl
  rw [startTests, hisolated, hclaim, htest]

theorem withdrawClaim_unsent (h : s.starts.claim.isSending = false) : (withdrawClaim s).starts.claim.isSending = false := by
  rw [withdrawClaim_claim_of_unsent h]
  rfl

/-- The tests send no claim. -/
theorem startTests_unsent (h : s.starts.claim.isSending = false) : (startTests s).starts.claim.isSending = false := by
  have htest : (withdrawTest s).starts.claim.isSending = false := by
    unfold withdrawTest
    split
    · exact withdrawClaim_unsent h
    · exact h
  have hclaim : (claimTest (withdrawTest s)).starts.claim.isSending = false := by
    unfold claimTest
    split
    · rfl
    · exact htest
  unfold startTests isolatedTest
  split
  · exact hclaim
  · dsimp only
    split
    · exact withdrawClaim_unsent ((congrArg (fun x => x.claim.isSending) (enterStarting_starts _ _)).trans hclaim)
    · exact hclaim

theorem startTests_chans_of_stopped (h : s.sequencing = false) : (startTests s).chans = s.chans := by
  have hctl : (claimTest (withdrawTest s)).ctl = s.ctl := (lessSequencing_eq (by simp)).1
  rcases isolatedTest_cases (claimTest (withdrawTest s)) with hidle | ⟨d, -, hrunning, -⟩
  · rw [startTests, hidle]
    simp
  · rw [State.sequencing, hctl] at hrunning
    rw [State.sequencing, hrunning] at h
    cases h

/-- A running hold-off is left as it is. -/
theorem startTests_holdOff_of_runs (h : s.starts.holdOff.isSome = true) :
    (startTests s).starts.holdOff = s.starts.holdOff := by
  have htest : (withdrawTest s).starts.holdOff = s.starts.holdOff := by
    unfold withdrawTest withdrawClaim
    split
    · split <;> rfl
    · rfl
  have hclaim : (claimTest (withdrawTest s)).starts.holdOff = s.starts.holdOff := by
    rw [← htest]
    unfold claimTest
    split <;> rfl
  rcases isolatedTest_cases (claimTest (withdrawTest s)) with hidle | ⟨d, -, -, -, hstopped, -⟩
  · rw [startTests, hidle, hclaim]
  · rw [hclaim] at hstopped
    rw [hstopped] at h
    cases h

/-- A queued claim stays where a fan waits, the supply is not FAIL and no fan may start in isolation (R72, R75). -/
theorem startTests_queued (hclaim : s.starts.claim = .queued) (hwaits : lowestWaiting s ≠ none)
    (hsupply : s.meas.supply ≠ .fail) (hmode : s.ctl.mode = .active) (htx : s.link.txFail = false) : startTests s = s := by
  have hunclaimed : claimTest s = s := if_neg fun ⟨h, _⟩ => by rw [hclaim] at h; cases h
  rw [startTests, withdrawTest_idle hwaits hsupply, hunclaimed]
  rcases isolatedTest_cases s with hidle | ⟨d, -, -, hapart, -⟩
  · exact hidle
  · exact absurd hapart (not_apart_of_claiming hmode htx)

/-! ### No claim outside ACTIVE (R72, R75) -/

/-- No claim record stands, and no claim frame is queued. -/
structure Unclaimed (s : State) : Prop where
  claim  : s.starts.claim = .absent
  queued : s.link.queue.claim = false

theorem Unclaimed.kept (h : Unclaimed s) (k : t.spacing = s.spacing) : Unclaimed t := by
  obtain ⟨hstarts, hqueued⟩ := Prod.ext_iff.mp k
  exact ⟨(congrArg StartLogic.claim hstarts).trans h.claim, hqueued.trans h.queued⟩

theorem Unclaimed.withdrawClaim (h : Unclaimed s) : withdrawClaim s = s := by
  simp only [Machine.withdrawClaim, h.claim]

theorem Unclaimed.startTests (h : Unclaimed s) (hm : s.ctl.mode ≠ .active) : Unclaimed (startTests s) := by
  have hwithdrawn : withdrawTest s = s := by
    unfold withdrawTest
    rw [h.withdrawClaim, ite_self]
  have hidle : claimTest s = s := if_neg fun ⟨_, _, _, _, hmode, _⟩ => hm hmode
  unfold Machine.startTests isolatedTest
  rw [hwithdrawn, hidle]
  split
  · exact h
  · next c hc =>
    dsimp only
    split
    · have hstarted : Unclaimed (enterStarting c s) := by
        rw [enterStarting_of_waits (List.find?_some hc)]
        exact ⟨h.claim, h.queued⟩
      rw [hstarted.withdrawClaim]
      exact ⟨hstarted.claim, hstarted.queued⟩
    · exact h

theorem Unclaimed.recompute (h : Unclaimed s) (hm : s.ctl.mode ≠ .active) : Unclaimed (recompute s) := by
  cases ha : s.ctl.mode.applies with
  | false => rw [recompute_idle s ha]; exact h
  | true =>
    have hctl := (lessRoles_eq (recompute_lessRoles s)).1
    rw [recompute_eq ha] at hctl ⊢
    rw [(lessSequencing_eq (startTests_lessSequencing _)).1] at hctl
    exact (h.kept (by simp; rfl)).startTests (by rw [hctl]; exact hm)

/-! ### The entry to MUTE (R148, R171) -/

/-- At the entry to MUTE the queue is emptied, and neither the raise nor the recompute, in a mode that does not send, queues
anything. -/
theorem enterMute_emptied (o : Origin) (s : State) :
    (enterMute o s).link = { s.link with queue := .empty, attempt := none } ∧ (enterMute o s).starts.claim = .absent
      ∧ (enterMute o s).status = { period := none, earlyPending := false, captured := none } := by
  have hentered : Unclaimed (muteReported o s) := Unclaimed.kept (s := muteEntered o s) ⟨rfl, rfl⟩
    (spacing_of_lessReports (muteReported_lessReports o s))
  have hmode (v : State) (h : v.lessRoles = (muteEntered o s).lessRoles) : v.ctl.mode = .mute := by
    rw [(lessRoles_eq h).1]
    rfl
  have hreported : (muteReported o s).lessRoles = (muteEntered o s).lessRoles :=
    lessRoles_of_lessSequencing (lessSequencing_of_lessReports (muteReported_lessReports o s))
  have hrecomputed : (recompute (muteReported o s)).lessRoles = (muteEntered o s).lessRoles :=
    (recompute_lessRoles _).trans hreported
  have hroles : (enterMute o s).lessRoles = (muteEntered o s).lessRoles := by
    rw [enterMute_eq]
    exact (lessRoles_of_lessSequencing (startTests_lessSequencing _)).trans hrecomputed
  obtain ⟨hclaim, hqueued⟩ : Unclaimed (enterMute o s) := by
    rw [enterMute_eq]
    exact (hentered.recompute (by rw [hmode _ hreported]; exact nofun)).startTests
      (by rw [hmode _ hrecomputed]; exact nofun)
  have hrun : ReportRun (muteEntered o s) (enterMute o s) := by
    rw [enterMute_eq]
    exact (startTests_reports _).after ((recompute_reports _).after (.raised _ (qualifierLaw_plain rfl) _))
  obtain ⟨hstatus, hearly⟩ := hrun.silent rfl
  obtain ⟨-, -, -, -, -, -, -, hperiod, hcaptured⟩ := lessRoles_eq_link hroles
  refine ⟨?_, hclaim, ?_⟩
  · rw [link_of_lessRoles hroles, hqueued, hstatus]
    rfl
  · cases h : (enterMute o s).status
    rw [h] at hearly hperiod hcaptured
    exact congr (congr (congrArg Composer.mk hperiod) hearly) hcaptured

theorem enterMute_conflicted (o : Origin) (s : State) : plainCond .stationConflict ∈ (enterMute o s).trouble.active := by
  have h := enterMute_conflict o s
  exact h.mpr ⟨by simp [causes, enterMute_ctl, Causes.stand, plainCond], masked_plain rfl _⟩

/-- Conflict evidence in LISTEN and in ACTIVE (R171). -/
theorem evidence_sending (h : s.ctl.mode = .listen ∨ s.ctl.mode = .active) :
    evidence s = enterMute (if s.ctl.mode = .listen then .listen else .active) s := by
  rcases h with h | h <;> simp [evidence, h]

/-- Evidence leaves the link but for the queue and an attempt that it abandons. -/
theorem evidence_link_cases (s : State) :
    (evidence s).link = s.link ∨ (evidence s).link = { s.link with queue := .empty, attempt := none } := by
  unfold evidence
  split
  · exact .inr (enterMute_emptied _ s).1
  · exact .inr (enterMute_emptied _ s).1
  · exact .inl rfl
  · exact .inl rfl

theorem evidence_inputs (s : State) : InputsKept s (evidence s) ∨ evidence s = s := by
  cases ha : s.ctl.mode.applies with
  | true => exact .inl (evidence_inputsKept ha)
  | false => exact .inr (evidence_idle ha)

/-! ### The end of an attempt without acceptance (R74, R119, R149) -/

/-- The composer after an attempt has ended without acceptance (R119). -/
def composerAfter (a : Attempt) (s : State) : Composer :=
  if a.kind = .status then { s.status with earlyPending := false, captured := none } else s.status

theorem endAttempt_eq {a : Attempt} (h : s.link.attempt = some a) (l : Line) (n : Nat) :
    endAttempt l n s = { s with
      link := { s.link with attempt := none, line := l, run := n }
      status := composerAfter a s
      starts := { s.starts with claim := s.starts.claim.requeued } } := by
  have hwire : s.onWire .status = decide (a.kind = .status) := by simp [State.onWire, h]
  unfold endAttempt composerAfter
  dsimp only
  rw [hwire, claimRequeued_eq]
  by_cases hk : a.kind = .status <;> simp [hk] <;> rfl

theorem requeued_unsent (k : ClaimRecord) : k.requeued.isSending = false := by cases k <;> rfl

theorem requeued_of_sending {k : ClaimRecord} (h : k.isSending = true) : k.requeued = .queued := by
  cases k <;> first | rfl | cases h

/-- The bits read up to a dominant one: while they have come to no end of the frame, the station is its receiver (R143). -/
theorem heardUntil_taking (f : Frame) (n : Nat) (h : receive (f.wire.take n ++ [false]) = .taking) :
    (f.heardUntil n).line = .receiving ((f.wire.take n ++ [false]).foldl Intake.bit .begin) ∧ (f.heardUntil n).run = 0 := by
  obtain ⟨rest, hrest⟩ : ∃ rest, f.wire.take n ++ [false] = false :: rest := by
    cases n with
    | zero => exact ⟨[], rfl⟩
    | succ n => exact ⟨_, rfl⟩
  rw [hrest, receive_start] at h
  have hwatch : f.heardUntil n = { line := .receiving (rest.foldl Intake.bit .start), run := 0, wait := false } := by
    rw [Frame.heardUntil, hrest]
    exact LineWatch.foldl_taking rest .start 0 false h
  rw [hwatch, hrest]
  exact ⟨rfl, rfl⟩

/-- Own attempt as it stands after a stop at a bit, before the start tests (R143). -/
def stopped (bit : Nat) (a : Attempt) (s : State) : State :=
  { s with
    link := { s.link with
      attempt := none, line := (a.frame.heardUntil bit).line, run := (a.frame.heardUntil bit).run }
    status := composerAfter a s
    starts := { s.starts with claim := s.starts.claim.requeued } }

theorem stopSending_eq {bit : Nat} {a : Attempt} (h : s.link.attempt = some a) :
    stopSending bit s = startTests (stopped bit a s) := by
  rw [stopSending, h]
  exact congrArg startTests (endAttempt_eq h _ _)

theorem exec_arbitrationLost {bit : Nat} {a : Attempt} (hr : s.inReset = false) (h : s.link.attempt = some a) :
    exec (.arbitrationLost bit) s = .next (startTests (stopped bit a s)) :=
  congrArg Host.Outcome.next ((outside_of_not_inReset hr).trans (stopSending_eq h))

theorem exec_duplicateKeyStop {bit : Nat} {a : Attempt} (hr : s.inReset = false) (h : s.link.attempt = some a) :
    exec (.duplicateKeyStop bit) s = .next (evidence (startTests (stopped bit a s))) := by
  refine congrArg Host.Outcome.next ((outside_of_not_inReset hr).trans ?_)
  rw [if_pos (by rw [h]; rfl), stopSending_eq h]

/-- The start tests write only the claim's place in the queue, on the link. -/
theorem startTests_link (s : State) :
    (startTests s).link = { s.link with queue := { s.link.queue with claim := (startTests s).link.queue.claim } } := by
  have h := link_of_lessRoles (lessRoles_of_lessSequencing (startTests_lessSequencing s))
  rw [(startTests_reportKept s).queued] at h
  exact h

/-! ### Another station's frame with no own attempt on the wire (R147, R151) -/

/-- The line closed by another station's frame. -/
def closedLine (s : State) : State := s.withLink { s.link with line := .closed, run := 0, retryWait := false }

theorem withdrawClaim_closedLine (s : State) : withdrawClaim (closedLine s) = closedLine (withdrawClaim s) := by
  unfold withdrawClaim
  rw [show (closedLine s).starts.claim = s.starts.claim from rfl]
  cases s.starts.claim <;> rfl

theorem withdrawTest_closedLine (s : State) : withdrawTest (closedLine s) = closedLine (withdrawTest s) := by
  unfold withdrawTest
  rw [withdrawClaim_closedLine]
  by_cases h : (lowestWaiting s).isNone ∨ s.meas.supply = .fail
  · rw [if_pos h]; exact if_pos h
  · rw [if_neg h]; exact if_neg h

theorem claimTest_closedLine (s : State) : claimTest (closedLine s) = closedLine (claimTest s) := by
  unfold claimTest
  by_cases h : s.starts.claim = .absent ∧ (lowestWaiting s).isSome = true ∧ s.starts.holdOff = none ∧ s.meas.supply ≠ .fail
      ∧ s.ctl.mode = .active ∧ s.link.txFail = false
  · rw [if_pos h]; exact if_pos h
  · rw [if_neg h]; exact if_neg h

theorem isolatedTest_closedLine (s : State) : isolatedTest (closedLine s) = closedLine (isolatedTest s) := by
  have hstart {c : ChannelNo} (h : waitsForSlot s c = true) :
      withdrawClaim (enterStarting c (closedLine s)) = closedLine (withdrawClaim (enterStarting c s)) := by
    rw [enterStarting_of_waits h, enterStarting_of_waits (s := closedLine s) h, ← withdrawClaim_closedLine]
    rfl
  unfold isolatedTest
  rw [show lowestWaiting (closedLine s) = lowestWaiting s from rfl]
  split
  · rfl
  · next c hc =>
    dsimp only
    rw [hstart (List.find?_some hc)]
    by_cases h : s.sequencing = true ∧ (s.ctl.mode = .mute ∨ s.link.txFail = true) ∧ s.starts.holdOff = none
        ∧ s.meas.supply ≠ .fail ∧ s.starts.claim.isSending = false
    · rw [if_pos h]; exact if_pos h
    · rw [if_neg h]; exact if_neg h

/-- The start tests do not read the line. -/
theorem startTests_closedLine (s : State) : startTests (closedLine s) = closedLine (startTests s) := by
  rw [startTests, withdrawTest_closedLine, claimTest_closedLine, isolatedTest_closedLine]
  rfl

theorem otherFrameIn_idle (h : s.link.attempt = none) : otherFrameIn s = closedLine s := by
  simp only [otherFrameIn, h]
  rfl

theorem exec_otherFrameAccepted {k : FrameClass} {z : Station} {ws : List Word} (hh : s.hears = true)
    (h : s.link.attempt = none) :
    exec (.otherFrameAccepted k z ws) s = .next (settleRaises s (startTests
      (if z.toNat = s.station then evidence (closedLine s) else closedLine s))) := by
  refine congrArg Host.Outcome.next ((if_pos ((State.accepts_eq s false _).trans hh)).trans ?_)
  have hdetect : detectConflict false { cls := k, station := z, words := ws } (closedLine s)
      = if z.toNat = s.station then evidence (closedLine s) else closedLine s := by
    simp only [detectConflict, Bool.not_false, Bool.true_and, decide_eq_true_eq]
    rfl
  rw [← hdetect, ← otherFrameIn_idle h]
  rfl

theorem settleRaises_link (s t : State) : (settleRaises s t).link = t.link := by
  unfold settleRaises
  split
  · dsimp only
    split <;> rfl
  · rfl

/-- Start tests and settled raises report nothing of their own where nothing else did. -/
theorem settled_startTests (h : t.trouble = s.trouble) : settleRaises s (startTests t) = startTests t :=
  settleRaises_idle fun hnone => by rw [startTests_trouble, h, hnone]

end Sys2Proof.Machine

open Sys2Proof Sys2Proof.Machine in
/-- Settles O32: the attempt is off the wire, its owner told, and only the start tests act on what is left. -/
theorem lostArbitrationKeepsTheFrame : Obligations.LostArbitrationKeepsTheFrame := by
  intro bit a s hr ha
  obtain ⟨hqueued, hcomposer⟩ := startTests_reportKept (stopped bit a s)
  refine ⟨_, exec_arbitrationLost hr ha, startTests_lessSequencing _, fun htaking => ?_, hqueued,
    startTests_trouble (stopped bit a s), startTests_freeTick (stopped bit a s), hcomposer,
    fun _ => startTests_unsent (requeued_unsent _), fun hsending hwaits hsupply htx hmode => ?_, fun hsending hfail => ?_⟩
  · obtain ⟨hline, hrun⟩ := heardUntil_taking a.frame bit htaking
    rw [startTests_link]
    exact ⟨hline, hrun⟩
  · have hclaim := requeued_of_sending hsending
    rw [startTests_queued (s := stopped bit a s) hclaim hwaits hsupply hmode htx]
    exact ⟨congrArg (fun k => { s.starts with claim := k }) hclaim, rfl, rfl⟩
  · have hclaim : (stopped bit a s).starts.claim = .queued := requeued_of_sending hsending
    rw [startTests_of_fail (s := stopped bit a s) hfail]
    simp only [withdrawClaim, hclaim]
    exact ⟨rfl, rfl⟩

open Sys2Proof Sys2Proof.Machine in
/-- Settles O33: a stop as after lost arbitration, then conflict evidence. -/
theorem duplicateKeyStopMutesTheNode : Obligations.DuplicateKeyStopMutesTheNode := by
  intro bit a s hr ha
  have hstopped : ResolverKept s (startTests (stopped bit a s)) :=
    ResolverKept.trans (t := stopped bit a s) ⟨⟨rfl, rfl, rfl, rfl, rfl, rfl, rfl⟩, rfl, fun _ => rfl⟩
      (.of_lessSequencing (startTests_lessSequencing _))
  have hctl : (startTests (stopped bit a s)).ctl = s.ctl := (startTests_ownKept (stopped bit a s)).ctl
  have hlink : ∃ q, (evidence (startTests (stopped bit a s))).link = { (stopped bit a s).link with queue := q } := by
    rcases evidence_link_cases (startTests (stopped bit a s)) with h | h <;> rw [h, startTests_link] <;> exact ⟨_, rfl⟩
  have hinputs : InputsKept s (evidence (startTests (stopped bit a s))) := by
    rcases evidence_inputs (startTests (stopped bit a s)) with h | h
    · exact hstopped.toInputsKept.trans h
    · rw [h]; exact hstopped.toInputsKept
  obtain ⟨q, hq⟩ := hlink
  refine ⟨_, exec_duplicateKeyStop hr ha, by rw [hq]; rfl, by rw [hq]; rfl, by rw [hq]; rfl, by rw [hq]; rfl, by rw [hq]; rfl,
    fun htaking => ?_, hinputs.reg, hinputs.peers, hinputs.meas, hinputs.panel, fun hmode => ?_, fun hmode => ?_,
    fun hlaw hmode hhold => ?_⟩
  · rw [hq]
    exact heardUntil_taking a.frame bit htaking
  · rw [evidence_sending (by rw [hctl]; exact hmode)]
    obtain ⟨hlink, hclaim, hstatus⟩ := enterMute_emptied (if (startTests (stopped bit a s)).ctl.mode = .listen
      then .listen else .active) (startTests (stopped bit a s))
    refine ⟨by rw [enterMute_ctl, hctl]; rfl, by rw [hlink], hclaim, hstatus, enterMute_conflicted _ _⟩
  · rw [evidence_idle (by rw [hctl, hmode]; rfl), startTests_chans_of_stopped (by simp [State.sequencing, stopped, hmode])]
    exact ⟨hctl, (startTests_reportKept (stopped bit a s)).queued, rfl⟩
  · have hruns : (startTests (stopped bit a s)).starts.holdOff.isSome = true := by
      rw [startTests_holdOff_of_runs (s := stopped bit a s) hhold]
      exact hhold
    have hroles : RolesStand (startTests (stopped bit a s)) :=
      (rolesStand_of_roleLaw hlaw (by rw [hmode]; rfl)).kept hstopped
    have hevidence : evidence (startTests (stopped bit a s)) = enterMute .active (startTests (stopped bit a s)) := by
      simp only [evidence, hctl, hmode]
    have hspaced : Spaced (muteReported .active (startTests (stopped bit a s))) := by
      have hspacing := Prod.ext_iff.mp (spacing_of_lessReports (muteReported_lessReports .active (startTests (stopped bit a s))))
      exact ⟨by rw [show (muteReported .active _).starts = _ from hspacing.1]; rfl, hspacing.2,
        by rw [show (muteReported .active _).starts = _ from hspacing.1]; exact hruns⟩
    have hmuted := hroles.kept (muteReported_resolverKept .active _)
    rw [hevidence, enterMute_eq, (hspaced.kept hspaced.recompute_spacing).startTests_eq, hmuted.recompute_chans hspaced,
      muteReported_chans]
    exact startTests_chans (stopped bit a s) hhold

open Sys2Proof Sys2Proof.Machine in
/-- Settles O43: the line is closed, and under own station number the frame is conflict evidence. -/
theorem otherFramesReachTheConflictDetector : Obligations.OtherFramesReachTheConflictDetector := by
  intro k z ws s hh ha
  have hlink (v : State) : ∃ q, (settleRaises s (startTests v)).link = { v.link with queue := q } :=
    ⟨_, (settleRaises_link s _).trans (startTests_link v)⟩
  have hinputs : InputsKept (closedLine s) (if z.toNat = s.station then evidence (closedLine s) else closedLine s) := by
    split
    · rcases evidence_inputs (closedLine s) with h | h
      · exact h
      · rw [h]; exact .of_lessRoles rfl
    · exact .of_lessRoles rfl
  have hkept := hinputs.trans (frameClosed_resolverKept s _).toInputsKept
  have hline : ∃ q, (if z.toNat = s.station then evidence (closedLine s) else closedLine s).link
      = { (closedLine s).link with queue := q } := by
    split
    · rcases evidence_link_cases (closedLine s) with h | h
      · exact ⟨_, h⟩
      · refine ⟨.empty, h.trans ?_⟩
        rw [← show (closedLine s).link.attempt = none from ha]
    · exact ⟨_, rfl⟩
  obtain ⟨q, hq⟩ := hline
  obtain ⟨q', hq'⟩ := hlink (if z.toNat = s.station then evidence (closedLine s) else closedLine s)
  rw [hq] at hq'
  refine ⟨_, exec_otherFrameAccepted hh ha, hkept.reg, hkept.peers, hkept.meas, hkept.panel, hkept.override,
    by rw [hq']; rfl, by rw [hq']; rfl, by rw [hq']; rfl, by rw [hq']; rfl, fun hother => ?_,
    fun hz hmode => ?_, fun hz hmode => ?_⟩
  · have hidle : (if z.toNat = s.station then evidence (closedLine s) else closedLine s) = closedLine s := by
      rcases hother with hz | happlies
      · rw [if_neg hz]
      · rw [evidence_idle (s := closedLine s) happlies, ite_self]
    rw [hidle, settled_startTests (s := s) (t := closedLine s) rfl]
    obtain ⟨hctl, -, hrole, -, hcontain, -⟩ := lessSequencing_eq (startTests_lessSequencing (closedLine s))
    refine ⟨hctl, hrole, startTests_trouble (closedLine s), hcontain, (startTests_reportKept (closedLine s)).composer,
      fun hlaw hstopped => ?_, fun hstill => ?_⟩
    · obtain ⟨-, -, hclaim, -⟩ := hlaw
      have hmode : s.ctl.mode ≠ .active := fun h => by simp [State.sequencing, h] at hstopped
      have habsent : s.starts.claim = .absent := by
        unfold ClaimLaw at hclaim
        split at hclaim
        · assumption
        · exact absurd hclaim.2.2.1 hmode
        · exact absurd hclaim.2.1 hmode
      exact startTests_still (s := closedLine s) habsent (.inr (.inr ⟨hstopped, hmode⟩))
    · rw [startTests_closedLine, hstill]
      rfl
  · rw [if_pos hz, evidence_sending (s := closedLine s) hmode]
    have hmuted := enterMute_ctl (if (closedLine s).ctl.mode = .listen then .listen else .active) (closedLine s)
    obtain ⟨hempty, habsent, hstatus⟩ :=
      enterMute_emptied (if (closedLine s).ctl.mode = .listen then .listen else .active) (closedLine s)
    have hunclaimed := Unclaimed.startTests ⟨habsent, by rw [hempty]; rfl⟩ (by rw [hmuted]; exact nofun)
    refine ⟨by rw [frameClosed_ctl, hmuted]; rfl, ?_, ?_, ?_, ?_⟩
    · rw [settleRaises_link, startTests_link, hunclaimed.queued, hempty]
      rfl
    · rw [(lessReports_eq (settleRaises_lessReports s _)).2.2.2.2.1]
      exact hunclaimed.claim
    · rw [(frameClosed_reportKept s _).composer]
      exact hstatus
    · rw [settleRaises_mem, startTests_trouble]
      exact enterMute_conflicted _ _
  · rw [if_pos hz, frameClosed_ctl]
    simp only [evidence, show (closedLine s).ctl.mode = .mute from hmode]
    rw [← hmode]
    rfl
end

section
/-! A failed attempt: the count, TX-FAIL and the start tests that follow: O34 (R74, R78, R146, R151, R152). -/

namespace Sys2Proof.Machine

variable {s t : State}

/-- A queued STATUS stays queued through reports (R119). -/
theorem queueStatus_queued (h : s.link.queue.status = true) : (queueStatus s).link.queue.status = true := by
  unfold queueStatus
  split
  · exact h
  · rfl

theorem statusNotice_queued (h : s.link.queue.status = true) : (statusNotice s).link.queue.status = true :=
  holds_ite (P := fun u => u.link.queue.status = true) (queueStatus_queued h) h

theorem raise_queued (x : Cond) (h : s.link.queue.status = true) : (raise x s).link.queue.status = true := by
  unfold raise
  split
  · exact h
  · dsimp only
    split
    · exact statusNotice_queued h
    · exact h

/-- The node once a failed attempt is off the wire, before the count moves (R146, R151). -/
def failed (a : Attempt) (s : State) : State :=
  { s with
    link := { s.link with attempt := none, line := .closed, run := 0, retryWait := true }
    status := composerAfter a s
    starts := { s.starts with claim := s.starts.claim.requeued } }

/-- The count moved, and TX-FAIL with it (R152). -/
def counted (s : State) : State :=
  s.withLink (if s.link.failCount < 15 then { s.link with failCount := s.link.failCount + 1 }
    else { s.link with failCount := 16, txFail := true })

theorem countFailure_eq (s : State) :
    countFailure s = if s.link.failCount < 15 then counted s else raise (plainCond .txFail) (counted s) := by
  unfold countFailure counted
  split <;> rfl

theorem countFailure_lessReports (s : State) : (countFailure s).lessReports = (counted s).lessReports := by
  rw [countFailure_eq]
  split
  · rfl
  · exact raise_lessReports _ _

theorem exec_failedAttempt {a : Attempt} (hr : s.inReset = false) (h : s.link.attempt = some a) :
    exec .failedAttempt s = .next (startTests (countFailure (failed a s))) := by
  refine congrArg Host.Outcome.next ((outside_of_not_inReset hr).trans ?_)
  rw [if_pos (by rw [h]; rfl), endAttempt_eq h]
  rfl

end Sys2Proof.Machine

open Sys2Proof Sys2Proof.Machine in
/-- Settles O34: the attempt is off the wire, the count moves, and the start tests act on what is left. -/
theorem failedAttemptCounts : Obligations.FailedAttemptCounts := by
  intro a s hr ha
  have hkept : (countFailure (failed a s)).lessReports = (counted (failed a s)).lessReports := countFailure_lessReports _
  obtain ⟨hctl', -, -, hchans', hstarts', hmeas', -⟩ := lessReports_eq hkept
  obtain ⟨-, -, -, -, htxFail', -⟩ := lessReports_eq_link hkept
  have hseq : (startTests (countFailure (failed a s))).lessSequencing = (counted (failed a s)).lessSequencing :=
    (startTests_lessSequencing _).trans (lessSequencing_of_lessReports hkept)
  obtain ⟨hctl, hreg, hrole, hmeas, hcontain, hpeers, hpanel, -⟩ := lessSequencing_eq hseq
  have hlink := link_of_lessRoles (lessRoles_of_lessSequencing hseq)
  have hunsent : (countFailure (failed a s)).starts.claim.isSending = false := by
    rw [hstarts']
    exact requeued_unsent _
  refine ⟨_, exec_failedAttempt hr ha, by rw [hlink, counted]; split <;> rfl, by rw [hlink, counted]; split <;> rfl,
    by rw [hlink, counted]; split <;> rfl, by rw [hlink, counted]; split <;> rfl, fun hlt => ?_, fun hge => ?_,
    by rw [hlink, counted]; split <;> rfl, by rw [hlink, counted]; split <;> rfl, fun hq => ?_,
    hctl, hreg, hrole, hmeas, hcontain, hpeers, hpanel, fun c => (lessSequencing_eq_ch hseq c).1,
    fun _ => startTests_unsent hunsent, fun hsending hlt htx hmode hwaits hsupply => ?_,
    fun c hge hmode hwaits hhold hsupply => ?_, fun hlt htx hmode => ?_⟩
  · rw [hlink, counted, if_pos (show (failed a s).link.failCount < 15 from hlt)]
    exact ⟨rfl, rfl⟩
  · rw [hlink, counted, if_neg (show ¬(failed a s).link.failCount < 15 from Nat.not_lt.mpr hge), startTests_trouble,
      countFailure_eq, if_neg (show ¬(failed a s).link.failCount < 15 from Nat.not_lt.mpr hge)]
    exact ⟨rfl, rfl, (mem_raise _ _ _ (masked_plain rfl _)).mpr (.inl rfl)⟩
  · rw [(startTests_reportKept _).queued, countFailure_eq]
    have hcounted : (counted (failed a s)).link.queue.status = true := by
      unfold counted
      split <;> exact hq
    exact holds_ite (P := fun u => u.link.queue.status = true) hcounted (raise_queued _ hcounted)
  · have hclaim := requeued_of_sending hsending
    rw [countFailure_eq, if_pos (show (failed a s).link.failCount < 15 from hlt)]
    have hcounted : counted (failed a s)
        = (failed a s).withLink { (failed a s).link with failCount := s.link.failCount + 1 } :=
      congrArg _ (if_pos (show (failed a s).link.failCount < 15 from hlt))
    have hstill : startTests (counted (failed a s)) = counted (failed a s) := by
      rw [hcounted]
      exact startTests_queued hclaim hwaits hsupply hmode htx
    rw [hstill, hcounted]
    refine ⟨congrArg (fun k => { s.starts with claim := k }) hclaim, rfl, fun hlaw => ?_⟩
    obtain ⟨-, -, hlaw, -⟩ := hlaw
    unfold ClaimLaw at hlaw
    split at hlaw
    · next h => rw [h] at hsending; cases hsending
    · exact hlaw.1
    · exact hlaw.1
  · have hlow : lowestWaiting (countFailure (failed a s)) = some c := (lowestWaiting_congr hchans').trans hwaits
    have htx : (countFailure (failed a s)).link.txFail = true := by
      rw [htxFail', counted, if_neg (show ¬(failed a s).link.failCount < 15 from Nat.not_lt.mpr hge)]
      rfl
    obtain ⟨hch, hstarts⟩ := startTests_isolated hlow (by rw [hmeas']; exact hsupply)
      (by rw [State.sequencing, hctl', show (counted (failed a s)).ctl = s.ctl from rfl, hmode]) (.inr htx)
      (by rw [hstarts']; exact hhold) hunsent
    have hown : (countFailure (failed a s)).ownHoldOff = s.cfg.holdOff * 500 := by
      rw [State.ownHoldOff, State.cfg, hctl']
      rfl
    rw [hch c, if_pos rfl, hstarts, hown]
    exact ⟨rfl, rfl⟩
  · have hcounted : countFailure (failed a s)
        = (failed a s).withLink { (failed a s).link with failCount := s.link.failCount + 1 } := by
      rw [countFailure_eq, if_pos (show (failed a s).link.failCount < 15 from hlt)]
      exact congrArg _ (if_pos (show (failed a s).link.failCount < 15 from hlt))
    rw [hcounted]
    exact ⟨startTests_chans_of_claiming hmode htx, startTests_trouble _⟩
end

section
/-! What a state change of a damper or curtain does to itself and to the fans that name it; the travel timer and the limits:
O56 and O55 (R51 to R60, R68 to R70). -/

namespace Sys2Proof.Machine

variable {s t u : State} {c d e : ChannelNo}

/-! ### The positions that a fan's interlocks read (R59, R67) -/

theorem atTargetPosition_eq (s : State) (d : ChannelNo) : atTargetPosition s d
    = decide ((s.ch d).seq.travelState = some .atOpen ∨ (s.ch d).seq.travelState = some .atClosed) := by
  unfold atTargetPosition
  cases (s.ch d).seq with
  | damper st _ => cases st <;> rfl
  | _ => rfl

theorem faulted_eq (s : State) (d : ChannelNo) : faulted s d
    = decide ((s.ch d).seq.travelState = some .jammed ∨ (s.ch d).seq.travelState = some .limitConflict) := by
  unfold faulted
  cases (s.ch d).seq with
  | damper st _ => cases st <;> rfl
  | _ => rfl

/-- Configuration and the states of dampers and curtains are kept. -/
structure SamePositions (s t : State) : Prop where
  config : t.ctl.config = s.ctl.config
  travel : ∀ x : ChannelNo, (t.ch x).seq.travelState = (s.ch x).seq.travelState

namespace SamePositions

theorem refl (s : State) : SamePositions s s := ⟨rfl, fun _ => rfl⟩

theorem trans (h : SamePositions s t) (k : SamePositions t u) : SamePositions s u :=
  ⟨k.config.trans h.config, fun x => (k.travel x).trans (h.travel x)⟩

theorem atTarget (h : SamePositions s t) (c : ChannelNo) : interlocksAtTarget t c = interlocksAtTarget s c := by
  unfold interlocksAtTarget
  rw [chCfg_congr h.config]
  exact congrArg _ (funext fun d => by rw [atTargetPosition_eq, atTargetPosition_eq, h.travel])

theorem faulted (h : SamePositions s t) (c : ChannelNo) : interlockFaulted t c = interlockFaulted s c := by
  unfold interlockFaulted
  rw [chCfg_congr h.config]
  exact congrArg _ (funext fun d => by rw [faulted_eq, faulted_eq, h.travel])

theorem evaluateStopped (h : SamePositions s t) (c : ChannelNo) : evaluateStopped t c = evaluateStopped s c := by
  unfold Machine.evaluateStopped
  rw [h.atTarget, h.faulted]

/-- A fan that stays a fan moves no position. -/
theorem setSeq_fan {st : FanState} {p r : Option Nat} (h : (s.ch c).seq.travelState = none) :
    SamePositions s (setSeq c (.fan st p r) s) := by
  refine ⟨congrArg _ (lessSequencing_eq (setSeq_lessSequencing s c _)).1, fun x => ?_⟩
  rw [setSeq_ch]
  split
  · next hx => rw [← hx, h]; rfl
  · rfl

end SamePositions

/-! ### A state change reaches the fans that name the channel (R68 to R70) -/

/-- An interlock's change moves a waiting fan, or nothing. -/
theorem interlockEvent_cases (d c : ChannelNo) (s : State) :
    interlockEvent d s c = s ∨ ∃ st, (st = .awaitingInterlock ∨ st = .awaitingSlot ∨ st = .blocked)
      ∧ (∃ st', (st' = .awaitingInterlock ∨ st' = .awaitingSlot ∨ st' = .blocked) ∧ (s.ch c).seq.fanState = some st'
        ∧ interlockEvent d s c = setSeq c (fanIn st) s) := by
  have heval : evaluateStopped s c = .awaitingInterlock ∨ evaluateStopped s c = .awaitingSlot
      ∨ evaluateStopped s c = .blocked := by
    unfold evaluateStopped
    split
    · exact .inr (.inr rfl)
    · split
      · exact .inr (.inl rfl)
      · exact .inl rfl
  unfold interlockEvent
  split
  · split
    · next h => exact .inr ⟨_, heval, _, .inl rfl, by rw [h]; rfl, rfl⟩
    · next h => exact .inr ⟨_, heval, _, .inr (.inl rfl), by rw [h]; rfl, rfl⟩
    · next h =>
      split
      · exact .inr ⟨_, .inr (.inl rfl), _, .inr (.inr rfl), by rw [h]; rfl, rfl⟩
      · exact .inl rfl
    · exact .inl rfl
  · exact .inl rfl

theorem travelState_of_fanState {q : Sequencer} {st : FanState} (h : q.fanState = some st) : q.travelState = none := by
  cases q <;> first | rfl | cases h

theorem interlockEvent_positions (d c : ChannelNo) (s : State) : SamePositions s (interlockEvent d s c) := by
  rcases interlockEvent_cases d c s with h | ⟨st, -, st', -, hfan, h⟩
  · rw [h]; exact .refl s
  · rw [h]; exact .setSeq_fan (travelState_of_fanState hfan)

theorem interlockEvent_ch_of_ne (d : ChannelNo) (h : e ≠ c) (s : State) : (interlockEvent d s e).ch c = s.ch c := by
  rcases interlockEvent_cases d e s with k | ⟨st, -, st', -, -, k⟩
  · rw [k]
  · rw [k, setSeq_ch, if_neg h]

/-- What an interlock's change makes of a channel depends on the channel and on the positions alone. -/
theorem interlockEvent_congr (d : ChannelNo) (h : SamePositions s t) (hc : t.ch c = s.ch c) :
    (interlockEvent d t c).ch c = (interlockEvent d s c).ch c := by
  unfold interlockEvent
  rw [chCfg_congr h.config, hc, h.evaluateStopped, h.atTarget]
  have hset (q : Sequencer) : (setSeq c q t).ch c = (setSeq c q s).ch c := by
    rw [setSeq_ch, setSeq_ch, if_pos rfl, if_pos rfl, hc]
  split
  · split
    · exact hset _
    · exact hset _
    · split
      · exact hset _
      · exact hc
    · exact hc
  · exact hc

theorem foldl_interlockEvent_positions (d : ChannelNo) (l : List ChannelNo) (s : State) :
    SamePositions s (l.foldl (interlockEvent d) s) := by
  induction l generalizing s with
  | nil => exact .refl s
  | cons x l ih => exact (interlockEvent_positions d x s).trans (ih _)

theorem foldl_interlockEvent_ch (d : ChannelNo) (l : List ChannelNo) (hl : l.Nodup) (s : State) (c : ChannelNo) :
    (l.foldl (interlockEvent d) s).ch c = if c ∈ l then (interlockEvent d s c).ch c else s.ch c := by
  induction l generalizing s with
  | nil => rfl
  | cons x l ih =>
    obtain ⟨hx, hl⟩ := List.nodup_cons.mp hl
    rw [List.foldl_cons, ih hl]
    by_cases hxc : x = c
    · subst hxc
      rw [if_neg hx, if_pos List.mem_cons_self]
    · have hch := interlockEvent_ch_of_ne d hxc s
      rw [interlockEvent_congr d (interlockEvent_positions d x s) hch, hch]
      simp [Ne.symm hxc]

/-- A state change of d reaches each channel as one event. -/
theorem interlockNotice_ch (d c : ChannelNo) (s : State) : (interlockNotice d s).ch c = (interlockEvent d s c).ch c := by
  rw [interlockNotice, foldl_interlockEvent_ch d allChannels (by decide), if_pos (mem_allChannels c)]

theorem interlockEvent_of_no_fan (h : (s.ch c).seq.fanState = none) : interlockEvent d s c = s := by
  rcases interlockEvent_cases d c s with k | ⟨_, -, _, -, hfan, -⟩
  · exact k
  · rw [h] at hfan; cases hfan

theorem setSeq_mem_of_ne {x : Cond} {q : Sequencer} (hold : some x ≠ seqCond c (s.ch c).seq) (hnew : some x ≠ seqCond c q) :
    x ∈ (setSeq c q s).trouble.active ↔ x ∈ s.trouble.active := by
  by_cases hsame : seqCond c (s.ch c).seq = seqCond c q
  · rw [setSeq_of_same hsame]; rfl
  · rw [mem_setSeq hsame, and_iff_left hold, or_iff_left fun h => hnew h.1]

/-- A fan that waits stands for FAN-BLOCKED at most (R85). -/
theorem seqCond_waiting {q : Sequencer} {st : FanState} (c : ChannelNo)
    (hst : st = .awaitingInterlock ∨ st = .awaitingSlot ∨ st = .blocked) (hq : q.fanState = some st) :
    seqCond c q = if st = .blocked then some (chanCond .fanBlocked c) else none := by
  cases q with
  | fan st' p r =>
    obtain rfl : st' = st := Option.some.inj hq
    rcases hst with rfl | rfl | rfl <;> rfl
  | _ => cases hq

/-- Interlock events raise and end FAN-BLOCKED alone (R85). -/
theorem interlockNotice_mem {x : Cond} (hx : x.code ≠ .fanBlocked) (d : ChannelNo) (s : State) :
    x ∈ (interlockNotice d s).trouble.active ↔ x ∈ s.trouble.active := by
  have hwaiting {q : Sequencer} {st : FanState} (c : ChannelNo)
      (hst : st = .awaitingInterlock ∨ st = .awaitingSlot ∨ st = .blocked) (hq : q.fanState = some st) :
      some x ≠ seqCond c q := by
    intro h
    rw [seqCond_waiting c hst hq] at h
    split at h
    · exact hx (congrArg Cond.code (Option.some.inj h))
    · cases h
  have hevent (u : State) (c : ChannelNo) : x ∈ (interlockEvent d u c).trouble.active ↔ x ∈ u.trouble.active := by
    rcases interlockEvent_cases d c u with h | ⟨st, hst, st', hst', hfan, h⟩
    · rw [h]
    · have hnew : (fanIn st).fanState = some st := by rcases hst with rfl | rfl | rfl <;> rfl
      rw [h]
      exact setSeq_mem_of_ne (hwaiting c hst' hfan) (hwaiting c hst hnew)
  have hfold (l : List ChannelNo) (u : State) : x ∈ (l.foldl (interlockEvent d) u).trouble.active ↔ x ∈ u.trouble.active := by
    induction l generalizing u with
    | nil => rfl
    | cons c l ih => rw [List.foldl_cons, ih, hevent]
  rw [interlockNotice]
  exact hfold allChannels s

/-! ### A damper or curtain takes a state (R46, R58, R59) -/

/-- The fans are told when the state changes. -/
theorem setTravel_eq {st st' : TravelState} {tr tr' : Option Nat} (h : (s.ch c).seq = .damper st tr) :
    setTravel c (.damper st' tr') s
      = if st = st' then setSeq c (.damper st' tr') s else interlockNotice c (setSeq c (.damper st' tr') s) := by
  unfold setTravel
  rw [h]
  by_cases hst : st = st' <;> simp [hst]

theorem setTravel_ch {st st' : TravelState} {tr tr' : Option Nat} (h : (s.ch c).seq = .damper st tr) (x : ChannelNo) :
    (setTravel c (.damper st' tr') s).ch x = if c = x
      then { s.ch c with seq := .damper st' tr', output := decide ((s.ch c).target = .on) }
      else if st = st' then s.ch x else (interlockEvent c (setSeq c (.damper st' tr') s) x).ch x := by
  have hset := setSeq_ch s c x (.damper st' tr')
  rw [setTravel_eq h]
  by_cases hst : st = st'
  · rw [if_pos hst, hset, if_pos hst]
    rfl
  · rw [if_neg hst, if_neg hst, interlockNotice_ch]
    by_cases hx : c = x
    · subst hx
      rw [if_pos rfl] at hset ⊢
      rw [interlockEvent_of_no_fan (by rw [hset]; rfl), hset]
      rfl
    · rw [if_neg hx]

theorem setTravel_mem {st st' : TravelState} {tr tr' : Option Nat} {x : Cond} (h : (s.ch c).seq = .damper st tr)
    (hx : x.code ≠ .fanBlocked) : x ∈ (setTravel c (.damper st' tr') s).trouble.active
      ↔ x ∈ (setSeq c (.damper st' tr') s).trouble.active := by
  rw [setTravel_eq h]
  split
  · rfl
  · exact interlockNotice_mem hx c _

theorem waitsForSlot_of_no_fan (h : (s.ch c).seq.fanState = none) : waitsForSlot s c = false := by
  unfold waitsForSlot
  split
  · next k => rw [k] at h; cases h
  · rfl

/-! ### The travel timer (R56, R57) -/

theorem exec_travelExpiry {st : TravelState} {r : Nat} (hr : s.inReset = false) (h : (s.ch c).seq = .damper st (some r)) :
    exec (.travelTimerExpiry c) s = .next (startTests (if travelRate (s.chCfg c).kind st s.meas.supply = 0 then s
      else setTravel c (.damper .jammed none) s)) := by
  refine congrArg Host.Outcome.next ((outside_of_not_inReset hr).trans ?_)
  simp only [travelExpiry, h]

theorem travelRate_zero_iff (k : ChannelKind) (st : TravelState) (v : Supply) :
    travelRate k st v = 0 ↔ v = .fail ∧ ¬(k = .curtain ∧ st = .closing) := by
  cases v
  · exact ⟨nofun, nofun⟩
  · refine ⟨fun h => ?_, nofun⟩
    simp only [travelRate] at h
    split at h <;> cases h
  · refine ⟨fun h => ⟨rfl, fun hc => ?_⟩, fun h => if_neg h.2⟩
    rw [travelRate, if_pos hc] at h
    cases h

end Sys2Proof.Machine

open Sys2Proof Sys2Proof.Machine in
/-- Settles O56: JAMMED, and one event at each fan that names the channel. -/
theorem travelExpiryJams : Obligations.TravelExpiryJams := by
  intro c st r s hr hseq hst
  have hmoving : st ≠ .jammed := by rcases hst with rfl | rfl <;> exact nofun
  refine ⟨_, exec_travelExpiry hr hseq, travelRate_zero_iff _ _ _, fun hrate => ?_, fun hrate hflag => ?_,
    fun e hrate hnames hwaits => ?_, fun hrate => ?_, ?_⟩
  · rw [if_neg hrate]
    have hself := (setTravel_ch (st' := .jammed) (tr' := none) hseq c).trans (if_pos rfl)
    rw [startTests_ch_of_not_waiting (waitsForSlot_of_no_fan (by rw [hself]; rfl)), hself]
  · have hold : seqCond c (s.ch c).seq = none := by rw [hseq]; rcases hst with rfl | rfl <;> rfl
    rw [if_neg hrate, startTests_trouble, setTravel_mem hseq (x := chanCond .damperJammed c) nofun]
    exact mem_setSeq_entered rfl (by rw [hold]; exact nofun) rfl hflag
  · have hne : c ≠ e := by
      rintro rfl
      rw [hseq] at hwaits
      rcases hwaits with h | h <;> cases h
    have hu : (setSeq c (.damper .jammed none) s).ch e = s.ch e := (setSeq_ch s c e _).trans (if_neg hne)
    have hfaulted : interlockFaulted (setSeq c (.damper .jammed none) s) e = true := by
      refine List.any_eq_true.mpr ⟨c, ?_, ?_⟩
      · rw [chCfg_congr (congrArg _ (lessSequencing_eq (setSeq_lessSequencing s c _)).1)]
        exact hnames
      · rw [faulted_eq, setSeq_ch, if_pos rfl]
        rfl
    have hevent : interlockEvent c (setSeq c (.damper .jammed none) s) e
        = setSeq e (fanIn .blocked) (setSeq c (.damper .jammed none) s) := by
      unfold interlockEvent
      rw [if_pos (by rw [chCfg_congr (congrArg _ (lessSequencing_eq (setSeq_lessSequencing s c _)).1)]; exact hnames), hu]
      rcases hwaits with h | h <;> rw [h] <;> simp [evaluateStopped, hfaulted]
    have hch : (setTravel c (.damper .jammed none) s).ch e
        = { s.ch e with seq := .fan .blocked none none, output := false } := by
      rw [setTravel_ch hseq, if_neg hne, if_neg hmoving, hevent, setSeq_ch, if_pos rfl, hu]
      rfl
    rw [if_neg hrate, startTests_ch_of_not_waiting (by unfold waitsForSlot; rw [hch]), hch]
  · rw [if_pos hrate]
    exact ⟨startTests_ch_of_not_waiting (waitsForSlot_of_no_fan (by rw [hseq]; rfl)), startTests_trouble s⟩
  · rw [startTests_lessSequencing]
    split
    · rfl
    · exact setTravel_lessSequencing s c _

namespace Sys2Proof.Machine

variable {s t u : State} {c d e : ChannelNo}

/-! ### The limits (R51 to R54, R56) -/

/-- What a limit event makes of a damper or curtain: both limits, the target's own without the other, neither (R51 to R56). -/
def limitNext (s : State) (c : ChannelNo) (st : TravelState) : Option (TravelState × Option Nat) :=
  if (s.ch c).openLimit = true ∧ (s.ch c).closedLimit = true then some (.limitConflict, none)
  else if (s.ch c).ownLimit = true then
    if st = .atOpen ∨ st = .atClosed then none else some (atTarget (s.ch c).target, none)
  else if st = .atOpen ∨ st = .atClosed ∨ st = .limitConflict then
    some (moving (s.ch c).target, some (travelTime s c))
  else none

theorem limitEvent_eq {st : TravelState} {tr : Option Nat} (h : (s.ch c).seq = .damper st tr) :
    limitEvent c s = (limitNext s c st).elim s fun q => setTravel c (.damper q.1 q.2) s := by
  unfold limitEvent limitNext deriveTravel
  dsimp only
  rw [h]
  by_cases hboth : (s.ch c).openLimit = true ∧ (s.ch c).closedLimit = true
  · simp [hboth]
  · have hboth' : ((s.ch c).openLimit && (s.ch c).closedLimit) = false := by simpa using hboth
    rw [if_neg hboth]
    simp only [hboth', Bool.false_eq_true, if_false]
    by_cases hown : (s.ch c).ownLimit = true
    · rw [if_pos hown, if_pos hown]
      cases st <;> simp [hown]
    · rw [if_neg hown, if_neg hown]
      cases st <;> simp [hown]

theorem exec_limitEvent {i : Input} {m : Bool} {st : TravelState} {tr : Option Nat} (hm : ((s.ch c).input i).level ≠ m)
    (h : (s.ch c).seq = .damper st tr) : exec (.limitChange c i m) s = .next (if s.inReset then storeInput c i m s
      else startTests ((limitNext (storeInput c i m s) c st).elim (storeInput c i m s)
        fun q => setTravel c (.damper q.1 q.2) (storeInput c i m s))) := by
  have hseq : ((storeInput c i m s).ch c).seq = .damper st tr := (storeInput_seq c c i m s).trans h
  rw [exec_limitChange, if_neg hm, State.outside, ← limitEvent_eq hseq]
  simp only [inputEvent, hseq]
  rfl

theorem limitNext_both {st : TravelState} (h : (s.ch c).openLimit = true) (h' : (s.ch c).closedLimit = true) :
    limitNext s c st = some (.limitConflict, none) := if_pos ⟨h, h'⟩

theorem seqCond_conflict {st : TravelState} {tr tr' : Option Nat}
    (h : seqCond c (.damper st tr) = seqCond c (.damper .limitConflict tr')) : st = .limitConflict := by
  cases st <;> first | rfl | cases h

/-- Not both limits are made where the target's own, or the other, is not. -/
theorem not_both_of_own {x : Channel} (h : x.ownLimit = false ∨ x.otherLimit = false) :
    ¬(x.openLimit = true ∧ x.closedLimit = true) := by
  rintro ⟨hopen, hclosed⟩
  cases ht : x.target <;> simp [Channel.ownLimit, Channel.otherLimit, ht, hopen, hclosed] at h

end Sys2Proof.Machine

open Sys2Proof Sys2Proof.Machine in
/-- Settles O55: the level is taken, and the table of limit events gives the state that the channel takes. -/
theorem damperLimitTables : Obligations.DamperLimitTables := by
  rintro c i m st tr u s hm hseq rfl
  have hself : (storeInput c i m s).ch c = (s.ch c).withInput i { level := m, raw := m, run := 0 } :=
    (storeInput_ch c c i m s).trans (if_pos rfl)
  have huseq : ((storeInput c i m s).ch c).seq = .damper st tr := (storeInput_seq c c i m s).trans hseq
  have htarget : ((storeInput c i m s).ch c).target = (s.ch c).target := by rw [hself]; cases i <;> rfl
  have houtput : ((storeInput c i m s).ch c).output = (s.ch c).output := by rw [hself]; cases i <;> rfl
  have hlevel : (((storeInput c i m s).ch c).input i).level = m := by rw [hself]; cases i <;> rfl
  have hflag : (storeInput c i m s).chCfg c = s.chCfg c := rfl
  refine ⟨_, exec_limitEvent hm hseq, ?_⟩
  generalize hgen : storeInput c i m s = u at *
  have hother (e : ChannelNo) (he : e ≠ c) : u.ch e = s.ch e := by
    rw [← hgen, storeInput_ch, if_neg he.symm]
  have hcfg : u.ctl = s.ctl := by rw [← hgen]; rfl
  cases hr : s.inReset with
  | true =>
    rw [if_pos rfl]
    exact ⟨rfl, rfl, htarget, hlevel, fun _ => rfl, fun hlaw => by
      rw [houtput, (hlaw c).1, hseq]; rfl, nofun, nofun, nofun, nofun, fun e he _ _ _ => hother e he, rfl⟩
  | false =>
    rw [if_neg Bool.false_ne_true]
    have hwork : (startTests ((limitNext u c st).elim u fun q => setTravel c (.damper q.1 q.2) u)).lessSequencing
        = u.lessSequencing := by
      rw [startTests_lessSequencing]
      cases limitNext u c st with
      | none => rfl
      | some q => exact setTravel_lessSequencing u c _
    obtain ⟨htarget', hA, hB⟩ := lessSequencing_eq_ch hwork c
    have hch : (startTests ((limitNext u c st).elim u fun q => setTravel c (.damper q.1 q.2) u)).ch c
        = (limitNext u c st).elim (u.ch c) fun q =>
            { u.ch c with seq := .damper q.1 q.2, output := decide ((u.ch c).target = .on) } := by
      cases limitNext u c st with
      | none => exact startTests_ch_of_not_waiting (waitsForSlot_of_no_fan (by simp only [Option.elim]; rw [huseq]; rfl))
      | some q =>
        have hset := (setTravel_ch (st' := q.1) (tr' := q.2) huseq c).trans (if_pos rfl)
        simp only [Option.elim]
        rw [startTests_ch_of_not_waiting (waitsForSlot_of_no_fan (by rw [hset]; rfl)), hset]
    have hmem {q : TravelState × Option Nat} {x : Cond} (hq : limitNext u c st = some q) (hx : x.code ≠ .fanBlocked) :
        x ∈ (startTests ((limitNext u c st).elim u fun q => setTravel c (.damper q.1 q.2) u)).trouble.active
          ↔ x ∈ (setSeq c (.damper q.1 q.2) u).trouble.active := by
      rw [startTests_trouble, hq]
      exact setTravel_mem huseq hx
    refine ⟨hA, hB, htarget'.trans htarget, hlevel, nofun, fun hlaw => ?_, fun _ ho hc => ?_, fun _ hown hoth hst => ?_,
      fun _ hown hst => ?_, fun _ hown hst => ?_, fun e he _ hnames hfan => ?_, hwork⟩
    · rw [hch]
      cases limitNext u c st with
      | none =>
        simp only [Option.elim]
        rw [houtput, (hlaw c).1, hseq]
        rfl
      | some q => simp only [Option.elim]; rw [htarget]
    · have hq := limitNext_both (st := st) ho hc
      refine ⟨by rw [hch, hq]; rfl, fun htrouble hst => (hmem hq (x := chanCond .limitConflict c) nofun).mpr ?_, fun hst => ?_⟩
      · refine mem_setSeq_entered rfl ?_ rfl (by rw [hflag]; exact htrouble)
        rw [huseq]
        exact fun h => hst (seqCond_conflict h)
      · subst hst
        rw [hmem hq (x := chanCond .damperJammed c) nofun]
        exact not_mem_setSeq_left (by rw [huseq]; rfl) fun h => by cases h
    · have hnot := not_both_of_own (.inr hoth)
      have hat : ¬(st = .atOpen ∨ st = .atClosed) := by rcases hst with rfl | rfl | rfl | rfl <;> simp
      have hq : limitNext u c st = some (atTarget (u.ch c).target, none) := by
        rw [limitNext, if_neg hnot, if_pos hown, if_neg hat]
      have hcond : seqCond c (.damper (atTarget (u.ch c).target) none) = none := by cases (u.ch c).target <;> rfl
      refine ⟨?_, fun hst => ?_, fun hst => ?_⟩
      · rw [hch, hq, htarget]
        cases (s.ch c).target <;> rfl
      · subst hst
        rw [hmem hq (x := chanCond .damperJammed c) nofun]
        exact not_mem_setSeq_left (by rw [huseq]; rfl) (by rw [hcond]; exact nofun)
      · subst hst
        rw [hmem hq (x := chanCond .limitConflict c) nofun]
        exact not_mem_setSeq_left (by rw [huseq]; rfl) (by rw [hcond]; exact nofun)
    · have hq : limitNext u c st = some (moving (u.ch c).target, some (travelTime u c)) := by
        rw [limitNext, if_neg (not_both_of_own (.inl hown)), if_neg (by rw [hown]; exact Bool.false_ne_true), if_pos hst]
      rw [hch, hq, htarget]
      have htime : travelTime u c = (s.chCfg c).time1 * 2000 := congrArg (fun k => k.time1 * 2000) hflag
      rw [htime]
      cases (s.ch c).target <;> rfl
    · have hnext : limitNext u c st = none := by
        rw [limitNext, if_neg (not_both_of_own (.inl hown)), if_neg (by rw [hown]; exact Bool.false_ne_true),
          if_neg (by rcases hst with rfl | rfl | rfl <;> simp)]
      rw [hch, hnext, hseq]
      exact huseq
    · have hue : u.ch e = s.ch e := hother e he
      have hset : ((limitNext u c st).elim u fun q => setTravel c (.damper q.1 q.2) u).ch e = u.ch e := by
        cases limitNext u c st with
        | none => rfl
        | some q =>
          have hseqe : (setSeq c (.damper q.1 q.2) u).ch e = u.ch e := (setSeq_ch u c e _).trans (if_neg he.symm)
          simp only [Option.elim]
          rw [setTravel_ch huseq, if_neg he.symm, interlockEvent_of_no_fan (by rw [hseqe, hue]; exact hfan), hseqe, ite_self]
      rw [startTests_ch_of_not_waiting (waitsForSlot_of_no_fan (by rw [hset, hue]; exact hfan)), hset, hue]
end

section
/-! What a completed pair makes of its channel, and where a changed comparator is passed: O58 (R89, R94 to R101, R113). -/

namespace Sys2Proof.Machine

variable {s t u : State} {c : ChannelNo} {p : PressureNo} {x : Cond}

/-! ### Conditions that a move leaves -/

theorem swapCond_mem_of_ne {old new : Option Cond} (hold : some x ≠ old) (hnew : some x ≠ new) :
    x ∈ (swapCond old new s).trouble.active ↔ x ∈ s.trouble.active := by
  by_cases h : old = new
  · rw [swapCond, if_pos h]
  · rw [mem_swapCond h, and_iff_left hold, or_iff_left fun k => hnew k.1]

/-- The monitor's move leaves every condition but its own (R115). -/
theorem setContain_mem (st : ContainState) (g : Option Nat) (h : x.code ≠ .containmentNotAchieved) :
    x ∈ (setContain st g s).trouble.active ↔ x ∈ s.trouble.active := by
  have hapart (y : ContainState) : some x ≠ containCond y := fun e => h (congrArg Cond.code (containCond_spec e))
  unfold setContain
  dsimp only
  split
  · exact Iff.rfl
  · rw [swapCond_mem_of_ne (hapart _) (hapart _), statusNotice_trouble]
    exact Iff.rfl

/-- What a comparator's move at the monitor does is one setContain, or nothing (R113). -/
theorem containComparator_cases (s : State) :
    containComparator s = s ∨ ∃ st, containComparator s = setContain st none s := by
  unfold containComparator
  split
  · split
    · exact .inr ⟨_, rfl⟩
    · exact .inl rfl
  · split
    · exact .inl rfl
    · exact .inr ⟨_, rfl⟩
  · split
    · exact .inr ⟨_, rfl⟩
    · exact .inl rfl
  · exact .inl rfl
  · exact .inl rfl

/-- The monitor's state and timer after a BOUNDARY comparator's change, by the boundary test (R113). -/
def comparatorMove (test : Bool) (x : Containment) : Containment :=
  match x.state with
  | .pending => if test then { state := .achieved, grace := none } else x
  | .achieved => if test then x else { state := .notAchieved, grace := none }
  | .notAchieved => if test then { state := .achieved, grace := none } else x
  | _ => x

theorem containComparator_contain (s : State) :
    (containComparator s).contain = comparatorMove (boundaryTest s) s.contain := by
  have hset (st : ContainState) : (setContain st none s).contain = { state := st, grace := none } :=
    (setContain_keeps s st none).1
  unfold containComparator comparatorMove
  cases s.contain.state with
  | pending | achieved | notAchieved =>
    dsimp only
    split
    · first | exact hset _ | rfl
    · first | exact hset _ | rfl
  | _ => rfl

/-! ### Where a changed comparator is passed (R101) -/

/-- A proving event's result at its channel depends on the channel and the role alone. -/
theorem provingEvent_congr (m : Bool) (hc : t.ch c = s.ch c) (hrole : t.role = s.role) :
    (provingEvent m c t).ch c = (provingEvent m c s).ch c := by
  have hset (q : Sequencer) : (setSeq c q t).ch c = (setSeq c q s).ch c := by
    rw [setSeq_ch, setSeq_ch, if_pos rfl, if_pos rfl, hc]
  unfold provingEvent
  rw [hc, hrole]
  split
  · exact hset _
  · exact hset _
  · exact hset _
  · split
    · exact hset _
    · exact hset _
  · exact hc

/-- The comparator's level reaches a fan that proves by it. -/
def provedBy (p : PressureNo) (m : Bool) (s : State) (c : ChannelNo) : State :=
  if (s.chCfg c).proving = some p then provingEvent m c s else s

theorem provedBy_channelWork (p : PressureNo) (m : Bool) (s : State) (c : ChannelNo) : ChannelWork s (provedBy p m s c) := by
  unfold provedBy
  split
  · exact provingEvent_channelWork m c s
  · exact .refl s

theorem ChannelWork.kept (h : ChannelWork s t) : t.ctl = s.ctl ∧ t.role = s.role ∧ t.contain = s.contain := by
  obtain ⟨hctl, -, hrole, -, -, -, hcontain, -⟩ := lessReports_eq h.rest
  exact ⟨hctl, hrole, hcontain⟩

theorem ChannelWork.trans (h : ChannelWork s t) (k : ChannelWork t u) : ChannelWork s u :=
  ⟨k.starts.trans h.starts, k.rest.trans (congrArg (fun v : State => v.withChans u.chans) h.rest)⟩

theorem foldl_provedBy_channelWork (p : PressureNo) (m : Bool) (l : List ChannelNo) (s : State) :
    ChannelWork s (l.foldl (provedBy p m) s) := by
  induction l generalizing s with
  | nil => exact .refl s
  | cons d l ih => exact (provedBy_channelWork p m s d).trans (ih _)

theorem foldl_provedBy_ch (p : PressureNo) (m : Bool) (l : List ChannelNo) (hl : l.Nodup) (s : State) (c : ChannelNo) :
    (l.foldl (provedBy p m) s).ch c = if c ∈ l then (provedBy p m s c).ch c else s.ch c := by
  induction l generalizing s with
  | nil => rfl
  | cons d l ih =>
    obtain ⟨hd, hl⟩ := List.nodup_cons.mp hl
    rw [List.foldl_cons, ih hl]
    by_cases hdc : d = c
    · subst hdc
      rw [if_neg hd, if_pos List.mem_cons_self]
    · obtain ⟨hctl, hrole, -⟩ := (provedBy_channelWork p m s d).kept
      have hch : (provedBy p m s d).ch c = s.ch c := by
        unfold provedBy
        split
        · exact provingEvent_ch s m d c (Ne.symm hdc)
        · rfl
      have hsame : (provedBy p m (provedBy p m s d) c).ch c = (provedBy p m s c).ch c := by
        generalize provedBy p m s d = u at *
        rw [provedBy, provedBy, chCfg_congr (congrArg _ hctl)]
        split
        · exact provingEvent_congr m hch hrole
        · exact hch
      rw [hsame, hch]
      simp [Ne.symm hdc]

theorem passComparator_proving (m : Bool) (h : (s.prCfg p).role = .proving) :
    passComparator p m s = allChannels.foldl (provedBy p m) s := by
  unfold passComparator
  rw [h]
  rfl

theorem passComparator_boundary (m : Bool) (h : (s.prCfg p).role = .boundary) :
    passComparator p m s = containComparator s := by
  unfold passComparator
  rw [h]

theorem passComparator_unused (m : Bool) (h : (s.prCfg p).role = .unused) : passComparator p m s = s := by
  unfold passComparator
  rw [h]

/-- A comparator moves sequencers of its fans and the monitor alone, and what these report. -/
theorem passComparator_rest (p : PressureNo) (m : Bool) (s : State) : (passComparator p m s).lessReports
    = ((s.withChans (passComparator p m s).chans).withContain (passComparator p m s).contain).lessReports := by
  cases h : (s.prCfg p).role with
  | proving =>
    rw [passComparator_proving m h]
    have hwork := foldl_provedBy_channelWork p m allChannels s
    rw [hwork.rest, hwork.kept.2.2]
    generalize allChannels.foldl (provedBy p m) s = v
    rfl
  | boundary =>
    rw [passComparator_boundary m h]
    rcases containComparator_cases s with h | ⟨st, h⟩
    · rw [h]; rfl
    · obtain ⟨hcontain, -, hchans, -⟩ := setContain_keeps s st none
      rw [h, setContain_lessReports, hchans, hcontain]
      rfl
  | unused =>
    rw [passComparator_unused m h]
    rfl

theorem passComparator_mem (p : PressureNo) (m : Bool) (hx : x.code.ofChannel = false)
    (hc : x.code ≠ .containmentNotAchieved) : x ∈ (passComparator p m s).trouble.active ↔ x ∈ s.trouble.active := by
  cases h : (s.prCfg p).role with
  | proving =>
    rw [passComparator_proving m h]
    refine foldl_preserves s (fun v : State => (x ∈ v.trouble.active ↔ x ∈ s.trouble.active)) (provedBy p m)
      (fun v d hv => ?_) allChannels Iff.rfl
    exact holds_ite (P := fun v : State => (x ∈ v.trouble.active ↔ x ∈ s.trouble.active))
      (provingEvent_tracks (membership_tracks hx hc _) m d hv) hv
  | boundary =>
    rw [passComparator_boundary m h]
    rcases containComparator_cases s with h | ⟨st, h⟩
    · rw [h]
    · rw [h, setContain_mem st none hc]
  | unused => rw [passComparator_unused m h]

theorem passComparator_ch (p : PressureNo) (m : Bool) (s : State) (c : ChannelNo) : (passComparator p m s).ch c
    = if (s.prCfg p).role = .proving ∧ (s.chCfg c).proving = some p then (provingEvent m c s).ch c else s.ch c := by
  cases h : (s.prCfg p).role with
  | proving =>
    rw [passComparator_proving m h, foldl_provedBy_ch p m allChannels (by decide) s c, if_pos (mem_allChannels c), provedBy]
    by_cases hc : (s.chCfg c).proving = some p
    · rw [if_pos hc, if_pos ⟨rfl, hc⟩]
    · rw [if_neg hc, if_neg fun k => hc k.2]
  | boundary =>
    rw [passComparator_boundary m h, if_neg fun k => by cases k.1]
    rcases containComparator_cases s with h | ⟨st, h⟩
    · rw [h]
    · rw [h, State.ch, (setContain_keeps s st none).2.2.1]
      rfl
  | unused => rw [passComparator_unused m h, if_neg fun k => by cases k.1]

theorem passComparator_contain (p : PressureNo) (m : Bool) (s : State) : (passComparator p m s).contain
    = if (s.prCfg p).role = .boundary then (containComparator s).contain else s.contain := by
  cases h : (s.prCfg p).role with
  | proving =>
    rw [passComparator_proving m h, if_neg nofun]
    exact (foldl_provedBy_channelWork p m allChannels s).kept.2.2
  | boundary => rw [passComparator_boundary m h, if_pos rfl]
  | unused => rw [passComparator_unused m h, if_neg nofun]

/-! ### The pair (R94 to R96) -/

/-- The pair's channel follows its table and the scan goes on. -/
def paired (p : PressureNo) (a b : Code) (s : State) : State :=
  (setScan (scanFrom s (p.val + 1)) s).setPressure p (applyPair (s.prCfg p) a b (s.pressure p))

/-- SENSOR-FAULT follows the channel's fault. -/
def faultFollowed (p : PressureNo) (a b : Code) (s : State) : State :=
  if (applyPair (s.prCfg p) a b (s.pressure p)).fault = (s.pressure p).fault then paired p a b s
  else followLatch (sensorFault p) (applyPair (s.prCfg p) a b (s.pressure p)).fault (paired p a b s)

/-- A changed comparator is passed on. -/
def pairPassed (p : PressureNo) (a b : Code) (s : State) : State :=
  if (applyPair (s.prCfg p) a b (s.pressure p)).proven = (s.pressure p).proven then faultFollowed p a b s
  else passComparator p (applyPair (s.prCfg p) a b (s.pressure p)).proven (faultFollowed p a b s)

theorem exec_pairComplete {a b : Code} (hr : s.inReset = false) (h : s.meas.scan = .convB p a) :
    exec (.pairComplete b) s = .next
      (if (s.prCfg p).role = .boundary then settleRaises s (pairPassed p a b s) else pairPassed p a b s) := by
  refine congrArg Host.Outcome.next ((outside_of_not_inReset hr).trans ?_)
  simp only [h]
  rfl

theorem faultFollowed_lessReports (p : PressureNo) (a b : Code) (s : State) :
    (faultFollowed p a b s).lessReports = (paired p a b s).lessReports := by
  unfold faultFollowed
  split
  · rfl
  · exact followLatch_lessReports _ _ _

/-- A pair writes its channel, the scan, and what a changed comparator writes. -/
theorem pairPassed_rest (p : PressureNo) (a b : Code) (s : State) : (pairPassed p a b s).lessReports
    = (((s.withMeas (paired p a b s).meas).withChans (pairPassed p a b s).chans).withContain
        (pairPassed p a b s).contain).lessReports := by
  have hfollowed := faultFollowed_lessReports p a b s
  obtain ⟨-, -, -, hchans, -, -, hcontain, -⟩ := lessReports_eq hfollowed
  unfold pairPassed
  split
  · rw [hfollowed, hchans, hcontain]
    rfl
  · rw [passComparator_rest]
    exact congrArg (fun v : State => (v.withChans _).withContain _) hfollowed

theorem pairPassed_lessRoles (p : PressureNo) (a b : Code) (s : State) :
    (pairPassed p a b s).lessRoles = (s.withMeas (paired p a b s).meas).lessRoles := by
  have hfollowed := lessRoles_of_lessSequencing (lessSequencing_of_lessReports (faultFollowed_lessReports p a b s))
  unfold pairPassed
  split
  · exact hfollowed
  · exact (passComparator_lessRoles _ p _).trans hfollowed

theorem link_of_lessReports (h : t.lessReports = s.lessReports) :
    t.link = { s.link with queue := { s.link.queue with status := t.link.queue.status } } := by
  obtain ⟨-, -, -, -, -, -, -, hclaim, -⟩ := lessReports_eq_link h
  rw [link_of_lessRoles (lessRoles_of_lessSequencing (lessSequencing_of_lessReports h)), hclaim]

theorem saturatedPair_iff (a b : Code) : saturatedPair a b = true
    ↔ a.toInt = -524288 ∨ a.toInt = 524287 ∨ b.toInt = -524288 ∨ b.toInt = 524287 := by
  simp only [saturatedPair, saturationCode, Bool.or_eq_true, decide_eq_true_eq, or_assoc]

end Sys2Proof.Machine

open Sys2Proof Sys2Proof.Machine in
/-- Settles O58: the channel's table, SENSOR-FAULT after it, and a changed comparator passed by the channel's role. -/
theorem pairMovesItsChannel : Obligations.PairMovesItsChannel := by
  refine ⟨fun p a b s hr hscan => ⟨_, exec_pairComplete hr hscan, ?_⟩, fun p a s hr hscan => ?_⟩
  · generalize hw : (if (s.prCfg p).role = .boundary then settleRaises s (pairPassed p a b s) else pairPassed p a b s) = w
    have hrest : w.lessReports = (pairPassed p a b s).lessReports := by
      rw [← hw]
      split
      · exact settleRaises_lessReports _ _
      · rfl
    have hmem (x : Cond) : x ∈ w.trouble.active ↔ x ∈ (pairPassed p a b s).trouble.active := by
      rw [← hw]
      split
      · exact settleRaises_mem _ _
      · exact Iff.rfl
    have hall := hrest.trans (pairPassed_rest p a b s)
    obtain ⟨hctl, hreg, hrole, -, hstarts, hmeas, -⟩ := lessReports_eq hall
    obtain ⟨-, -, -, hchans, -, -, hcontain, -⟩ := lessReports_eq hrest
    have hmeas : w.meas = (paired p a b s).meas := hmeas
    have hpressure (q : PressureNo) : w.pressure q
        = if p = q then applyPair (s.prCfg p) a b (s.pressure p) else s.pressure q :=
      (congrArg (fun m : Measurement => m.channels[q.val]) hmeas).trans (State.pressure_setPressure _ p q _)
    have hself : w.pressure p = applyPair (s.prCfg p) a b (s.pressure p) := (hpressure p).trans (if_pos rfl)
    obtain ⟨hfctl, -, hfrole, hfchans, -, hfmeas, hfcontain, -⟩ := lessReports_eq (faultFollowed_lessReports p a b s)
    have hkept (hsame : (w.pressure p).proven = (s.pressure p).proven) : w.chans = s.chans ∧ w.contain = s.contain := by
      rw [hself] at hsame
      rw [hchans, hcontain, pairPassed, if_pos hsame]
      exact ⟨hfchans, hfcontain⟩
    have hch (c : ChannelNo) (hne : (w.pressure p).proven ≠ (s.pressure p).proven) : w.ch c
        = if (s.prCfg p).role = .proving ∧ (s.chCfg c).proving = some p
          then (provingEvent (w.pressure p).proven c (faultFollowed p a b s)).ch c else s.ch c := by
      rw [hself] at hne ⊢
      have hcfg : (faultFollowed p a b s).prCfg p = s.prCfg p ∧ (faultFollowed p a b s).chCfg c = s.chCfg c :=
        ⟨congrArg (fun k : ModeCtl => (k.config.getD blankConfig).pressure[p.val]) hfctl,
          congrArg (fun k : ModeCtl => (k.config.getD blankConfig).channels[c.val]) hfctl⟩
      have hold : (faultFollowed p a b s).ch c = s.ch c := congrArg (fun v : Vector Channel 12 => v[c.val]) hfchans
      calc w.ch c
        _ = (pairPassed p a b s).ch c := congrArg (fun v : Vector Channel 12 => v[c.val]) hchans
        _ = _ := by rw [pairPassed, if_neg hne, passComparator_ch, hcfg.1, hcfg.2, hold]
    have hpassed (hne : (w.pressure p).proven ≠ (s.pressure p).proven) : w.contain
        = if (s.prCfg p).role = .boundary then (containComparator (faultFollowed p a b s)).contain else s.contain := by
      have hrole : (faultFollowed p a b s).prCfg p = s.prCfg p :=
        congrArg (fun k : ModeCtl => (k.config.getD blankConfig).pressure[p.val]) hfctl
      have hold : (faultFollowed p a b s).contain = s.contain := hfcontain
      rw [hself] at hne
      rw [hcontain, pairPassed, if_neg hne, passComparator_contain, hrole, hold]
    have hfault (hne : (applyPair (s.prCfg p) a b (s.pressure p)).fault ≠ (s.pressure p).fault) :
        sensorFault p ∈ w.trouble.active ↔ (applyPair (s.prCfg p) a b (s.pressure p)).fault = true := by
      have hfollowed : sensorFault p ∈ (faultFollowed p a b s).trouble.active
          ↔ (applyPair (s.prCfg p) a b (s.pressure p)).fault = true := by
        rw [faultFollowed, if_neg hne, followLatch]
        split
        · next h => exact iff_of_true ((mem_raise _ _ _ rfl).mpr (.inl rfl)) h
        · next h => exact iff_of_false (fun k => ((mem_endCond _ _ _).mp k).2 rfl) h
      rw [hmem, pairPassed]
      split
      · exact hfollowed
      · rw [passComparator_mem p _ (x := sensorFault p) rfl nofun]
        exact hfollowed
    have hsupply : w.meas.supply = s.meas.supply := by rw [hmeas]; rfl
    have hlink := link_of_lessReports hall
    refine ⟨congrArg Measurement.scan hmeas, hsupply, fun q hq => ?_, saturatedPair_iff a b,
      fun hsat hf => ?_, fun hsat hf hn => ?_, fun hsat hf hn => ?_, fun hsat hf hn => ?_, fun hsat hf hn => ?_,
      fun hsat hf => ?_, hkept, fun c hne hproves hc => ?_, fun c hc => ?_, fun hne => ?_, fun hne => ?_, fun hne hb => ?_,
      fun hproven hsame => ?_, hlink, hrole, hstarts, ?_⟩
    · rw [hpressure, if_neg (Ne.symm hq)]
    · rw [hself, applyPair, if_pos hsat, applySaturated, if_pos hf]
    · rw [hself, applyPair, if_pos hsat, applySaturated, if_neg (by rw [hf]; exact nofun), if_pos hn]
    · have hy : applyPair (s.prCfg p) a b (s.pressure p)
          = { satCount := 4, recovery := 0, fault := true, proven := false, provenCount := 0, unprovenCount := 0 } := by
        rw [applyPair, if_pos hsat, applySaturated, if_neg (by rw [hf]; exact nofun), if_neg (by omega)]
      exact ⟨hself.trans hy, (hfault (by rw [hy, hf]; exact nofun)).mpr (by rw [hy])⟩
    · rw [hself, applyPair, if_neg (by rw [hsat]; exact nofun), applyValid, if_pos hf, if_pos hn]
    · have hy : applyPair (s.prCfg p) a b (s.pressure p)
          = { s.pressure p with fault := false, satCount := 0, recovery := 0 } := by
        rw [applyPair, if_neg (by rw [hsat]; exact nofun), applyValid, if_pos hf, if_neg (by omega)]
      exact ⟨hself.trans hy, (hfault (by rw [hy, hf]; exact nofun)).not.mpr (by rw [hy]; exact nofun)⟩
    · rw [hself, applyPair, if_neg (by rw [hsat]; exact nofun), applyValid, if_neg (by rw [hf]; exact nofun)]
    · rw [hch c hne, if_pos ⟨hproves, hc⟩]
      exact provingEvent_congr _ (congrArg (fun v : Vector Channel 12 => v[c.val]) hfchans) hfrole
    · by_cases hsame : (w.pressure p).proven = (s.pressure p).proven
      · rw [State.ch, (hkept hsame).1]; rfl
      · rw [hch c hsame, if_neg fun k => hc k.2]
    · by_cases hsame : (w.pressure p).proven = (s.pressure p).proven
      · exact (hkept hsame).1
      · refine Vector.ext fun i hi => ?_
        exact (hch ⟨i, hi⟩ hsame).trans (if_neg fun k => hne k.1)
    · by_cases hsame : (w.pressure p).proven = (s.pressure p).proven
      · exact (hkept hsame).2
      · rw [hpassed hsame, if_neg hne]
    · have htest : boundaryTest (faultFollowed p a b s) = boundaryTest w := by
        unfold boundaryTest boundarySet State.pressure State.prCfg State.cfg
        rw [hfctl, hfmeas, hctl, hmeas]
        rfl
      have hold : (faultFollowed p a b s).contain = s.contain := hfcontain
      have hmove : w.contain = comparatorMove (boundaryTest w) s.contain := by
        rw [hpassed hne, if_pos hb, containComparator_contain, htest, hold]
      exact hmove
    · have hf : (applyPair (s.prCfg p) a b (s.pressure p)).fault = (s.pressure p).fault := by rw [← hself]; exact hsame
      have hp : (applyPair (s.prCfg p) a b (s.pressure p)).proven = (s.pressure p).proven := by rw [← hself]; exact hproven
      have hpaired : pairPassed p a b s = paired p a b s := by rw [pairPassed, if_pos hp, faultFollowed, if_pos hf]
      have hw' : w = paired p a b s := by
        rw [← hw, hpaired, settleRaises_idle (s := s) (t := paired p a b s) id, ite_self]
      rw [hw']
      rfl
    · rw [hmeas]
      exact (lessRoles_of_lessSequencing (lessSequencing_of_lessReports hrest)).trans (pairPassed_lessRoles p a b s)
  · refine congrArg Host.Outcome.next ((outside_of_not_inReset hr).trans ?_)
    simp only [hscan]
    rfl
end

section
/-! The entry to ACTIVE by what it writes, and the ALARM level: O45 (R9, R119, R121, R154, R169). -/

namespace Sys2Proof.Machine

variable {s t u : State}

/-! ### A STATUS owed stays owed (R119) -/

theorem ReportRun.owed (h : ReportRun s t) : StatusOwed s → StatusOwed t := by
  induction h with
  | quiet h =>
    unfold StatusOwed
    rw [h.queued, h.early]
    exact id
  | raised c _ s => exact raise_owed c
  | ended c s => exact endCond_owed c
  | noticed s => exact statusNotice_owed
  | trans _ _ ih ih' => exact fun hs => ih' (ih hs)

/-! ### The entry to ACTIVE (R169) -/

/-- The mode and the timer of the entry to ACTIVE. -/
def activated (s : State) : State := setMode .active (s.withCtl { s.ctl with listenTimer := none })

theorem enterActive_reports (s : State) : ReportRun (activated s) (enterActive s) :=
  (recompute_reports _).trans <| (startSequencers_reports _).trans <| (graceStart_reports _).trans <|
    (completeListening_reports _).trans (startTests_reports _)

/-- Listening is complete (R131). -/
theorem completeListening_lessReports (s : State) :
    (completeListening s).lessReports = (s.withPeers { s.peers with listened := true }).lessReports := by
  unfold completeListening
  split
  · next h =>
    rw [← h]
    rfl
  · exact raiseSilent_lessReports _

theorem withPeers_lessRoles (x : PeerTable) (s : State) : (s.withPeers x).lessRoles = s.lessRoles.withPeers x := rfl

/-- The entry to ACTIVE writes mode, LISTEN timer and the mark of a complete listening, and what a recompute writes. -/
theorem enterActive_lessRoles (s : State) : (enterActive s).lessRoles
    = ({ s with
        ctl := { s.ctl with mode := .active, listenTimer := none }
        peers := { s.peers with listened := true } } : State).lessRoles := by
  have hlisten (v : State) : (completeListening v).lessRoles = (v.withPeers { v.peers with listened := true }).lessRoles :=
    lessRoles_of_lessSequencing (lessSequencing_of_lessReports (completeListening_lessReports v))
  have hstart (v : State) : (graceStart (startSequencers (recompute v))).lessRoles = v.lessRoles := by
    rw [graceStart_lessRoles, lessRoles_of_lessSequencing (startSequencers_lessSequencing _), recompute_lessRoles]
  calc (enterActive s).lessRoles
    _ = (completeListening (graceStart (startSequencers (recompute (activated s))))).lessRoles :=
      lessRoles_of_lessSequencing (startTests_lessSequencing _)
    _ = _ := by
      rw [hlisten, (lessRoles_eq (hstart _)).2.2.2.2.1, withPeers_lessRoles, hstart]
      rfl

/-! ### The ALARM level (R9, R121, R154) -/

/-- The deglitched ALARM level is taken. -/
def alarmTaken (a : Bool) (s : State) : State := s.withPanel { s.panel with alarm := takeLevel a }

theorem exec_alarmChange {a : Bool} (h : s.panel.alarm.level ≠ a) : exec (.alarmChange a) s
    = .next (settleRaises s (if s.inReset then alarmTaken a s else alarmEvent a (alarmTaken a s))) :=
  congrArg Host.Outcome.next (if_neg h)

theorem declarationCheck_idle (h : s.ctl.mode.applies = false ∨ holdsZone s.station s.reg.records = true
    ∨ s.reg.owed = true ∨ s.panel.alarm.level = false) : declarationCheck s = s := by
  refine if_neg fun ⟨happlies, halarm, hzone, howed⟩ => ?_
  rcases h with h | h | h | h
  · rw [h] at happlies; cases happlies
  · rw [h] at hzone; cases hzone
  · rw [h] at howed; cases howed
  · rw [h] at halarm; cases halarm

theorem declarationCheck_owes (happlies : s.ctl.mode.applies = true) (halarm : s.panel.alarm.level = true)
    (hzone : holdsZone s.station s.reg.records = false) (howed : s.reg.owed = false) :
    declarationCheck s = placeDeclare (s.withReg (oweDeclaration s.reg)) := if_pos ⟨happlies, halarm, hzone, howed⟩

/-- A declaration is placed in LISTEN and ACTIVE (R9). -/
theorem placeDeclare_queue (h : s.ctl.mode.applies = true) :
    (placeDeclare s).link.queue.fireDeclare = (s.link.queue.fireDeclare || decide (s.ctl.mode ≠ .mute)) := by
  unfold placeDeclare
  cases hm : s.ctl.mode with
  | start | config | lockout => rw [hm] at h; cases h
  | listen => exact (Bool.or_true _).symm
  | active => exact (Bool.or_true _).symm
  | mute => exact (Bool.or_false _).symm

/-- The declaration check writes the register and the place of FIRE-DECLARE in the queue. -/
theorem declarationCheck_cases (s : State) :
    ∃ r b, r.records = s.reg.records ∧ declarationCheck s = (s.withReg r).setQueued .fireDeclare b := by
  unfold declarationCheck placeDeclare
  split
  · split
    · exact ⟨oweDeclaration s.reg, true, rfl, rfl⟩
    · exact ⟨oweDeclaration s.reg, s.link.queue.fireDeclare, rfl, rfl⟩
  · exact ⟨s.reg, s.link.queue.fireDeclare, rfl, rfl⟩

/-- The node after the notice and the declaration check of an ALARM that became active. -/
def alarmHeard (s : State) : State := declarationCheck (statusNotice s)

theorem alarmHeard_kept (s : State) : (alarmHeard s).ctl = s.ctl ∧ (alarmHeard s).chans = s.chans
    ∧ (alarmHeard s).meas = s.meas ∧ (alarmHeard s).peers = s.peers ∧ (alarmHeard s).panel = s.panel
    ∧ (alarmHeard s).role = s.role ∧ (alarmHeard s).trouble = s.trouble
    ∧ (alarmHeard s).reg.records = s.reg.records := by
  obtain ⟨hctl, hreg, hrole, hchans, -, hmeas, -, hpeers, hpanel, -⟩ := lessReports_eq (statusNotice_lessReports s)
  obtain ⟨r, b, hrecords, h⟩ := declarationCheck_cases (statusNotice s)
  rw [alarmHeard, h]
  exact ⟨hctl, hchans, hmeas, hpeers, hpanel, hrole, statusNotice_trouble s, hrecords.trans (congrArg _ hreg)⟩

theorem alarmHeard_owes (happlies : s.ctl.mode.applies = true) (halarm : s.panel.alarm.level = true)
    (hzone : holdsZone s.station s.reg.records = false) (howed : s.reg.owed = false) :
    (alarmHeard s).reg = oweDeclaration s.reg
      ∧ (alarmHeard s).link.queue.fireDeclare = (s.link.queue.fireDeclare || decide (s.ctl.mode ≠ .mute)) := by
  obtain ⟨hctl, hreg, -, -, -, -, -, -, hpanel, -⟩ := lessReports_eq (statusNotice_lessReports s)
  obtain ⟨-, -, -, -, -, -, hdeclare, -⟩ := lessReports_eq_link (statusNotice_lessReports s)
  have happlies' : (statusNotice s).ctl.mode.applies = true := by rw [hctl]; exact happlies
  rw [alarmHeard, declarationCheck_owes happlies' (by rw [hpanel]; exact halarm)
    (by rw [State.station, hctl, hreg]; exact hzone) (by rw [hreg]; exact howed)]
  refine ⟨(placeDeclare_keeps _).1.trans (congrArg oweDeclaration hreg), (placeDeclare_queue ?_).trans ?_⟩
  · exact happlies'
  · rw [← hdeclare, ← hctl]
    rfl

theorem alarmHeard_idle (h : s.ctl.mode.applies = false ∨ holdsZone s.station s.reg.records = true ∨ s.reg.owed = true) :
    (alarmHeard s).reg = s.reg ∧ (alarmHeard s).link.queue.fireDeclare = s.link.queue.fireDeclare := by
  obtain ⟨hctl, hreg, -⟩ := lessReports_eq (statusNotice_lessReports s)
  obtain ⟨-, -, -, -, -, -, hdeclare, -⟩ := lessReports_eq_link (statusNotice_lessReports s)
  rw [alarmHeard, declarationCheck_idle (by
    rw [State.station, hctl, hreg]
    exact h.imp id (Or.imp id .inl))]
  exact ⟨hreg, hdeclare⟩

theorem alarmEvent_active (s : State) :
    alarmEvent true s = if s.ctl.mode = .listen then enterActive (alarmHeard s) else alarmHeard s := by
  have hctl : (alarmHeard s).ctl = s.ctl := (alarmHeard_kept s).1
  unfold alarmEvent
  simp only [if_true]
  change (if (alarmHeard s).ctl.mode = .listen then _ else _) = _
  rw [hctl]
  rfl

/-- An active ALARM writes what the entry to ACTIVE from LISTEN writes, after the declaration check. -/
theorem alarmEvent_lessRoles (s : State) : (alarmEvent true s).lessRoles = (if s.ctl.mode = .listen
    then ({ alarmHeard s with
      ctl := { s.ctl with mode := .active, listenTimer := none }
      peers := { s.peers with listened := true } } : State) else alarmHeard s).lessRoles := by
  obtain ⟨hctl, -, -, hpeers, -⟩ := alarmHeard_kept s
  rw [alarmEvent_active]
  split
  · rw [enterActive_lessRoles, hctl, hpeers]
  · rfl

theorem alarmEvent_owed (a : Bool) (h : s.ctl.mode.sends = true) : StatusOwed (alarmEvent a s) := by
  have hnotice : StatusOwed (statusNotice s) := by
    rw [statusNotice, if_pos h]
    exact queueStatus_queues s
  cases a with
  | false => exact hnotice
  | true =>
    have hheard : StatusOwed (alarmHeard s) := (declarationCheck_reports _).owed hnotice
    rw [alarmEvent_active]
    exact holds_ite (P := StatusOwed) ((enterActive_reports _).owed (hheard.kept ⟨rfl, rfl⟩)) hheard

end Sys2Proof.Machine

open Sys2Proof Sys2Proof.Machine in
/-- Settles O45: the notice, the declaration, and from LISTEN the entry to ACTIVE. -/
theorem alarmChangeReachesItsBlocks : Obligations.AlarmChangeReachesItsBlocks := by
  intro a s ha
  refine ⟨_, exec_alarmChange ha, ?_⟩
  cases hr : s.inReset with
  | true =>
    have hidle : settleRaises s (alarmTaken a s) = alarmTaken a s := settleRaises_idle id
    rw [if_pos rfl, hidle]
    exact ⟨rfl, fun _ => rfl, nofun, nofun, nofun, nofun, nofun, nofun, rfl, rfl, rfl, rfl⟩
  | false =>
    rw [if_neg Bool.false_ne_true]
    obtain ⟨hctl, hreg, hrole, hchans, hstarts, hmeas, hcontain, hpeers, hpanel, -⟩ :=
      lessReports_eq (statusNotice_lessReports (alarmTaken a s))
    obtain ⟨-, -, -, -, -, -, hdeclare, -⟩ := lessReports_eq_link (statusNotice_lessReports (alarmTaken a s))
    have hsettled (h : (alarmEvent a (alarmTaken a s)).trouble = s.trouble) :
        settleRaises s (alarmEvent a (alarmTaken a s)) = alarmEvent a (alarmTaken a s) :=
      settleRaises_idle fun hnone => by rw [h, hnone]
    have howed (h : s.ctl.mode.sends = true) : StatusOwed (settleRaises s (alarmEvent a (alarmTaken a s))) :=
      (alarmEvent_owed (s := alarmTaken a s) a h).kept (settleRaises_reportKept _ _)
    cases a with
    | false =>
      have htrouble : (alarmEvent false (alarmTaken false s)).trouble = s.trouble := statusNotice_trouble _
      rw [hsettled htrouble] at howed ⊢
      exact ⟨hpanel, nofun, fun _ _ => ⟨hreg, hctl, hchans, hrole, hstarts, htrouble, hcontain⟩, nofun,
        fun _ _ => ⟨hreg, hdeclare⟩, nofun, fun _ _ => ⟨hctl, hchans⟩, fun _ => howed, hmeas,
        congrArg PeerTable.entries hpeers, congrArg Resolver.override hrole, congrArg IncidentRegister.records hreg⟩
    | true =>
      have hall := (lessRoles_of_lessSequencing (lessSequencing_of_lessReports (settleRaises_lessReports s
        (alarmEvent true (alarmTaken true s))))).trans (alarmEvent_lessRoles (alarmTaken true s))
      obtain ⟨hctl, hchans, hmeas, hpeers, hpanel, hrole, htrouble, hrecords⟩ := alarmHeard_kept (alarmTaken true s)
      have hstill (h : s.ctl.mode ≠ .listen) :
          settleRaises s (alarmEvent true (alarmTaken true s)) = alarmHeard (alarmTaken true s) := by
        have hevent : alarmEvent true (alarmTaken true s) = alarmHeard (alarmTaken true s) :=
          (alarmEvent_active _).trans (if_neg h)
        rw [hsettled (by rw [hevent]; exact htrouble), hevent]
      generalize settleRaises s (alarmEvent true (alarmTaken true s)) = w at *
      have hkept : w.reg = (alarmHeard (alarmTaken true s)).reg
          ∧ w.link.queue.fireDeclare = (alarmHeard (alarmTaken true s)).link.queue.fireDeclare
          ∧ w.panel = (alarmTaken true s).panel ∧ w.meas = s.meas ∧ w.peers.entries = s.peers.entries
          ∧ w.role.override = s.role.override := by
        obtain ⟨-, hreg', hover', hmeas', hpeers', hpanel', -⟩ := lessRoles_eq hall
        obtain ⟨-, -, -, -, -, -, hdeclare', -⟩ := lessRoles_eq_link hall
        rw [hreg', hdeclare', hpanel', hmeas', hpeers', hover']
        split
        · exact ⟨rfl, rfl, hpanel, hmeas, rfl, congrArg Resolver.override hrole⟩
        · exact ⟨rfl, rfl, hpanel, hmeas, congrArg PeerTable.entries hpeers, congrArg Resolver.override hrole⟩
      obtain ⟨hreg', hdeclare', hpanel', hmeas', hentries', hover'⟩ := hkept
      refine ⟨hpanel', nofun, nofun, fun _ _ happlies hzone howed' => ?_, fun _ h => ?_, fun _ _ hl => ?_,
        fun _ hl => by rw [hstill hl]; exact ⟨hctl, hchans⟩, fun _ => howed, hmeas', hentries', hover', by
          rw [hreg']; exact hrecords⟩
      · rw [hreg', hdeclare']
        exact alarmHeard_owes (s := alarmTaken true s) happlies rfl hzone howed'
      · rw [hreg', hdeclare']
        exact alarmHeard_idle (s := alarmTaken true s) h
      · obtain ⟨hctl', -, -, -, hpeers', -⟩ := lessRoles_eq hall
        rw [hctl', hpeers', if_pos (show (alarmTaken true s).ctl.mode = .listen from hl)]
        exact ⟨rfl, rfl⟩
end

section
/-! The words of an own FIRE-DECLARE and an own STATUS read back: O17 (R2, R6, R16, R122, R128 and the layouts of 8.3). -/

namespace Sys2Proof.Machine

/-! ### FIRE-DECLARE (R2, R6) -/

theorem keepFirst_of_nodup {zs : List Nat} (h : zs.Nodup) : keepFirst zs = zs := by
  induction zs with
  | nil => rfl
  | cons z zs ih =>
    obtain ⟨hz, hzs⟩ := List.nodup_cons.mp h
    rw [keepFirst, ih hzs, List.filter_eq_self.mpr fun y hy => decide_eq_true (ne_of_mem_of_not_mem hy hz)]

/-- The neighbours two by two read back in order, a missing last one as 0. -/
theorem pairWords_fields (zs : List Nat) (h : ∀ z ∈ zs, z ≤ 63) :
    ∃ pad, (pairWords zs).flatMap (fun v => [field v 13 8, field v 5 0]) = zs ++ pad := by
  induction zs using pairWords.induct with
  | case1 => exact ⟨[], rfl⟩
  | case2 a =>
    have ha := h a (by simp)
    refine ⟨[0], ?_⟩
    have hpair : field (BitVec.ofNat 16 (a * 256)) 13 8 = a ∧ field (BitVec.ofNat 16 (a * 256)) 5 0 = 0 := by
      simpa using field_pair a 0 ha (by omega)
    simp [pairWords, hpair]
  | case3 a b rest ih =>
    obtain ⟨pad, hpad⟩ := ih fun z hz => h z (by simp [hz])
    refine ⟨pad, ?_⟩
    have hpair : field (BitVec.ofNat 16 (a * 256 + b)) 13 8 = a ∧ field (BitVec.ofNat 16 (a * 256 + b)) 5 0 = b := by
      simpa using field_pair a b (h a (by simp)) (h b (by simp))
    simp [pairWords, hpair, hpad]

theorem pairWords_length (zs : List Nat) : (pairWords zs).length = (zs.length + 1) / 2 := by
  induction zs using pairWords.induct with
  | case1 => rfl
  | case2 a => simp [pairWords]
  | case3 a b rest ih =>
    simp only [pairWords, List.length_cons, ih]
    omega

/-- Word 1 carries the number of neighbours and the first of them (8.3). -/
theorem field_declareHead {n z : Nat} (hn : n ≤ 6) (hz : z ≤ 63) :
    field (BitVec.ofNat 16 (n * 256 + z)) 10 8 = n ∧ field (BitVec.ofNat 16 (n * 256 + z)) 5 0 = z := by
  simp only [field, BitVec.toNat_ofNat]
  omega

theorem declarePayload_length (zs : List Nat) : (declarePayload zs).length = 1 + (zs.length - 1 + 1) / 2 := by
  cases zs with
  | nil => rfl
  | cons z zs =>
    simp only [declarePayload, List.length_cons, pairWords_length]
    omega

theorem readDeclare_declarePayload {own : Nat} {zs : List Nat} (h : NeighbourLaw own zs) :
    readDeclare own (declarePayload zs) = some zs := by
  obtain ⟨hlen, hnodup, hzones⟩ := h
  cases zs with
  | nil => rfl
  | cons z zs =>
    have hlen : zs.length + 1 ≤ 6 := hlen
    obtain ⟨hcount, hfirst⟩ := field_declareHead hlen (hzones z (by simp)).2.1
    obtain ⟨pad, hpad⟩ := pairWords_fields zs fun y hy => (hzones y (by simp [hy])).2.1
    have hwords : (declarePayload (z :: zs)).length = declareWords (zs.length + 1) := by
      rw [declarePayload_length]
      rfl
    have hfields : (neighbourFields (declarePayload (z :: zs))).take (zs.length + 1) = z :: zs := by
      simp only [declarePayload, neighbourFields, hfirst, hpad, List.take_succ_cons, List.take_left']
    have hkept : (z :: zs).filter (fun y => decide (y ≠ 0 ∧ y ≠ own)) = z :: zs :=
      List.filter_eq_self.mpr fun y hy => decide_eq_true ⟨Nat.ne_of_gt (hzones y hy).1, (hzones y hy).2.2⟩
    have hread : readDeclare own (declarePayload (z :: zs))
        = if (declarePayload (z :: zs)).length = declareWords (zs.length + 1)
          then some (keepFirst (((neighbourFields (declarePayload (z :: zs))).take (min (zs.length + 1) 6)).filter
            (fun y => decide (y ≠ 0 ∧ y ≠ own)))) else none := by
      simp only [readDeclare, declarePayload, hcount] <;> rfl
    rw [hread, if_pos hwords, Nat.min_eq_left hlen, hfields, hkept, keepFirst_of_nodup hnodup]

/-! ### STATUS (R122, R128) -/

/-- The fields of word 1 of a STATUS (8.3). -/
theorem field_statusHead {m r o a k f n : Nat} (hm : m ≤ 3) (hr : r ≤ 7) (ho : o ≤ 3) (ha : a ≤ 1) (hk : k ≤ 7) (hf : f ≤ 1)
    (hn : n ≤ 15) (w : Word) (hw : w = BitVec.ofNat 16
      (m * 2 ^ 14 + r * 2 ^ 11 + o * 2 ^ 9 + a * 2 ^ 8 + k * 2 ^ 5 + f * 2 ^ 4 + n)) :
    field w 15 14 = m ∧ field w 13 11 = r ∧ field w 10 9 = o ∧ field w 8 8 = a ∧ field w 7 5 = k ∧ field w 4 4 = f
      ∧ field w 3 0 = n := by
  subst hw
  simp only [field, BitVec.toNat_ofNat]
  refine ⟨?_, ?_, ?_, ?_, ?_, ?_, ?_⟩ <;> omega

theorem channelsAtTarget_le (s : State) : channelsAtTarget s ≤ 12 := List.length_filter_le _ _

theorem Mode.code_le (m : Mode) : m.code ≤ 3 := by cases m <;> decide
theorem ZoneRole.code_le (r : ZoneRole) : r.code ≤ 7 := by cases r <;> decide
theorem Override.code_le (o : Override) : o.code ≤ 3 := by cases o <;> decide
theorem ContainState.code_le (k : ContainState) : k.code ≤ 7 := by cases k <;> decide

theorem CondCode.number_le (k : CondCode) : k.number ≤ 15 := by cases k <;> decide

theorem field_fault {n q : Nat} (hn : n ≤ 15) (hq : q ≤ 63) :
    field (BitVec.ofNat 16 (n * 2 ^ 8 + q)) 11 8 = n ∧ field (BitVec.ofNat 16 (n * 2 ^ 8 + q)) 5 0 = q := by
  simp only [field, BitVec.toNat_ofNat]
  omega

theorem field_count (e : Nat) {n : Nat} (hn : n ≤ 16) : field (BitVec.ofNat 16 (e * 2 ^ 8 + n)) 4 0 = n := by
  simp only [field, BitVec.toNat_ofNat]
  omega

theorem readMode_of_code {w : Word} {m : Mode} (h : field w 15 14 = m.code) : (m = .listen → readMode w = .listen)
    ∧ (m = .active → readMode w = .active) ∧ (m = .lockout → readMode w = .lockout) := by
  unfold readMode
  rw [h]
  refine ⟨?_, ?_, ?_⟩ <;> rintro rfl <;> rfl

theorem readContain_of_code {w : Word} {k : ContainState} (h : field w 7 5 = k.code) : readContain w = k := by
  unfold readContain
  rw [h]
  cases k <;> rfl

end Sys2Proof.Machine

open Sys2Proof Sys2Proof.Machine in
/-- Settles O17: each field has its place in its word, and a sum of places reads back. -/
theorem ownPayloadsReadBack : Obligations.OwnPayloadsReadBack := by
  refine ⟨fun own zs h => ⟨readDeclare_declarePayload h, declarePayload_length zs, ?_⟩, fun s hlist htrouble hsends => ?_⟩
  · have hlen := h.1
    rw [declarePayload_length]
    omega
  · refine ⟨_, _, _, _, rfl, ?_⟩
    obtain ⟨hmode, hrole, hover, halarm, hcontain, hfresh, hat⟩ := field_statusHead s.ctl.mode.code_le s.role.role.code_le
      s.role.override.code_le (Bool.toNat_le s.panel.alarm.level) s.contain.state.code_le
      (Bool.toNat_le (s.trouble.record.any (·.fresh))) ((channelsAtTarget_le s).trans (by decide)) _ rfl
    obtain ⟨hlisten, hactive, hlockout⟩ := readMode_of_code hmode
    refine ⟨hlisten, hactive, hlockout, readContain_of_code hcontain, hrole, hover, halarm, hfresh, hat,
      channelsAtTarget_le s, readView_statusPayload hlist rfl, field_count _ hlist.1, fun h => ?_, fun r h => ?_⟩
    · simp [statusContent, h]
    · have hqualifier := (htrouble.2.2.1 r (by simp [h])).1.le
      have hfault := field_fault r.cond.code.number_le hqualifier
      simpa [statusContent, h] using hfault
end

section
/-! What every accepted frame does before and after its blocks, and a new register: the layer under O35, O37, O40, O41 and O42
(R3, R4, R136, R146, R149, R152, R159). -/

namespace Sys2Proof.Machine

variable {s t u v : State} {x : Cond} {r : FirstFault}

/-! ### A full record that no ACK of this moment filled (R159) -/

theorem raise_record_some (c : Cond) (h : s.trouble.record = some r) : (raise c s).trouble.record = some r := by
  rw [raise_record s c (by rw [h]; rfl), h]

theorem endCond_record (c : Cond) (h : s.trouble.record = some r) (hr : r.acked = false) :
    (endCond c s).trouble.record = some r := by
  have hends : s.trouble.endsWithAck c = false := by
    rw [Trouble.endsWithAck, h]
    simp [hr]
  rw [endCond, hends]
  exact h

theorem ReportRun.record (h : ReportRun s t) (hr : r.acked = false) : s.trouble.record = some r → t.trouble.record = some r := by
  induction h with
  | quiet h => rw [h.trouble]; exact id
  | raised c _ s => exact raise_record_some c
  | ended c s => exact fun hs => endCond_record c hs hr
  | noticed s => rw [statusNotice_trouble]; exact id
  | trans _ _ ih ih' => exact fun hs => ih' (ih hs)

/-! ### A latch's condition (R4) -/

theorem mem_followLatch {c : Cond} (b : Bool) (h : masked c s = false) : c ∈ (followLatch c b s).trouble.active ↔ b = true := by
  unfold followLatch
  split
  · next hb => exact iff_of_true ((mem_raise s c c h).mpr (.inl rfl)) hb
  · next hb => exact iff_of_false (fun k => ((mem_endCond s c c).mp k).2 rfl) hb

theorem storeRegister_splitCond (new : IncidentRegister) (s : State) :
    plainCond .incidentSplit ∈ (storeRegister new s).trouble.active ↔ new.splitLatch = true := by
  unfold storeRegister
  dsimp only
  rw [mem_followLatch_of_ne (c := plainCond .incidentSplit) (d := plainCond .registerFull) _ (by decide), mem_followLatch _ rfl]

theorem storeRegister_fullCond (new : IncidentRegister) (s : State) :
    plainCond .registerFull ∈ (storeRegister new s).trouble.active ↔ new.fullLatch = true := by
  unfold storeRegister
  dsimp only
  rw [mem_followLatch _ rfl]

theorem storeRegister_mem (new : IncidentRegister) (hs : x ≠ plainCond .incidentSplit) (hf : x ≠ plainCond .registerFull) :
    x ∈ (storeRegister new s).trouble.active ↔ x ∈ s.trouble.active := by
  unfold storeRegister
  dsimp only
  rw [mem_followLatch_of_ne _ hf, mem_followLatch_of_ne _ hs]
  split
  · exact Iff.rfl
  · rw [statusNotice_trouble]
    exact Iff.rfl

/-! ### A new register (R3, R4) -/

theorem registerEvent_inputs (new : IncidentRegister) (s : State) : InputsKept (s.withReg new) (registerEvent new s) :=
  .of_lessRoles (registerEvent_lessRoles s new)

theorem registerEvent_resolved {new : IncidentRegister} (ha : s.ctl.mode.applies = true) (h : new.records ≠ s.reg.records) :
    Resolved (registerEvent new s) := by
  unfold registerEvent
  dsimp only
  rw [if_neg h]
  refine recompute_resolved ?_
  rw [(lessReports_eq (storeRegister_lessReports s new)).1]
  exact ha

/-- Sequencing aside, the conditions are those of the stored register. -/
theorem registerEvent_mem {new : IncidentRegister} (hx : x.code.ofChannel = false) (hc : x.code ≠ .containmentNotAchieved) :
    x ∈ (registerEvent new s).trouble.active ↔ x ∈ (storeRegister new s).trouble.active := by
  unfold registerEvent
  dsimp only
  split
  · exact Iff.rfl
  · exact recompute_mem hx hc

/-! ### Before the blocks (R146, R149, R152) -/

/-- The link's part of an accepted frame. -/
def frameIn (own : Bool) (s : State) : State := if own then ownFrameOut s else otherFrameIn s

/-- Own frame has left the wire and the queue, the counts at 0. -/
def frameOut (a : Attempt) (s : State) : State :=
  s.withLink { s.link with
    line := .closed, run := 0, attempt := none, queue := s.link.queue.put a.kind false, failCount := 0, txFail := false }

theorem ownFrameOut_eq {a : Attempt} (h : s.link.attempt = some a) :
    ownFrameOut s = endCond (plainCond .txFail) (frameOut a s) := by
  unfold ownFrameOut
  rw [h]
  rfl

theorem isOwnFrame_attempt {f : Frame} (h : isOwnFrame f s = true) : ∃ a, s.link.attempt = some a ∧ a.frame = f := by
  unfold isOwnFrame at h
  cases ha : s.link.attempt with
  | none => rw [ha] at h; cases h
  | some a =>
    rw [ha] at h
    exact ⟨a, rfl, of_decide_eq_true h⟩

theorem ownFrameOut_resolverKept (s : State) : ResolverKept s (ownFrameOut s) := by
  cases h : s.link.attempt with
  | none => rw [ownFrameOut, h]; exact .of_lessReports rfl
  | some a =>
    rw [ownFrameOut_eq h]
    exact ResolverKept.trans (t := frameOut a s) ⟨⟨rfl, rfl, rfl, rfl, rfl, rfl, rfl⟩, rfl, fun _ => rfl⟩
      (.of_lessReports (endCond_lessReports _ _))

theorem frameIn_resolverKept (own : Bool) (s : State) : ResolverKept s (frameIn own s) := by
  unfold frameIn
  split
  · exact ownFrameOut_resolverKept s
  · exact otherFrameIn_resolverKept s

theorem frameIn_ctl (own : Bool) (s : State) : (frameIn own s).ctl = s.ctl := by
  unfold frameIn
  split
  · unfold ownFrameOut
    split
    · rfl
    · exact (lessReports_eq (endCond_lessReports _ _)).1
  · exact (otherFrameIn_ownKept s).ctl

/-! ### After the blocks (R136, R159) -/

/-- What closes an accepted frame: the conflict detector, the start tests, the choice of the first raise. -/
def frameClosed (own : Bool) (f : Frame) (s v : State) : State := settleRaises s (startTests (detectConflict own f v))

theorem acceptFrame_eq (own : Bool) (f : Frame) (blocks : State → State) (h : s.hears = true) :
    acceptFrame own f blocks s = frameClosed own f s (blocks (frameIn own s)) :=
  if_pos ((State.accepts_eq s own f).trans h)

theorem detectConflict_cases (own : Bool) (f : Frame) (v : State) : detectConflict own f v = v
    ∨ (own = false ∧ f.station.toNat = v.station ∧ detectConflict own f v = evidence v) := by
  unfold detectConflict
  split
  · next h =>
    rw [Bool.and_eq_true, decide_eq_true_eq, Bool.not_eq_true'] at h
    exact .inr ⟨h.1, h.2, rfl⟩
  · exact .inl rfl

/-- Without evidence the detector does nothing. -/
theorem detectConflict_idle {own : Bool} {f : Frame} (h : own = true ∨ f.station.toNat ≠ v.station) :
    detectConflict own f v = v := by
  rcases detectConflict_cases own f v with k | ⟨hown, hz, -⟩
  · exact k
  · rcases h with h | h
    · rw [hown] at h; cases h
    · exact absurd hz h

theorem detectConflict_inputs (own : Bool) (f : Frame) (v : State) : InputsKept v (detectConflict own f v) := by
  rcases detectConflict_cases own f v with h | ⟨-, -, h⟩
  · rw [h]; exact .of_lessReports rfl
  · rw [h]
    rcases evidence_inputs v with k | k
    · exact k
    · rw [k]; exact .of_lessReports rfl

theorem frameClosed_inputs (own : Bool) (f : Frame) (s v : State) : InputsKept v (frameClosed own f s v) :=
  (detectConflict_inputs own f v).trans (frameClosed_resolverKept s _).toInputsKept

theorem frameClosed_resolved {own : Bool} {f : Frame} (hv : Resolved v) : Resolved (frameClosed own f s v) := by
  refine Resolved.kept ?_ (frameClosed_resolverKept s _)
  rcases detectConflict_cases own f v with h | ⟨-, -, h⟩
  · rw [h]; exact hv
  · rw [h]
    cases ha : v.ctl.mode.applies with
    | true => exact evidence_resolved ha hv
    | false => rw [evidence_idle ha]; exact hv

/-- Evidence raises STATION-CONFLICT alone. -/
theorem evidence_mem (hx : x.code.ofChannel = false) (hc : x.code ≠ .containmentNotAchieved)
    (hs : x ≠ plainCond .stationConflict) : x ∈ (evidence v).trouble.active ↔ x ∈ v.trouble.active := by
  have hmute (o : Origin) : x ∈ (enterMute o v).trouble.active ↔ x ∈ v.trouble.active := by
    rw [enterMute_eq, startTests_trouble, recompute_mem hx hc, muteReported, mem_raise_iff]
    exact or_iff_left fun h => hs h.1
  unfold evidence
  split
  · exact hmute _
  · exact hmute _
  · exact Iff.rfl
  · exact Iff.rfl

theorem frameClosed_mem {own : Bool} {f : Frame} (hx : x.code.ofChannel = false) (hc : x.code ≠ .containmentNotAchieved)
    (hs : x ≠ plainCond .stationConflict) : x ∈ (frameClosed own f s v).trouble.active ↔ x ∈ v.trouble.active := by
  rw [frameClosed, settleRaises_mem, startTests_trouble]
  rcases detectConflict_cases own f v with h | ⟨-, -, h⟩
  · rw [h]
  · rw [h, evidence_mem hx hc hs]

theorem evidence_record (hr : r.acked = false) (h : v.trouble.record = some r) : (evidence v).trouble.record = some r := by
  have hmute (o : Origin) : (enterMute o v).trouble.record = some r := by
    have hrun : ReportRun (muteReported o v) (enterMute o v) := by
      rw [enterMute_eq]
      exact (recompute_reports _).trans (startTests_reports _)
    exact hrun.record hr (raise_record_some (s := muteEntered o v) _ h)
  unfold evidence
  split
  · exact hmute _
  · exact hmute _
  · exact h
  · exact h

theorem frameClosed_record {own : Bool} {f : Frame} (hr : r.acked = false) (hs : s.trouble.record ≠ none)
    (h : v.trouble.record = some r) : (frameClosed own f s v).trouble.record = some r := by
  rw [frameClosed, settleRaises_idle fun k => absurd k hs, startTests_trouble]
  rcases detectConflict_cases own f v with k | ⟨-, -, k⟩
  · rw [k]; exact h
  · rw [k]; exact evidence_record hr h

/-- The detector may empty the queue; otherwise the link but for the claim is as the blocks left it. -/
theorem frameClosed_link (own : Bool) (f : Frame) (s v : State) :
    (frameClosed own f s v).link.line = v.link.line ∧ (frameClosed own f s v).link.run = v.link.run
      ∧ (frameClosed own f s v).link.failCount = v.link.failCount ∧ (frameClosed own f s v).link.txFail = v.link.txFail
      ∧ ((frameClosed own f s v).link.attempt = v.link.attempt ∨ (frameClosed own f s v).link.attempt = none)
      ∧ ((frameClosed own f s v).link.queue.clear = v.link.queue.clear
        ∨ (frameClosed own f s v).link.queue.clear = false) := by
  rw [frameClosed, settleRaises_link, startTests_link]
  rcases detectConflict_cases own f v with h | ⟨-, -, h⟩
  · rw [h]; exact ⟨rfl, rfl, rfl, rfl, .inl rfl, .inl rfl⟩
  · rw [h]
    rcases evidence_link_cases v with k | k
    · rw [k]; exact ⟨rfl, rfl, rfl, rfl, .inl rfl, .inl rfl⟩
    · rw [k]; exact ⟨rfl, rfl, rfl, rfl, .inr rfl, .inr rfl⟩

end Sys2Proof.Machine

namespace Sys2Proof.Machine

variable {s t u v : State}

/-! ### FIRE-DECLARE (R5 to R7, R11, R12) -/

theorem declareFrame_ignored {own zone : Nat} {ws : List Word} (reg : IncidentRegister)
    (h : zone = 0 ∨ readDeclare zone ws = none) : declareFrame own zone ws reg = reg := by
  unfold declareFrame
  split
  · rfl
  · next hz => rw [h.resolve_left hz]

theorem declareFrame_read {own zone : Nat} {ws : List Word} {ns : List Nat} (reg : IncidentRegister) (hz : zone ≠ 0)
    (h : readDeclare zone ws = some ns) :
    declareFrame own zone ws reg = stopIfEntered own reg (classify zone .heard ns reg) := by
  rw [declareFrame, if_neg hz, h]

theorem stopIfEntered_latches (own : Nat) (before after : IncidentRegister) :
    (stopIfEntered own before after).fullLatch = after.fullLatch
      ∧ (stopIfEntered own before after).splitLatch = after.splitLatch := by
  unfold stopIfEntered
  split <;> exact ⟨rfl, rfl⟩

theorem extractZones_any {rs : List Record} (h : ListLaw rs) (hne : rs ≠ []) (ns : List Nat) :
    (extractZones rs).any (fun z => decide (z ∈ ns)) = true ↔ ∃ x ∈ ns, x = primaryOf rs ∨ x ∈ extensionsOf rs := by
  simp only [List.any_eq_true, decide_eq_true_eq, mem_extractZones h hne]
  exact ⟨fun ⟨x, hx, hns⟩ => ⟨x, hns, hx⟩, fun ⟨x, hns, hx⟩ => ⟨x, hx, hns⟩⟩

/-- The register after a FIRE-DECLARE: an own one has ended its debt first (R12). -/
def afterDeclare (own : Bool) (z : Station) (ws : List Word) (s : State) : IncidentRegister :=
  declareFrame s.station z.toNat ws (if own then ownDeclared s.reg else s.reg)

theorem applyDeclare_eq (own : Bool) (z : Station) (ws : List Word) (u : State) : applyDeclare own z ws u
    = registerEvent (afterDeclare own z ws u) (if own then u.withReg (ownDeclared u.reg) else u) := by
  cases own <;> rfl

theorem afterDeclare_congr (h : InputsKept s u) (own : Bool) (z : Station) (ws : List Word) :
    afterDeclare own z ws u = afterDeclare own z ws s := by
  rw [afterDeclare, afterDeclare, h.station, h.reg]

theorem applyDeclare_inputs (own : Bool) (z : Station) (ws : List Word) (u : State) :
    InputsKept (u.withReg (afterDeclare own z ws u)) (applyDeclare own z ws u) := by
  rw [applyDeclare_eq]
  cases own <;> exact registerEvent_inputs _ _

theorem applyDeclare_resolved {own : Bool} {z : Station} {ws : List Word} (ha : u.ctl.mode.applies = true)
    (h : (afterDeclare own z ws u).records ≠ u.reg.records) : Resolved (applyDeclare own z ws u) := by
  rw [applyDeclare_eq]
  cases own <;> exact registerEvent_resolved ha h

theorem applyDeclare_lessRoles (own : Bool) (z : Station) (ws : List Word) (u : State) :
    (applyDeclare own z ws u).lessRoles = (u.withReg (afterDeclare own z ws u)).lessRoles := by
  rw [applyDeclare_eq]
  cases own <;> exact registerEvent_lessRoles _ _

/-- The node after an accepted FIRE-DECLARE. -/
def declareResult (own : Bool) (z : Station) (ws : List Word) (s : State) : State :=
  frameClosed own { cls := 2, station := z, words := ws } s (applyDeclare own z ws (frameIn own s))

theorem exec_fireDeclareAccepted {z : Station} {ws : List Word} (hh : s.hears = true) (ha : s.ctl.mode.applies = true) :
    exec (.fireDeclareAccepted z ws) s
      = .next (declareResult (isOwnFrame { cls := 2, station := z, words := ws } s) z ws s) := by
  refine congrArg Host.Outcome.next ((acceptFrame_eq _ _ _ hh).trans ?_)
  rw [whenApplied, frameIn_ctl, if_pos ha]
  rfl

theorem declareResult_inputs (own : Bool) (z : Station) (ws : List Word) (s : State) :
    InputsKept (s.withReg (afterDeclare own z ws s)) (declareResult own z ws s) := by
  have hin := (frameIn_resolverKept own s).toInputsKept
  have hset : InputsKept (s.withReg (afterDeclare own z ws s))
      ((frameIn own s).withReg (afterDeclare own z ws (frameIn own s))) :=
    ⟨hin.override, afterDeclare_congr hin own z ws, hin.peers, hin.straps, hin.config, hin.meas, hin.panel⟩
  exact (hset.trans (applyDeclare_inputs own z ws _)).trans (frameClosed_inputs _ _ _ _)

theorem declareResult_resolved {own : Bool} {z : Station} {ws : List Word} (ha : s.ctl.mode.applies = true)
    (h : (afterDeclare own z ws s).records ≠ s.reg.records) : Resolved (declareResult own z ws s) := by
  have hin := (frameIn_resolverKept own s).toInputsKept
  refine frameClosed_resolved (applyDeclare_resolved ?_ ?_)
  · rw [frameIn_ctl]; exact ha
  · rw [afterDeclare_congr hin, hin.reg]; exact h

theorem declareResult_fullCond (own : Bool) (z : Station) (ws : List Word) (s : State) :
    plainCond .registerFull ∈ (declareResult own z ws s).trouble.active ↔ (afterDeclare own z ws s).fullLatch = true := by
  have hin := (frameIn_resolverKept own s).toInputsKept
  rw [declareResult, frameClosed_mem (x := plainCond .registerFull) rfl nofun (by decide), applyDeclare_eq,
    registerEvent_mem (x := plainCond .registerFull) rfl nofun, storeRegister_fullCond, afterDeclare_congr hin]

/-- Own frame leaves the counts at 0 (R152). -/
theorem ownFrameOut_counts {f : Frame} (h : isOwnFrame f s = true) :
    (ownFrameOut s).link.failCount = 0 ∧ (ownFrameOut s).link.txFail = false := by
  obtain ⟨a, ha, -⟩ := isOwnFrame_attempt h
  obtain ⟨-, -, -, hcount, hfail, -⟩ := lessReports_eq_link (endCond_lessReports (frameOut a s) (plainCond .txFail))
  rw [ownFrameOut_eq ha, hcount, hfail]
  exact ⟨rfl, rfl⟩

theorem declareResult_counts {z : Station} {ws : List Word} {f : Frame} (h : isOwnFrame f s = true) :
    (declareResult true z ws s).link.failCount = 0 ∧ (declareResult true z ws s).link.txFail = false := by
  obtain ⟨-, -, hcount, hfail, -⟩ := frameClosed_link true { cls := 2, station := z, words := ws } s
    (applyDeclare true z ws (ownFrameOut s))
  obtain ⟨-, -, -, hcount', hfail', -⟩ := lessRoles_eq_link (applyDeclare_lessRoles true z ws (ownFrameOut s))
  have hout := ownFrameOut_counts h
  exact ⟨hcount.trans (hcount'.trans hout.1), hfail.trans (hfail'.trans hout.2)⟩

end Sys2Proof.Machine

open Sys2Proof Sys2Proof.Machine in
/-- Settles O37: the frame's register is the case table's, and a changed list is followed by a recompute. -/
theorem declareCaseTable : Obligations.DeclareCaseTable := by
  intro z ws s hh ha hlist
  refine ⟨_, exec_fireDeclareAccepted hh ha, ?_⟩
  have hcounts : isOwnFrame { cls := 2, station := z, words := ws } s = true →
      (declareResult (isOwnFrame { cls := 2, station := z, words := ws } s) z ws s).link.failCount = 0
        ∧ (declareResult (isOwnFrame { cls := 2, station := z, words := ws } s) z ws s).link.txFail = false := by
    intro hown
    rw [hown]
    exact declareResult_counts hown
  generalize isOwnFrame { cls := 2, station := z, words := ws } s = own at hcounts ⊢
  have hkept := declareResult_inputs own z ws s
  have hreg : (declareResult own z ws s).reg = afterDeclare own z ws s := hkept.reg
  have hbase : (if own then ownDeclared s.reg else s.reg).records = s.reg.records
      ∧ (if own then ownDeclared s.reg else s.reg).fullLatch = s.reg.fullLatch
      ∧ (if own then ownDeclared s.reg else s.reg).splitLatch = s.reg.splitLatch
      ∧ (if own then ownDeclared s.reg else s.reg).owed = (s.reg.owed && !own)
      ∧ (if own then ownDeclared s.reg else s.reg).isoTimer = if own then none else s.reg.isoTimer := by
    cases own
    · exact ⟨rfl, rfl, rfl, (Bool.and_true _).symm, rfl⟩
    · exact ⟨rfl, rfl, rfl, (Bool.and_false _).symm, rfl⟩
  obtain ⟨hrecords, hfull, hsplit, howed, htimer⟩ := hbase
  have hread : (afterDeclare own z ws s = if own then ownDeclared s.reg else s.reg)
      ∨ ∃ ns, afterDeclare own z ws s = stopIfEntered s.station (if own then ownDeclared s.reg else s.reg)
        (classify z.toNat .heard ns (if own then ownDeclared s.reg else s.reg)) := by
    by_cases hz : z.toNat = 0
    · exact .inl (declareFrame_ignored _ (.inl hz))
    · cases hns : readDeclare z.toNat ws with
      | none => exact .inl (declareFrame_ignored _ (.inr hns))
      | some ns => exact .inr ⟨ns, declareFrame_read _ hz hns⟩
  rw [hreg]
  generalize hbase : (if own then ownDeclared s.reg else s.reg) = base at *
  refine ⟨fun h => ?_, fun ns hz hns => ?_, ?_, ?_, ?_, fun h => ?_, hkept.override, hkept.peers, hkept.meas, hkept.panel,
    hcounts⟩
  · have hignored : afterDeclare own z ws s = base := by
      rw [afterDeclare, hbase]
      exact declareFrame_ignored _ (h.imp (fun h => by rw [h]; rfl) id)
    rw [hignored]
    exact ⟨hrecords, hfull⟩
  · have hentered : afterDeclare own z ws s = stopIfEntered s.station base (classify z.toNat .heard ns base) := by
      rw [afterDeclare, hbase]
      exact declareFrame_read _ (fun h => hz (BitVec.eq_of_toNat_eq h)) hns
    refine ⟨?_, ?_, (declareResult_fullCond own z ws s).mpr⟩
    · rw [hentered, stopIfEntered_records, classify_records, hrecords]
      by_cases hz : holdsZone z.toNat s.reg.records = true
      · rw [if_pos (.inl hz), if_pos hz]
      · by_cases hne : s.reg.records = []
        · rw [if_neg (by simp [hne, holdsZone]), if_neg hz, if_pos hne, hne, List.nil_append, if_pos rfl]
        · by_cases hfull : 16 ≤ s.reg.records.length
          · rw [if_pos (.inr ⟨hne, hfull⟩), if_neg hz, if_neg hne, if_pos hfull]
          · rw [if_neg (by rintro (h | ⟨-, h⟩) <;> contradiction), if_neg hz, if_neg hne, if_neg hfull, if_neg hne]
            simp only [extractZones_any hlist hne]
    · rw [hentered, (stopIfEntered_latches _ _ _).1, classify_fullLatch, hrecords, hfull]
      rfl
  · rcases hread with h | ⟨ns, h⟩
    · rw [h, hsplit]
    · rw [h, (stopIfEntered_latches _ _ _).2, classify_splitLatch, hsplit]
  · rcases hread with h | ⟨ns, h⟩
    · rw [h, howed]
    · rw [h, stopIfEntered_owed, classify_owed, howed]
  · rcases hread with h | ⟨ns, h⟩
    · rw [h, htimer, hrecords]
      have hsame : ¬(holdsZone s.station s.reg.records = false ∧ holdsZone s.station s.reg.records = true) := by
        rintro ⟨hf, ht⟩
        rw [hf] at ht
        cases ht
      simp only [hsame, or_false]
    · have hafter : (afterDeclare own z ws s).records = (classify z.toNat .heard ns base).records := by
        rw [h, stopIfEntered_records]
      rw [hafter, h, stopIfEntered_isoTimer, classify_isoTimer, hrecords, htimer]
      cases own <;> simp
  · exact ⟨(declareResult_resolved ha h).role, (declareResult_resolved ha h).fireMode⟩
end

section
/-! An accepted CLEAR: O35 (R5, R9, R14, R27, R41). -/

namespace Sys2Proof.Machine

variable {s t u v : State} {x : Cond} {r : FirstFault}

/-! ### What the frame's arrival leaves (R146, R147) -/

theorem frameIn_reports (own : Bool) (s : State) (hr : r.acked = false) (h : s.trouble.record = some r) :
    (frameIn own s).trouble.record = some r := by
  unfold frameIn
  split
  · unfold ownFrameOut
    split
    · exact h
    · exact endCond_record _ h hr
  · cases ha : s.link.attempt with
    | none => rw [otherFrameIn_idle ha]; exact h
    | some a =>
      have hsome : s.link.attempt.isSome = true := by rw [ha]; rfl
      rw [otherFrameIn, if_pos hsome, endAttempt_eq ha]
      exact h

/-- Own frame's acceptance has ended TX-FAIL (R152). -/
theorem ownFrameOut_txFail {a : Attempt} (h : s.link.attempt = some a) :
    plainCond .txFail ∉ (ownFrameOut s).trouble.active := by
  rw [ownFrameOut_eq h]
  exact fun k => ((mem_endCond _ _ _).mp k).2 rfl

/-! ### CLEAR at the Incident Register (R14) -/

/-- The register event of steps 1 to 3. -/
def cleared (s : State) : State := registerEvent (clearRegister s.reg) s

theorem cleared_lessRoles (s : State) : (cleared s).lessRoles = (s.withReg (clearRegister s.reg)).lessRoles :=
  registerEvent_lessRoles s _

theorem declarationCheck_inputs (s : State) : InputsKept (s.withReg (declarationCheck s).reg) (declarationCheck s) := by
  obtain ⟨q, b, -, h⟩ := declarationCheck_cases s
  rw [h]
  exact ⟨rfl, rfl, rfl, rfl, rfl, rfl, rfl⟩

theorem declarationCheck_role (s : State) : (declarationCheck s).role = s.role
    ∧ (declarationCheck s).trouble = s.trouble ∧ (declarationCheck s).link = { s.link with queue := { s.link.queue with
      fireDeclare := (declarationCheck s).link.queue.fireDeclare } } := by
  obtain ⟨q, b, -, h⟩ := declarationCheck_cases s
  rw [h]
  exact ⟨rfl, rfl, rfl⟩

theorem declarationCheck_keeps_queued (h : s.link.queue.fireDeclare = true) :
    (declarationCheck s).link.queue.fireDeclare = true := by
  unfold declarationCheck placeDeclare
  split
  · split
    · rfl
    · exact h
  · exact h

/-- CLEAR writes the register, the place of FIRE-DECLARE, and what a recompute writes. -/
theorem applyClear_lessRoles (s : State) : (applyClear s).lessRoles = ((s.withReg (applyClear s).reg).setQueued .fireDeclare
    (applyClear s).link.queue.fireDeclare).lessRoles := by
  obtain ⟨q, b, -, h⟩ := declarationCheck_cases (cleared s)
  have h : applyClear s = ((cleared s).withReg q).setQueued .fireDeclare b := h
  rw [h]
  exact congrArg (fun v : State => (v.withReg q).setQueued .fireDeclare b) (cleared_lessRoles s)

theorem clear_of_class {k : FrameKind} (h : kindHasClass k 0 = true) : k = .clear := by
  cases k <;> first | rfl | cases h

/-- The register after an accepted CLEAR (R14). -/
def afterClear (s : State) : IncidentRegister :=
  if s.reg.owed = false ∧ s.panel.alarm.level = true then oweDeclaration (clearRegister s.reg) else clearRegister s.reg

theorem applyClear_reg (ha : s.ctl.mode.applies = true) : (applyClear s).reg = afterClear s := by
  obtain ⟨hctl, hreg, -, -, -, hpanel, -⟩ := lessRoles_eq (cleared_lessRoles s)
  have hreg : (cleared s).reg = clearRegister s.reg := hreg
  have happlies : (cleared s).ctl.mode.applies = true := by rw [hctl]; exact ha
  have hzone : holdsZone (cleared s).station (cleared s).reg.records = false := by rw [hreg]; rfl
  change (declarationCheck (cleared s)).reg = _
  unfold afterClear
  split
  · next h =>
    rw [declarationCheck_owes happlies (by rw [hpanel]; exact h.2) hzone (by rw [hreg]; exact h.1),
      (placeDeclare_keeps _).1, hreg]
    rfl
  · next h =>
    rw [declarationCheck_idle, hreg]
    by_cases howed : s.reg.owed = true
    · exact .inr (.inr (.inl (by rw [hreg]; exact howed)))
    · exact .inr (.inr (.inr (by rw [hpanel]; simpa [howed] using h)))

theorem applyClear_declares (ha : s.ctl.mode.applies = true) (howed : s.reg.owed = false)
    (halarm : s.panel.alarm.level = true) (hm : s.ctl.mode ≠ .mute) : (applyClear s).link.queue.fireDeclare = true := by
  obtain ⟨hctl, hreg, -, -, -, hpanel, -⟩ := lessRoles_eq (cleared_lessRoles s)
  have hreg : (cleared s).reg = clearRegister s.reg := hreg
  have happlies : (cleared s).ctl.mode.applies = true := by rw [hctl]; exact ha
  change (declarationCheck (cleared s)).link.queue.fireDeclare = true
  rw [declarationCheck_owes happlies (by rw [hpanel]; exact halarm) (by rw [hreg]; rfl) (by rw [hreg]; exact howed)]
  have hmute : (cleared s).ctl.mode ≠ .mute := by rw [hctl]; exact hm
  refine (placeDeclare_queue ?_).trans (Bool.or_eq_true_iff.mpr (.inr (decide_eq_true ?_)))
  · exact happlies
  · exact hmute

theorem applyClear_inputs (s : State) : InputsKept (s.withReg (applyClear s).reg) (applyClear s) := by
  obtain ⟨-, -, hover, hmeas, hpeers, hpanel, -⟩ := lessRoles_eq (cleared_lessRoles s)
  have hctl := (lessRoles_eq (cleared_lessRoles s)).1
  have hset : InputsKept (s.withReg (applyClear s).reg) ((cleared s).withReg (applyClear s).reg) :=
    ⟨hover, rfl, hpeers, by rw [State.withReg_ctl, hctl]; rfl, by rw [State.withReg_ctl, hctl]; rfl, hmeas, hpanel⟩
  exact hset.trans (declarationCheck_inputs (cleared s))

/-- An empty register under AUTO gives NORMAL and FIRE-MODE off (R27, R41). -/
def RoleNormal (s : State) : Prop := s.role.role = .normal ∧ s.role.fireMode = false

theorem roleNormal_of_resolved (h : Resolved s) (hrecords : s.reg.records = []) (hover : s.role.override = .auto) : RoleNormal s :=
  ⟨by rw [h.role, deriveRole, hover]; exact if_pos hrecords, by
    rw [h.fireMode, deriveFireMode, hrecords, hover]
    rfl⟩

theorem roleNormal_of_roleLaw (h : RoleLaw s) (ha : s.ctl.mode.applies = true) (hrecords : s.reg.records = [])
    (hover : s.role.override = .auto) : RoleNormal s := by
  obtain ⟨hrole, -, -, hfire⟩ := h.1 ha
  refine ⟨by rw [hrole, deriveRole, hover]; exact if_pos hrecords, ?_⟩
  cases hfive : s.panel.reset.fiveSecs with
  | true => exact h.2.2 hfive
  | false =>
    rw [hfire hfive, deriveFireMode, hrecords, hover]
    rfl

theorem applyClear_roleNormal (ha : s.ctl.mode.applies = true) (hover : s.role.override = .auto)
    (h : s.reg.records = [] → RoleNormal s) : RoleNormal (applyClear s) := by
  have hrole : (applyClear s).role = (cleared s).role := (declarationCheck_role _).1
  rw [RoleNormal, hrole]
  by_cases hne : s.reg.records = []
  · have hstored : (cleared s).role = s.role := by
      have hevent : cleared s = storeRegister (clearRegister s.reg) s :=
        if_pos (show (clearRegister s.reg).records = s.reg.records from hne.symm)
      rw [hevent, (lessReports_eq (storeRegister_lessReports s _)).2.2.1]
      rfl
    rw [hstored]
    exact h hne
  · obtain ⟨-, hreg, hover', -⟩ := lessRoles_eq (cleared_lessRoles s)
    refine roleNormal_of_resolved (s := cleared s) (registerEvent_resolved ha (Ne.symm hne)) ?_ (hover'.trans hover)
    rw [hreg]
    rfl

theorem frameClosed_roleNormal {own : Bool} {f : Frame} (hrecords : v.reg.records = []) (hover : v.role.override = .auto)
    (h : RoleNormal v) : RoleNormal (frameClosed own f s v) := by
  have hdetect : RoleNormal (detectConflict own f v) := by
    rcases detectConflict_cases own f v with k | ⟨-, -, k⟩
    · rw [k]; exact h
    · rw [k]
      cases ha : v.ctl.mode.applies with
      | false => rw [evidence_idle ha]; exact h
      | true =>
        rcases evidence_cases ha with ⟨o, -, e⟩ | ⟨-, e⟩
        · have hkept := enterMute_inputsKept o v
          rw [e]
          exact roleNormal_of_resolved (enterMute_resolved o v) (by rw [hkept.reg]; exact hrecords)
            (by rw [hkept.override]; exact hover)
        · rw [e]; exact h
  rw [RoleNormal, frameClosed, (frameClosed_resolverKept s _).role]
  exact hdetect

/-- The node after an accepted CLEAR. -/
def clearResult (own : Bool) (z : Station) (w : Word) (s : State) : State :=
  frameClosed own { cls := 0, station := z, words := [w] } s (applyClear (frameIn own s))

theorem exec_clearAccepted {z : Station} {w : Word} (hh : s.hears = true) (ha : s.ctl.mode.applies = true) :
    exec (.clearAccepted z w) s
      = .next (clearResult (isOwnFrame { cls := 0, station := z, words := [w] } s) z w s) := by
  refine congrArg Host.Outcome.next ((acceptFrame_eq _ _ _ hh).trans ?_)
  rw [whenApplied, frameIn_ctl, if_pos ha]
  rfl

theorem clearResult_inputs (own : Bool) (z : Station) (w : Word) (ha : s.ctl.mode.applies = true) :
    InputsKept (s.withReg (afterClear s)) (clearResult own z w s) := by
  have hin := (frameIn_resolverKept own s).toInputsKept
  have hreg : (applyClear (frameIn own s)).reg = afterClear s := by
    rw [applyClear_reg (by rw [frameIn_ctl]; exact ha), afterClear, afterClear, hin.reg, hin.panel]
  have hset : InputsKept (s.withReg (afterClear s)) ((frameIn own s).withReg (applyClear (frameIn own s)).reg) :=
    ⟨hin.override, hreg, hin.peers, hin.straps, hin.config, hin.meas, hin.panel⟩
  exact (hset.trans (applyClear_inputs _)).trans (frameClosed_inputs _ _ _ _)

/-- CLEAR ends the latches' conditions, and raises or ends no other but a sequencer's or the monitor's (R4, R14). -/
theorem applyClear_mem (hx : x.code.ofChannel = false) (hc : x.code ≠ .containmentNotAchieved) :
    x ∈ (applyClear s).trouble.active ↔ x ∈ (storeRegister (clearRegister s.reg) s).trouble.active := by
  change x ∈ (declarationCheck (cleared s)).trouble.active ↔ _
  rw [(declarationCheck_role _).2.1, cleared, registerEvent_mem hx hc]

/-- Without conflict evidence the queue of FIRE-DECLARE is as the blocks left it. -/
theorem frameClosed_fireDeclare {own : Bool} {f : Frame} (h : own = true ∨ f.station.toNat ≠ v.station) :
    (frameClosed own f s v).link.queue.fireDeclare = v.link.queue.fireDeclare := by
  rw [frameClosed, detectConflict_idle h, settleRaises_link, startTests_link]

theorem applyClear_keeps_fireDeclare (h : s.link.queue.fireDeclare = true) :
    (applyClear s).link.queue.fireDeclare = true := by
  obtain ⟨-, -, -, -, -, -, hqueued, -⟩ := lessRoles_eq_link (cleared_lessRoles s)
  exact declarationCheck_keeps_queued (s := cleared s) (by rw [hqueued]; exact h)

end Sys2Proof.Machine

open Sys2Proof Sys2Proof.Machine in
/-- Settles O35: steps 1 to 4 of R14 at the register, and what the link and the detector do around them. -/
theorem clearEmptiesTheRegister : Obligations.ClearEmptiesTheRegister := by
  intro z w s hh ha
  refine ⟨_, exec_clearAccepted hh ha, ?_⟩
  generalize hown : isOwnFrame { cls := 0, station := z, words := [w] } s = own
  have hkept := clearResult_inputs own z w ha
  have hreg : (clearResult own z w s).reg = afterClear s := hkept.reg
  have hin := frameIn_resolverKept own s
  have hempty : (afterClear s).records = [] ∧ (afterClear s).fullLatch = false ∧ (afterClear s).splitLatch = false := by
    unfold afterClear
    split <;> exact ⟨rfl, rfl, rfl⟩
  have hquiet (h : z.toNat ≠ s.station ∨ own = true) : own = true ∨ z.toNat ≠ (applyClear (frameIn own s)).station := by
    rw [(applyClear_inputs _).station]
    exact h.symm.imp id fun h => by rw [← hin.toInputsKept.station] at h; exact h
  rw [hreg]
  refine ⟨hempty.1, hempty.2.1, hempty.2.2, ?_, ?_, fun howed => ?_, fun howed halarm => ?_, fun howed halarm hm h => ?_,
    fun howed halarm => ?_, hkept.override, hkept.peers, hkept.meas, hkept.panel, fun hlaw h hq => ?_, fun r hrec hacked => ?_,
    fun hlaw htrue => ?_, fun hlaw hauto => ?_⟩
  · rw [clearResult, frameClosed_mem (x := plainCond .registerFull) rfl nofun (by decide),
      applyClear_mem (x := plainCond .registerFull) rfl nofun, storeRegister_fullCond]
    exact nofun
  · rw [clearResult, frameClosed_mem (x := plainCond .incidentSplit) rfl nofun (by decide),
      applyClear_mem (x := plainCond .incidentSplit) rfl nofun, storeRegister_splitCond]
    exact nofun
  · have hafter : afterClear s = clearRegister s.reg := if_neg (by simp [howed])
    rw [hafter]
    refine ⟨howed, ?_⟩
    unfold clearRegister
    rw [if_pos howed]
    cases s.reg.isoTimer <;> rfl
  · have hafter : afterClear s = oweDeclaration (clearRegister s.reg) := if_pos ⟨howed, halarm⟩
    rw [hafter]
    exact ⟨rfl, rfl⟩
  · rw [clearResult, frameClosed_fireDeclare (hquiet h)]
    refine applyClear_declares ?_ ?_ ?_ ?_
    · rw [frameIn_ctl]; exact ha
    · rw [hin.reg]; exact howed
    · rw [hin.panel]; exact halarm
    · rw [frameIn_ctl]; exact hm
  · have hafter : afterClear s = clearRegister s.reg := if_neg (by simp [halarm])
    rw [hafter]
    exact ⟨howed, if_neg (by simp [howed])⟩
  · rw [clearResult, frameClosed_fireDeclare (hquiet h)]
    refine applyClear_keeps_fireDeclare ?_
    cases own with
    | false => exact (otherFrameIn_ownKept s).declare.trans hq
    | true =>
      obtain ⟨a, hattempt, hclass, -⟩ := attempt_of_isOwnFrame hlaw.1 hown
      rw [frameIn, if_pos rfl, ownFrameOut_fireDeclare hattempt, clear_of_class hclass]
      exact hq
  · refine frameClosed_record hacked (by rw [hrec]; exact nofun) ?_
    exact (applyClear_reports _).record hacked (frameIn_reports own s hacked hrec)
  · subst htrue
    obtain ⟨a, hattempt, hclass, -⟩ := attempt_of_isOwnFrame hlaw.1 hown
    obtain ⟨-, hwire, -, hcount, hfail, hclear, -⟩ := lessRoles_eq_link (applyClear_lessRoles (ownFrameOut s))
    obtain ⟨-, hwire', -, -, -, hclear', -⟩ := lessReports_eq_link (endCond_lessReports (frameOut a s) (plainCond .txFail))
    obtain ⟨-, -, hcount', hfail', hattempt', hqueue'⟩ := frameClosed_link true
      { cls := 0, station := z, words := [w] } s (applyClear (ownFrameOut s))
    have hout := ownFrameOut_counts hown
    have hempty' : (ownFrameOut s).link.attempt = none ∧ (ownFrameOut s).link.queue.clear = false := by
      rw [ownFrameOut_eq hattempt, hwire', hclear', frameOut, clear_of_class hclass]
      exact ⟨rfl, rfl⟩
    have hend : plainCond .txFail ∉ (applyClear (ownFrameOut s)).trouble.active := by
      rw [applyClear_mem (x := plainCond .txFail) rfl nofun, storeRegister_mem _ (by decide) (by decide)]
      exact ownFrameOut_txFail hattempt
    refine ⟨hqueue'.elim (fun h => h.trans (hclear.trans hempty'.2)) id,
      hattempt'.elim (fun h => h.trans (hwire.trans hempty'.1)) id, hcount'.trans (hcount.trans hout.1),
      hfail'.trans (hfail.trans hout.2), ?_⟩
    rw [clearResult, frameClosed_mem (x := plainCond .txFail) rfl nofun (by decide)]
    exact hend
  · refine frameClosed_roleNormal ?_ ?_ (applyClear_roleNormal ?_ ?_ fun hrecords => ?_)
    · rw [applyClear_reg (by rw [frameIn_ctl]; exact ha), afterClear, hin.reg, hin.panel]
      exact hempty.1
    · rw [(applyClear_inputs _).override, State.withReg_role, hin.override]
      exact hauto
    · rw [frameIn_ctl]; exact ha
    · rw [hin.override]; exact hauto
    · rw [RoleNormal, hin.role]
      rw [hin.reg] at hrecords
      exact roleNormal_of_roleLaw hlaw ha hrecords hauto
end

section
/-! An accepted STATUS: the Peer Table, the view at the register, and own STATUS at the composer: O40, O41 and O42 (R16, R17, R29,
R119, R124, R125, R127 to R130). -/

namespace Sys2Proof.Machine

variable {s t u v : State} {x : Cond} {r : FirstFault} {own : Bool} {z : Station} {w1 w2 w3 w4 : Word}

/-! ### The two blocks (R16, R124, R127) -/

/-- The first block: own STATUS at the composer, another's at the Peer Table. -/
def statusStored (own : Bool) (z : Station) (w1 : Word) (s : State) : State :=
  if own then ownStatusAccepted s
  else whenApplied (storeStatus z.toNat { mode := readMode w1, contain := readContain w1 }) s

/-- Then the view at the register. -/
def statusViewed (own : Bool) (z : Station) (w1 w2 w3 : Word) (s : State) : State :=
  whenApplied (applyView z w2 w3) (statusStored own z w1 s)

theorem applyStatus_eq (own : Bool) (z : Station) (w1 w2 w3 : Word) (s : State) : applyStatus own z w1 w2 w3 s
    = if (!own && movesNeighbour s z.toNat) || decide ((statusViewed own z w1 w2 w3 s).reg.records ≠ s.reg.records)
      then recompute (statusViewed own z w1 w2 w3 s) else statusViewed own z w1 w2 w3 s := rfl

/-- The record after own STATUS: the filling that it carried with the flag set is reported (R125). -/
def reported (x : Option Captured) (r : FirstFault) : FirstFault :=
  if x.any (fun c => c.fresh && decide (c.filling = some r.filling)) then { r with fresh := false } else r

/-- The composer after own STATUS, a pending one aside (R124, R125). -/
def composed (s : State) : State :=
  { s with
    trouble := { s.trouble with record := s.trouble.record.map (reported s.status.captured) }
    status := { period := some periodTime, earlyPending := false, captured := none } }

theorem ownStatusAccepted_eq (s : State) :
    ownStatusAccepted s = if s.status.earlyPending then queueStatus (composed s) else composed s := by
  unfold ownStatusAccepted composed
  cases hc : s.status.captured with
  | none =>
    have hid : s.trouble.record.map (reported none) = s.trouble.record := by cases s.trouble.record <;> rfl
    rw [hid]
    rfl
  | some c =>
    cases hr : s.trouble.record with
    | none =>
      dsimp only [Option.map_none]
      rw [← hr]
      rfl
    | some r =>
      by_cases h : (c.fresh && decide (c.filling = some r.filling)) = true
      · simp only [h, if_true, Option.map_some, reported, Option.any_some]
        rfl
      · have hid : some r = s.trouble.record := hr.symm
        simp only [h, if_false, Option.map_some, reported, Option.any_some, Bool.false_eq_true]
        rw [hid]
        rfl

theorem ownStatusAccepted_lessReports (s : State) : (ownStatusAccepted s).lessReports
    = (s.withStatus { period := some periodTime, earlyPending := false, captured := none }).lessReports := by
  rw [ownStatusAccepted_eq]
  split
  · exact queueStatus_lessReports _
  · rfl

/-- The first block leaves the register, the mode and the straps. -/
theorem statusStored_kept (own : Bool) (z : Station) (w1 : Word) (s : State) : (statusStored own z w1 s).ctl = s.ctl
    ∧ (statusStored own z w1 s).reg = s.reg ∧ (statusStored own z w1 s).role = s.role
    ∧ (statusStored own z w1 s).chans = s.chans ∧ (statusStored own z w1 s).meas = s.meas
    ∧ (statusStored own z w1 s).panel = s.panel := by
  unfold statusStored
  split
  · obtain ⟨hctl, hreg, hrole, hchans, -, hmeas, -, -, hpanel, -⟩ := lessReports_eq (ownStatusAccepted_lessReports s)
    exact ⟨hctl, hreg, hrole, hchans, hmeas, hpanel⟩
  · unfold whenApplied
    split
    · obtain ⟨hctl, hreg, hrole, hchans, -, hmeas, -, -, hpanel, -⟩ := lessReports_eq (storeStatus_lessReports s z.toNat
        { mode := readMode w1, contain := readContain w1 })
      have hset (y : Nat) (e : Peer) : (s.setPeer y e).ctl = s.ctl ∧ (s.setPeer y e).reg = s.reg
          ∧ (s.setPeer y e).role = s.role ∧ (s.setPeer y e).chans = s.chans ∧ (s.setPeer y e).meas = s.meas
          ∧ (s.setPeer y e).panel = s.panel := by
        unfold State.setPeer
        split <;> exact ⟨rfl, rfl, rfl, rfl, rfl, rfl⟩
      rw [hctl, hreg, hrole, hchans, hmeas, hpanel]
      split
      · exact ⟨rfl, rfl, rfl, rfl, rfl, rfl⟩
      · exact hset _ _
    · exact ⟨rfl, rfl, rfl, rfl, rfl, rfl⟩

/-- The register after a STATUS (R5, R16). -/
def afterView (z : Station) (w2 w3 : Word) (s : State) : IncidentRegister :=
  if z = 0 then s.reg else viewFrame s.station (readView w2 w3) s.reg

theorem statusViewed_lessReports (ha : s.ctl.mode.applies = true) : (statusViewed own z w1 w2 w3 s).lessReports
    = ((statusStored own z w1 s).withReg (afterView z w2 w3 s)).lessReports := by
  obtain ⟨hctl, hreg, -⟩ := statusStored_kept own z w1 s
  rw [statusViewed, whenApplied, if_pos (by rw [hctl]; exact ha), applyView, afterView]
  split
  · rw [← hreg]
    rfl
  · rw [storeRegister_lessReports, State.station, hctl, hreg]
    rfl

theorem statusViewed_idle (ha : s.ctl.mode.applies = false) : statusViewed own z w1 w2 w3 s = statusStored own z w1 s := by
  obtain ⟨hctl, -⟩ := statusStored_kept own z w1 s
  rw [statusViewed, whenApplied, if_neg (by rw [hctl, ha]; exact nofun)]

theorem applyStatus_lessRoles (ha : s.ctl.mode.applies = true) : (applyStatus own z w1 w2 w3 s).lessRoles
    = ((statusStored own z w1 s).withReg (afterView z w2 w3 s)).lessRoles := by
  have hviewed := lessRoles_of_lessSequencing (lessSequencing_of_lessReports (statusViewed_lessReports (own := own)
    (z := z) (w1 := w1) (w2 := w2) (w3 := w3) ha))
  rw [applyStatus_eq]
  split
  · rw [recompute_lessRoles, hviewed]
  · exact hviewed

/-- A change of a neighbour's entry, or of the list, is followed by a recompute (R29, R130). -/
def statusMoves (own : Bool) (z : Station) (w2 w3 : Word) (s : State) : Prop :=
  (own = false ∧ movesNeighbour s z.toNat = true) ∨ (afterView z w2 w3 s).records ≠ s.reg.records

theorem statusViewed_reg (ha : s.ctl.mode.applies = true) :
    (statusViewed own z w1 w2 w3 s).reg = afterView z w2 w3 s :=
  (lessReports_eq (statusViewed_lessReports ha)).2.1

theorem applyStatus_moved (ha : s.ctl.mode.applies = true) (h : statusMoves own z w2 w3 s) :
    applyStatus own z w1 w2 w3 s = recompute (statusViewed own z w1 w2 w3 s) := by
  rw [applyStatus_eq, statusViewed_reg ha]
  refine if_pos ?_
  rcases h with ⟨rfl, h⟩ | h
  · simp [h]
  · simp [h]

theorem applyStatus_still (ha : s.ctl.mode.applies = true) (h : ¬statusMoves own z w2 w3 s) :
    applyStatus own z w1 w2 w3 s = statusViewed own z w1 w2 w3 s := by
  rw [applyStatus_eq, statusViewed_reg ha]
  refine if_neg fun k => h ?_
  rw [Bool.or_eq_true, Bool.and_eq_true, Bool.not_eq_true', decide_eq_true_eq] at k
  exact k

/-! ### The frame -/

/-- The node after an accepted STATUS. -/
def statusResult (own : Bool) (z : Station) (w1 w2 w3 w4 : Word) (s : State) : State :=
  frameClosed own { cls := 5, station := z, words := [w1, w2, w3, w4] } s (applyStatus own z w1 w2 w3 (frameIn own s))

theorem exec_statusAccepted (hh : s.hears = true) : exec (.statusAccepted z w1 w2 w3 w4) s
    = .next (statusResult (isOwnFrame { cls := 5, station := z, words := [w1, w2, w3, w4] } s) z w1 w2 w3 w4 s) :=
  congrArg Host.Outcome.next (acceptFrame_eq _ _ _ hh)

theorem afterView_congr (h : InputsKept s u) : afterView z w2 w3 u = afterView z w2 w3 s := by
  rw [afterView, afterView, h.station, h.reg]

theorem statusMoves_congr (h : InputsKept s u) : statusMoves own z w2 w3 u ↔ statusMoves own z w2 w3 s := by
  rw [statusMoves, statusMoves, afterView_congr h, h.reg, movesNeighbour, movesNeighbour, isNeighbour, isNeighbour, h.station,
    h.cfg]

theorem statusResult_reg (ha : s.ctl.mode.applies = true) :
    (statusResult own z w1 w2 w3 w4 s).reg = afterView z w2 w3 s := by
  have hin := (frameIn_resolverKept own s).toInputsKept
  have ha' : (frameIn own s).ctl.mode.applies = true := by rw [frameIn_ctl]; exact ha
  rw [statusResult, (frameClosed_inputs _ _ _ _).reg, (lessRoles_eq (applyStatus_lessRoles ha')).2.1, ← afterView_congr hin]
  rfl

theorem statusResult_resolved (ha : s.ctl.mode.applies = true) (h : statusMoves own z w2 w3 s) :
    Resolved (statusResult own z w1 w2 w3 w4 s) := by
  have hin := (frameIn_resolverKept own s).toInputsKept
  have ha' : (frameIn own s).ctl.mode.applies = true := by rw [frameIn_ctl]; exact ha
  refine frameClosed_resolved ?_
  rw [applyStatus_moved ha' ((statusMoves_congr hin).mpr h)]
  refine recompute_resolved ?_
  rw [(lessReports_eq (statusViewed_lessReports ha')).1, State.withReg_ctl, (statusStored_kept _ _ _ _).1]
  exact ha'

/-- The conditions of the latches follow the register (R4). -/
theorem statusViewed_mem (hs : x ≠ plainCond .incidentSplit) (hf : x ≠ plainCond .registerFull) :
    x ∈ (statusViewed own z w1 w2 w3 s).trouble.active ↔ x ∈ (statusStored own z w1 s).trouble.active := by
  unfold statusViewed whenApplied applyView
  split
  · split
    · exact Iff.rfl
    · exact storeRegister_mem _ hs hf
  · exact Iff.rfl

theorem statusResult_mem (hx : x.code.ofChannel = false) (hc : x.code ≠ .containmentNotAchieved)
    (hm : x ≠ plainCond .stationConflict) : x ∈ (statusResult own z w1 w2 w3 w4 s).trouble.active
      ↔ x ∈ (statusViewed own z w1 w2 w3 (frameIn own s)).trouble.active := by
  rw [statusResult, frameClosed_mem hx hc hm, applyStatus_eq]
  split
  · exact recompute_mem hx hc
  · exact Iff.rfl

/-! ### Another station's STATUS at the Peer Table (R127, R128) -/

theorem storeStatus_peer (r : StatusRecord) (h0 : z ≠ 0) (hz : z.toNat ≠ s.station) (y : Station) :
    (storeStatus z.toNat r s).peer y.toNat
      = if y = z then heardPeer s.silence r (s.peer z.toNat) else s.peer y.toNat := by
  have hzero : z.toNat ≠ 0 := fun h => h0 (BitVec.eq_of_toNat_eq h)
  have hrange : 1 ≤ z.toNat ∧ z.toNat ≤ 63 := ⟨by omega, by have := z.isLt; omega⟩
  have hpeers : (storeStatus z.toNat r s).peers = (s.setPeer z.toNat (heardPeer s.silence r (s.peer z.toNat))).peers := by
    have h := (lessReports_eq (storeStatus_lessReports s z.toNat r)).2.2.2.2.2.2.2.1
    rw [if_neg (by simp [hzero, hz])] at h
    exact h
  have hpeer := peer_congr (congrArg PeerTable.entries hpeers) y.toNat
  rw [hpeer, State.peer_setPeer]
  by_cases hy : y = z
  · subst hy
    rw [if_pos ⟨rfl, hrange⟩, if_pos rfl]
  · rw [if_neg (fun k => hy (BitVec.eq_of_toNat_eq k.1.symm)), if_neg hy]

theorem storeStatus_listened (r : StatusRecord) (y : Nat) : (storeStatus y r s).peers.listened = s.peers.listened := by
  have h := (lessReports_eq (storeStatus_lessReports s y r)).2.2.2.2.2.2.2.1
  rw [h]
  unfold State.setPeer
  split
  · rfl
  · split <;> rfl

theorem storeStatus_silent (r : StatusRecord) (h0 : z ≠ 0) (hz : z.toNat ≠ s.station) (hn : z.toNat ∈ s.cfg.neighbours) :
    neighbourSilent z.toNat ∉ (storeStatus z.toNat r s).trouble.active := by
  have hzero : z.toNat ≠ 0 := fun h => h0 (BitVec.eq_of_toNat_eq h)
  have hcfg : (s.setPeer z.toNat (heardPeer s.silence r (s.peer z.toNat))).cfg = s.cfg := by
    unfold State.setPeer
    split <;> rfl
  unfold storeStatus
  rw [if_neg (by simp [hzero, hz])]
  dsimp only
  rw [if_pos (show isNeighbour _ _ = true from decide_eq_true (by rw [hcfg]; exact hn))]
  exact fun k => ((mem_endCond _ _ _).mp k).2 rfl

theorem readMode_eq (w : Word) : readMode w
    = if field w 15 14 = 0 then .listen else if field w 15 14 = 1 then .active else .lockout := by
  unfold readMode
  split
  · next h => rw [if_pos h]
  · next h => rw [if_neg (by omega), if_pos h]
  · next h0 h1 => rw [if_neg h0, if_neg h1]

theorem readContain_eq (w : Word) : readContain w = if field w 7 5 = 0 then .notApplicable
    else if field w 7 5 = 1 then .unsupervised else if field w 7 5 = 2 then .pending
    else if field w 7 5 = 3 then .achieved else .notAchieved := by
  unfold readContain
  split
  · next h => rw [if_pos h]
  · next h => rw [if_neg (by omega), if_pos h]
  · next h => rw [if_neg (by omega), if_neg (by omega), if_pos h]
  · next h => rw [if_neg (by omega), if_neg (by omega), if_neg (by omega), if_pos h]
  · next h0 h1 h2 h3 => rw [if_neg h0, if_neg h1, if_neg h2, if_neg h3]

theorem applyStatus_ctl (ha : s.ctl.mode.applies = true) : (applyStatus own z w1 w2 w3 s).ctl = s.ctl :=
  (lessRoles_eq (applyStatus_lessRoles ha)).1.trans (statusStored_kept own z w1 s).1

/-- Under another station's number, or as own frame, the detector does nothing. -/
theorem statusResult_quiet (ha : s.ctl.mode.applies = true) (hz : own = true ∨ z.toNat ≠ s.station) :
    statusResult own z w1 w2 w3 w4 s = settleRaises s (startTests (applyStatus own z w1 w2 w3 (frameIn own s))) := by
  have ha' : (frameIn own s).ctl.mode.applies = true := by rw [frameIn_ctl]; exact ha
  have hstation : (applyStatus own z w1 w2 w3 (frameIn own s)).station = s.station := by
    rw [State.station, applyStatus_ctl ha', frameIn_ctl]
    rfl
  rw [statusResult, frameClosed, detectConflict_idle (by rw [hstation]; exact hz)]

/-- The targets of a STATUS that moves the resolver are those of one recompute (R29, R40). -/
theorem statusResult_target (ha : s.ctl.mode.applies = true) (hz : own = true ∨ z.toNat ≠ s.station)
    (h : statusMoves own z w2 w3 s) (c : ChannelNo) (hc : (s.chCfg c).kind ≠ .unused) :
    ((statusResult own z w1 w2 w3 w4 s).ch c).target
      = resolveEntry ((s.chCfg c).row.column (statusResult own z w1 w2 w3 w4 s).role.role)
        (statusResult own z w1 w2 w3 w4 s).role.role (statusResult own z w1 w2 w3 w4 s).role.assist (s.ch c).target := by
  have hin := frameIn_resolverKept own s
  have ha' : (frameIn own s).ctl.mode.applies = true := by rw [frameIn_ctl]; exact ha
  obtain ⟨hctl, -, -, hchans, -⟩ := lessReports_eq (statusViewed_lessReports (own := own) (z := z) (w1 := w1) (w2 := w2)
    (w3 := w3) ha')
  obtain ⟨hctl', -, -, hchans', -⟩ := statusStored_kept own z w1 (frameIn own s)
  rw [statusResult_quiet ha hz, applyStatus_moved ha' ((statusMoves_congr hin.toInputsKept).mpr h)]
  have hctl : (statusViewed own z w1 w2 w3 (frameIn own s)).ctl = s.ctl := hctl.trans (hctl'.trans (frameIn_ctl own s))
  have hchans : (statusViewed own z w1 w2 w3 (frameIn own s)).chans = (frameIn own s).chans := hchans.trans hchans'
  generalize statusViewed own z w1 w2 w3 (frameIn own s) = y at *
  have hkept := frameClosed_resolverKept s (recompute y)
  have happlies : y.ctl.mode.applies = true := by rw [hctl]; exact ha
  have hcfg : (derived y).chCfg c = s.chCfg c := chCfg_congr (congrArg _ hctl) c
  have htarget : ((derived y).ch c).target = (s.ch c).target :=
    (congrArg (fun v : Vector Channel 12 => v[c.val].target) hchans).trans (hin.target c)
  rw [hkept.target, hkept.role, recompute_role y happlies, recompute_target happlies, newTarget]
  dsimp only
  rw [hcfg, if_neg hc, htarget]
  rfl

end Sys2Proof.Machine

open Sys2Proof Sys2Proof.Machine in
/-- Settles O40: the entry by its table, and one recompute from the state that both blocks have left. -/
theorem peerStatusMovesItsEntry : Obligations.PeerStatusMovesItsEntry := by
  intro z w1 w2 w3 w4 s hh ha h0 hz hown
  refine ⟨_, exec_statusAccepted hh, ?_⟩
  rw [hown]
  have hin := frameIn_resolverKept false s
  have ha' : (frameIn false s).ctl.mode.applies = true := by rw [frameIn_ctl]; exact ha
  have hz' : z.toNat ≠ (frameIn false s).station := by rw [hin.toInputsKept.station]; exact hz
  have hstored : statusStored false z w1 (frameIn false s)
      = storeStatus z.toNat { mode := readMode w1, contain := readContain w1 } (frameIn false s) := if_pos ha'
  have hreg := statusResult_reg (own := false) (z := z) (w1 := w1) (w2 := w2) (w3 := w3) (w4 := w4) ha
  have hmoves : statusMoves false z w2 w3 s
      ↔ z.toNat ∈ s.cfg.neighbours ∨ (statusResult false z w1 w2 w3 w4 s).reg.records ≠ s.reg.records := by
    have hzero : z.toNat ≠ 0 := fun h => h0 (BitVec.eq_of_toNat_eq h)
    rw [hreg]
    simp [statusMoves, movesNeighbour, isNeighbour, hzero, hz]
  have hall := applyStatus_lessRoles (own := false) (z := z) (w1 := w1) (w2 := w2) (w3 := w3) ha'
  have hclosed := frameClosed_resolverKept s (applyStatus false z w1 w2 w3 (frameIn false s))
  have hctl := (frameClosed_ctl s (applyStatus false z w1 w2 w3 (frameIn false s))).trans
    ((applyStatus_ctl ha').trans (frameIn_ctl false s))
  rw [← statusResult_quiet (w4 := w4) ha (.inr hz)] at hclosed hctl
  obtain ⟨-, -, hover, hmeas, hpeers, hpanel, -⟩ := lessRoles_eq hall
  obtain ⟨-, -, hrole', hchans', hmeas', hpanel'⟩ := statusStored_kept false z w1 (frameIn false s)
  have hpeer (y : Station) : (statusResult false z w1 w2 w3 w4 s).peer y.toNat = if y = z
      then heardPeer s.silence { mode := readMode w1, contain := readContain w1 } (s.peer z.toNat) else s.peer y.toNat := by
    have hsilence : (frameIn false s).silence = s.silence := by rw [State.silence, frameIn_ctl]; rfl
    have hold (y : Nat) : (frameIn false s).peer y = s.peer y := peer_congr (congrArg _ hin.peers) y
    rw [peer_congr (congrArg _ (hclosed.peers.trans hpeers)), hstored]
    refine (storeStatus_peer _ h0 hz' y).trans ?_
    rw [hsilence, hold, hold]
  have hself := (hpeer z).trans (if_pos rfl)
  rw [hself, ← hmoves, heardPeer, readMode_eq, readContain_eq]
  refine ⟨rfl, rfl, rfl, fun h => ?_, fun h hs => ?_, fun h hs hn => ?_, fun h hs hn => ?_, fun h => ?_,
    fun y hy => (hpeer y).trans (if_neg hy), ?_, fun hn => ?_, fun h => ?_, fun h c hc => ?_, fun hn hsame => ?_,
    hctl, hclosed.meas.trans (hmeas.trans (hmeas'.trans hin.meas)),
    hclosed.panel.trans (hpanel.trans (hpanel'.trans hin.panel)),
    hclosed.override.trans (hover.trans ((congrArg Resolver.override hrole').trans hin.override))⟩
  · rcases h with h | h <;> rw [h] <;> exact ⟨rfl, rfl⟩
  · rw [h, hs]
    exact ⟨rfl, rfl⟩
  · obtain ⟨n, hs⟩ := Option.isSome_iff_exists.mp hs
    simp [h, hs, hn]
  · obtain ⟨n, hs⟩ := Option.isSome_iff_exists.mp hs
    simp [h, hs, hn]
  · rw [h]
    exact ⟨rfl, rfl⟩
  · rw [hclosed.peers, hpeers, State.withReg_peers, hstored, storeStatus_listened, hin.peers]
  · have hn' : z.toNat ∈ (frameIn false s).cfg.neighbours := by rw [hin.toInputsKept.cfg]; exact hn
    rw [statusResult_mem (x := neighbourSilent z.toNat) rfl nofun nofun, statusViewed_mem
      (x := neighbourSilent z.toNat) nofun nofun, hstored]
    exact storeStatus_silent _ h0 hz' hn'
  · have hresolved := statusResult_resolved (w1 := w1) (w4 := w4) ha h
    exact ⟨hresolved.role, hresolved.assist, hresolved.fireMode⟩
  · exact statusResult_target ha (.inr hz) h c hc
  · have hstill : ¬statusMoves false z w2 w3 (frameIn false s) := by
      rw [statusMoves_congr hin.toInputsKept, hmoves, hsame]
      simp [hn]
    have happlied := applyStatus_still (w1 := w1) ha' hstill
    obtain ⟨-, -, hrole, hchans, -⟩ := lessReports_eq (statusViewed_lessReports (own := false) (z := z) (w1 := w1)
      (w2 := w2) (w3 := w3) ha')
    refine ⟨?_, fun c => ?_⟩
    · rw [hclosed.role, happlied, hrole, State.withReg_role, hrole', hin.role]
    · rw [hclosed.target, happlied, ← hin.target]
      exact congrArg (fun v : Vector Channel 12 => v[c.val].target) (hchans.trans hchans')

namespace Sys2Proof.Machine

variable {s t u v : State} {own : Bool} {z : Station} {w1 w2 w3 w4 : Word}

/-! ### The view at the register (R16, R17) -/

theorem readView_none (h : field w2 13 8 = 0) : readView w2 w3 = none := if_pos h

theorem readView_some {v : View} (h : readView w2 w3 = some v) : v.primary = field w2 13 8
    ∧ v.extensions = keepFirst ([field w2 5 0, field w3 13 8].filter (fun e => decide (e ≠ 0 ∧ e ≠ v.primary))) := by
  unfold readView at h
  dsimp only at h
  split at h
  · cases h
  · obtain rfl := Option.some.inj h
    exact ⟨rfl, rfl⟩

theorem mem_keepFirst {y : Nat} {l : List Nat} : y ∈ keepFirst l ↔ y ∈ l := by
  induction l with
  | nil => exact Iff.rfl
  | cons x l ih =>
    simp only [keepFirst, List.mem_cons, List.mem_filter, ih, decide_eq_true_eq]
    by_cases h : y = x <;> simp [h]

/-- Of two extension fields, 0, the primary and a repeat are dropped (R16). -/
theorem keepFirst_fields (p a b : Nat) : keepFirst ([a, b].filter (fun e => decide (e ≠ 0 ∧ e ≠ p)))
    = (if a ≠ 0 ∧ a ≠ p then [a] else []) ++ (if b ≠ 0 ∧ b ≠ p ∧ b ≠ a then [b] else []) := by
  by_cases ha : a ≠ 0 ∧ a ≠ p
  · by_cases hb : b ≠ 0 ∧ b ≠ p
    · by_cases hab : b = a
      · simp [ha, hab, keepFirst]
      · simp [ha, hb, hab, keepFirst]
    · have hb' : ¬(b ≠ 0 ∧ b ≠ p ∧ b ≠ a) := fun h => hb ⟨h.1, h.2.1⟩
      simp [ha, hb, hb', keepFirst]
  · by_cases hb : b ≠ 0 ∧ b ≠ p
    · have hab : b ≠ a := by rintro rfl; exact ha hb
      simp [ha, hb, hab, keepFirst]
    · have hb' : ¬(b ≠ 0 ∧ b ≠ p ∧ b ≠ a) := fun h => hb ⟨h.1, h.2.1⟩
      simp [ha, hb, hb', keepFirst]

theorem viewFrame_learns {o : Nat} {v : View} {reg : IncidentRegister} (h : reg.records = []) :
    viewFrame o (some v) reg = stopIfEntered o reg { reg with records := learnedRecords v } := if_pos h

theorem viewFrame_agrees {o : Nat} {v : View} {reg : IncidentRegister} (h : reg.records ≠ [])
    (hv : agrees v reg.records = true) : viewFrame o (some v) reg = reg := (if_neg h).trans (if_pos hv)

theorem viewFrame_merges {o : Nat} {v : View} {reg : IncidentRegister} (h : reg.records ≠ [])
    (hv : agrees v reg.records = false) : viewFrame o (some v) reg = stopIfEntered o reg (mergeView v reg) :=
  (if_neg h).trans (if_neg (by rw [hv]; exact nofun))

theorem viewFrame_isoTimer (o : Nat) (v : Option View) (reg : IncidentRegister) : (viewFrame o v reg).isoTimer
    = if holdsZone o reg.records = false ∧ holdsZone o (viewFrame o v reg).records = true then none else reg.isoTimer := by
  have hsame : ¬(holdsZone o reg.records = false ∧ holdsZone o reg.records = true) := by
    rintro ⟨hf, ht⟩
    rw [hf] at ht
    cases ht
  cases v with
  | none => exact (if_neg hsame).symm
  | some v =>
    by_cases hne : reg.records = []
    · rw [viewFrame_learns hne, stopIfEntered_isoTimer, stopIfEntered_records]
    · cases hv : agrees v reg.records with
      | true => rw [viewFrame_agrees hne hv, if_neg hsame]
      | false => rw [viewFrame_merges hne hv, stopIfEntered_isoTimer, stopIfEntered_records, mergeView_isoTimer]

theorem statusResult_splitCond (ha : s.ctl.mode.applies = true) (h0 : z ≠ 0) :
    plainCond .incidentSplit ∈ (statusResult own z w1 w2 w3 w4 s).trouble.active
      ↔ (afterView z w2 w3 s).splitLatch = true := by
  have hin := (frameIn_resolverKept own s).toInputsKept
  have ha' : (frameIn own s).ctl.mode.applies = true := by rw [frameIn_ctl]; exact ha
  obtain ⟨hctl, hreg, -⟩ := statusStored_kept own z w1 (frameIn own s)
  rw [statusResult_mem (x := plainCond .incidentSplit) rfl nofun (by decide), statusViewed, whenApplied,
    if_pos (by rw [hctl]; exact ha'), applyView, if_neg h0, storeRegister_splitCond, ← afterView_congr hin, afterView,
    if_neg h0, hreg, State.station, hctl]
  rfl

end Sys2Proof.Machine

open Sys2Proof Sys2Proof.Machine in
/-- Settles O41: the register after the frame is the view's, whichever station sent it. -/
theorem statusViewAtTheRegister : Obligations.StatusViewAtTheRegister := by
  intro z w1 w2 w3 w4 s hh ha h0 hlist
  refine ⟨_, exec_statusAccepted hh, ?_⟩
  generalize isOwnFrame { cls := 5, station := z, words := [w1, w2, w3, w4] } s = own
  have hafter : afterView z w2 w3 s = viewFrame s.station (readView w2 w3) s.reg := if_neg h0
  have hsplit := statusResult_splitCond (own := own) (w1 := w1) (w2 := w2) (w3 := w3) (w4 := w4) ha h0
  have hreg : (statusResult own z w1 w2 w3 w4 s).reg = viewFrame s.station (readView w2 w3) s.reg :=
    (statusResult_reg ha).trans hafter
  refine ⟨fun h => ?_, fun v hv => ?_, fun v hv hne => ?_, fun v hv hne hagrees => ?_, fun v hv hne hagrees => ?_, ?_, ?_,
    fun h _ => ?_, fun h => ?_⟩
  · rw [hreg, readView_none h]
    rfl
  · obtain ⟨hprimary, hext⟩ := readView_some hv
    refine ⟨hprimary, fun e => ?_, ?_, ?_⟩
    · rw [hext, mem_keepFirst]
      simp only [List.mem_filter, List.mem_cons, List.not_mem_nil, or_false, decide_eq_true_eq]
    · rw [hext]
      exact keepFirst_nodup _
    · exact hext.trans (keepFirst_fields _ _ _)
  · rw [hreg, hv, viewFrame_learns hne, stopIfEntered_records, (stopIfEntered_latches _ _ _).1,
      (stopIfEntered_latches _ _ _).2]
    exact ⟨rfl, rfl, rfl⟩
  · rw [hreg, hv, viewFrame_agrees hne hagrees]
  · rw [hreg, hv, viewFrame_merges hne hagrees, stopIfEntered_records, (stopIfEntered_latches _ _ _).1,
      (stopIfEntered_latches _ _ _).2]
    exact ⟨rfl, rfl, rfl⟩
  · rw [hreg, viewFrame_owed]
  · rw [hreg]
    exact viewFrame_isoTimer _ _ _
  · rw [hsplit, hafter, ← hreg]
    exact h
  · have hresolved : Resolved (statusResult own z w1 w2 w3 w4 s) :=
      statusResult_resolved ha (.inr (by rw [hafter, ← hreg]; exact h))
    exact ⟨hresolved.role, hresolved.fireMode⟩

namespace Sys2Proof.Machine

variable {s t u v : State} {z : Station} {w1 w2 w3 w4 : Word}

/-! ### Own STATUS at the composer (R119, R124, R125) -/

/-- With nothing on the wire no STATUS is marked to follow. -/
theorem ReportRun.unwired (h : ReportRun s t) : s.link.attempt = none →
    t.link.attempt = none ∧ t.status.earlyPending = s.status.earlyPending := by
  have hnotice (u : State) (hu : u.link.attempt = none) : (statusNotice u).link.attempt = none
      ∧ (statusNotice u).status.earlyPending = u.status.earlyPending := by
    unfold statusNotice queueStatus State.onWire
    rw [hu]
    split
    · exact ⟨hu, rfl⟩
    · exact ⟨hu, rfl⟩
  induction h with
  | quiet h => rw [h.attempt, h.early]; exact fun hs => ⟨hs, rfl⟩
  | raised c _ s =>
    intro hs
    unfold raise
    split
    · exact ⟨hs, rfl⟩
    · dsimp only
      split
      · exact hnotice _ hs
      · exact ⟨hs, rfl⟩
  | ended c s =>
    intro hs
    unfold endCond
    dsimp only
    split <;> exact ⟨hs, rfl⟩
  | noticed s => exact hnotice s
  | trans _ _ ih ih' =>
    intro hs
    obtain ⟨hattempt, hearly⟩ := ih hs
    obtain ⟨hattempt', hearly'⟩ := ih' hattempt
    exact ⟨hattempt', hearly'.trans hearly⟩

theorem queueStatus_unwired (h : s.link.attempt = none) : queueStatus s = s.setQueued .status true := by
  unfold queueStatus State.onWire
  rw [h]
  rfl

/-- What own STATUS leaves of the node besides the queue's place of STATUS. -/
theorem ownStatusAccepted_unwired (h : s.link.attempt = none) :
    ownStatusAccepted s = if s.status.earlyPending then (composed s).setQueued .status true else composed s := by
  rw [ownStatusAccepted_eq, queueStatus_unwired (s := composed s) h]

/-- Own STATUS moves the composer and the record, then the register and what a recompute moves. -/
theorem applyStatus_own_lessRoles (z : Station) (w1 w2 w3 : Word) (s : State) :
    ∃ q, (applyStatus true z w1 w2 w3 s).lessRoles = ((ownStatusAccepted s).withReg q).lessRoles := by
  cases ha : s.ctl.mode.applies with
  | true => exact ⟨_, applyStatus_lessRoles ha⟩
  | false =>
    obtain ⟨-, hreg, -⟩ := statusStored_kept true z w1 s
    refine ⟨(ownStatusAccepted s).reg, ?_⟩
    rw [applyStatus_eq, statusViewed_idle ha, if_neg (by simp [hreg])]
    rfl

theorem applyStatus_own_reports (z : Station) (w1 w2 w3 : Word) (s : State) :
    ReportRun (ownStatusAccepted s) (applyStatus true z w1 w2 w3 s) := by
  have hviewed : ReportRun (ownStatusAccepted s) (statusViewed true z w1 w2 w3 s) :=
    .ite (applyView_reports (ownStatusAccepted s) z w2 w3) (.refl _)
  rw [applyStatus_eq]
  exact .ite (hviewed.trans (recompute_reports _)) hviewed

/-- A latch already in step with its condition is followed by nothing (R4). -/
theorem followLatch_link {c : Cond} {b : Bool} (h : b = true → c ∈ s.trouble.active) : (followLatch c b s).link = s.link := by
  unfold followLatch
  split
  · next hb => rw [raise_idle s c (.inr (h hb))]
  · unfold endCond
    dsimp only
    split <;> rfl

/-- A register that has not moved, its conditions in step, is stored without a report. -/
theorem storeRegister_link (hs : s.reg.splitLatch = true → plainCond .incidentSplit ∈ s.trouble.active)
    (hf : s.reg.fullLatch = true → plainCond .registerFull ∈ s.trouble.active) : (storeRegister s.reg s).link = s.link := by
  unfold storeRegister
  dsimp only
  rw [if_pos rfl, followLatch_link fun h => ?_, followLatch_link (s := s.withReg s.reg) hs]
  · rfl
  · rw [mem_followLatch_of_ne (c := plainCond .registerFull) _ (by decide)]
    exact hf h

/-- Own STATUS with nothing pending reports nothing where its view leaves the register or does not reach it. -/
theorem applyStatus_own_silent (hattempt : s.link.attempt = none) (hearly : s.status.earlyPending = false)
    (h : viewFrame s.station (readView w2 w3) s.reg = s.reg ∨ z = 0 ∨ s.ctl.mode.applies = false)
    (hs : s.reg.splitLatch = true → plainCond .incidentSplit ∈ s.trouble.active)
    (hf : s.reg.fullLatch = true → plainCond .registerFull ∈ s.trouble.active) :
    (applyStatus true z w1 w2 w3 s).link = s.link := by
  have hstored : ownStatusAccepted s = composed s := by
    rw [ownStatusAccepted_unwired hattempt, hearly]
    rfl
  have hviewed : (statusViewed true z w1 w2 w3 s).link = s.link ∧ (statusViewed true z w1 w2 w3 s).reg = s.reg := by
    change (whenApplied (applyView z w2 w3) (ownStatusAccepted s)).link = s.link
      ∧ (whenApplied (applyView z w2 w3) (ownStatusAccepted s)).reg = s.reg
    rw [hstored, whenApplied, applyView]
    rcases h with h | h | h
    · split
      · split
        · exact ⟨rfl, rfl⟩
        · have hsame : viewFrame (composed s).station (readView w2 w3) (composed s).reg = (composed s).reg := h
          rw [hsame, storeRegister_link (s := composed s) hs hf, (lessReports_eq (storeRegister_lessReports _ _)).2.1]
          exact ⟨rfl, rfl⟩
      · exact ⟨rfl, rfl⟩
    · rw [if_pos h, ite_self]
      exact ⟨rfl, rfl⟩
    · rw [if_neg (show ¬(composed s).ctl.mode.applies = true from by rw [show (composed s).ctl = s.ctl from rfl, h]; exact nofun)]
      exact ⟨rfl, rfl⟩
  rw [applyStatus_eq, hviewed.2, if_neg (by simp)]
  exact hviewed.1

end Sys2Proof.Machine

open Sys2Proof Sys2Proof.Machine in
/-- Settles O42: the composer's part, and that the view's work at the register reports nothing that the clause excludes. -/
theorem ownStatusAcceptedRestartsThePeriod : Obligations.OwnStatusAcceptedRestartsThePeriod := by
  intro z w1 w2 w3 w4 s hh hattempt hsends
  have hown : isOwnFrame { cls := 5, station := z, words := [w1, w2, w3, w4] } s = true := by
    rw [isOwnFrame, hattempt]
    simp
  refine ⟨_, exec_statusAccepted hh, ?_⟩
  rw [hown]
  have hin := frameIn_resolverKept true s
  have hu : frameIn true s = { s with
      link := { s.link with
        line := .closed, run := 0, attempt := none, queue := { s.link.queue with status := false }
        failCount := 0, txFail := false }
      trouble := (endCond (plainCond .txFail) s).trouble } :=
    (ownFrameOut_eq hattempt).trans (endCond_withLink _ _ s)
  have hactive (x : Cond) (hx : x ≠ plainCond .txFail) :
      x ∈ (frameIn true s).trouble.active ↔ x ∈ s.trouble.active := by
    rw [hu, mem_endCond, and_iff_left hx]
  have hstatus : (frameIn true s).status = s.status := by rw [hu]
  have hlink : (frameIn true s).link = { s.link with
      line := .closed, run := 0, attempt := none, queue := { s.link.queue with status := false }
      failCount := 0, txFail := false } := by rw [hu]
  have hrecord (r : FirstFault) (hr : s.trouble.record = some r) (hacked : r.acked = false) :
      (frameIn true s).trouble.record = some r := frameIn_reports true s hacked hr
  have htx : plainCond .txFail ∉ (frameIn true s).trouble.active := ownFrameOut_txFail hattempt
  have hquiet : statusResult true z w1 w2 w3 w4 s
      = settleRaises s (startTests (applyStatus true z w1 w2 w3 (frameIn true s))) := by
    rw [statusResult, frameClosed, detectConflict_idle (.inl rfl)]
  have hctl := frameIn_ctl true s
  generalize hgen : frameIn true s = u at *
  have hwire : u.link.attempt = none := by rw [hlink]
  have hstored := ownStatusAccepted_unwired hwire
  have hreports := applyStatus_own_reports z w1 w2 w3 u
  obtain ⟨q, hroles⟩ := applyStatus_own_lessRoles z w1 w2 w3 u
  have hown' : (ownStatusAccepted u).link.attempt = none
      ∧ (ownStatusAccepted u).status = { period := some 2000, earlyPending := false, captured := none } := by
    rw [hstored]
    split
    · exact ⟨hwire, rfl⟩
    · exact ⟨hwire, rfl⟩
  obtain ⟨hattempt', hearly'⟩ := hreports.unwired hown'.1
  have hclosed := frameClosed_reportKept s (applyStatus true z w1 w2 w3 u)
  have hcomposer : (applyStatus true z w1 w2 w3 u).status = { period := some 2000, earlyPending := false, captured := none } := by
    obtain ⟨-, -, -, -, -, -, -, hperiod, hcaptured⟩ := lessRoles_eq_link hroles
    rw [State.withReg_status, hown'.2] at hperiod hcaptured
    rw [hown'.2] at hearly'
    cases h : (applyStatus true z w1 w2 w3 u).status
    rw [h] at hperiod hcaptured hearly'
    exact congr (congr (congrArg Composer.mk hperiod) hearly') hcaptured
  have hframe := frameClosed_link true { cls := 5, station := z, words := [w1, w2, w3, w4] } s
    (applyStatus true z w1 w2 w3 u)
  have hvlink := link_of_lessRoles hroles
  rw [State.withReg_link, link_of_lessReports (ownStatusAccepted_lessReports u), State.withStatus_link, hlink] at hvlink
  obtain ⟨hvctl, -, hvover, hvmeas, hvpeers, hvpanel, -⟩ := lessRoles_eq hroles
  obtain ⟨hsctl, -, hsrole, -, -, hsmeas, -, hspeers, hspanel, -⟩ := lessReports_eq (ownStatusAccepted_lessReports u)
  have hkept := frameClosed_resolverKept s (applyStatus true z w1 w2 w3 u)
  rw [statusResult, hgen] at hquiet
  rw [statusResult, hgen]
  obtain ⟨hline, hrun, hcount, hfail, hwire', -⟩ := hframe
  refine ⟨by rw [hquiet]; exact hclosed.composer.trans hcomposer, fun hearly => ?_, fun hearly hview hlaw => ?_,
    hline.trans (by rw [hvlink]), hrun.trans (by rw [hvlink]), hwire'.elim (fun h => h.trans hattempt') id,
    hcount.trans (by rw [hvlink]), hfail.trans (by rw [hvlink]), ?_, fun r hr hacked => ?_, ?_, ?_, ?_, ?_, ?_⟩
  · have howed : StatusOwed (ownStatusAccepted u) := by
      rw [hstored, if_pos (by rw [hstatus]; exact hearly)]
      exact .inl rfl
    rw [hquiet, hclosed.queued]
    refine (hreports.owed howed).resolve_right ?_
    rw [hcomposer]
    exact nofun
  · have hreset : s.inReset = false := by
      unfold State.hears at hh
      simp only [Bool.and_eq_true, Bool.not_eq_true'] at hh
      exact hh.1
    obtain ⟨-, hstep, -⟩ := conditionLaw_iff.mp hlaw
    have hsilent : (applyStatus true z w1 w2 w3 u).link = u.link := by
      refine applyStatus_own_silent hwire (by rw [hstatus]; exact hearly) ?_ (fun hs => ?_) (fun hf => ?_)
      · rw [hin.toInputsKept.station, hin.reg, hctl]
        exact hview.imp id (Or.imp id fun h => by rw [h]; rfl)
      · rw [hin.reg] at hs
        exact (hactive _ (by decide)).mpr ((hstep hreset (plainCond .incidentSplit) rfl).mpr ⟨hs, rfl⟩)
      · rw [hin.reg] at hf
        exact (hactive _ (by decide)).mpr ((hstep hreset (plainCond .registerFull) rfl).mpr ⟨hf, rfl⟩)
    rw [hquiet, hclosed.queued, hsilent, hlink]
  · have hmem : plainCond .txFail ∈ (ownStatusAccepted u).trouble.active ↔ plainCond .txFail ∈ u.trouble.active := by
      rw [hstored]
      split <;> exact Iff.rfl
    rw [← hgen] at hmem htx ⊢
    have h := statusResult_mem (own := true) (z := z) (w1 := w1) (w2 := w2) (w3 := w3) (w4 := w4) (s := s)
      (x := plainCond .txFail) rfl nofun (by decide)
    rw [statusResult, statusViewed_mem (x := plainCond .txFail) (by decide) (by decide)] at h
    exact h.not.mpr (hmem.not.mpr htx)
  · have hacked' : (reported s.status.captured r).acked = false := by
      unfold reported
      split <;> exact hacked
    have hstored' : (ownStatusAccepted u).trouble.record = some (reported s.status.captured r) := by
      have hcomposed : (composed u).trouble.record = some (reported s.status.captured r) := by
        rw [composed, hrecord r hr hacked, hstatus]
        rfl
      rw [hstored]
      split <;> exact hcomposed
    rw [frameClosed_record hacked' (by rw [hr]; exact nofun) (hreports.record hacked' hstored'), reported]
    congr 1
    simp only [Option.any_eq_true, Bool.and_eq_true, decide_eq_true_eq]
  · rw [hquiet, hkept.peers, hvpeers, State.withReg_peers, hspeers]
    exact hin.peers
  · rw [hquiet, frameClosed_ctl, hvctl, State.withReg_ctl, hsctl]
    exact hctl
  · rw [hquiet, hkept.meas, hvmeas, State.withReg_meas, hsmeas]
    exact hin.meas
  · rw [hquiet, hkept.panel, hvpanel, State.withReg_panel, hspanel]
    exact hin.panel
  · rw [hquiet, hkept.override, hvover, State.withReg_role, hsrole]
    exact hin.override
end

section
/-! Merge, step by step: O21 (R19 to R22). -/

namespace Sys2Proof.Machine

variable {p : Nat} {e : List Nat} {v : View} {rs : List Record} {x : List Record × Bool}

/-! ### The new view (R19) -/

theorem mergedPrimary_comm (a b : Nat) : mergedPrimary a b = mergedPrimary b a := by
  rcases mergedPrimary_cases a b with ⟨rfl, -⟩ | ⟨hne, h⟩
  · rfl
  · rw [h, mergedPrimary, if_neg (Ne.symm hne), min_comm, max_comm]

theorem mergedPrimary_fst (a b : Nat) : (mergedPrimary a b).1 = min a b := by
  rcases mergedPrimary_cases a b with ⟨rfl, h⟩ | ⟨-, h⟩
  · rw [h, min_self]
  · rw [h]

theorem mergedPrimary_snd (a b : Nat) : (mergedPrimary a b).2 = if a = b then none else some (max a b) := by
  unfold mergedPrimary
  split <;> rfl

theorem mergedExtensions_comm (p : Nat) (x : Option Nat) (a b : List Nat) :
    mergedExtensions p x a b = mergedExtensions p x b a := by
  unfold mergedExtensions
  simp only [or_comm]

/-- The zones that R19 chooses from, in ascending number. -/
def candidates (p : Nat) (x : Option Nat) (eo ef : List Nat) : List Nat :=
  allZones.filter (fun z => decide ((z ∈ eo ∨ z ∈ ef) ∧ z ≠ p ∧ some z ≠ x))

theorem allZones_sorted : allZones.Pairwise (· < ·) := by decide

theorem candidates_sorted (p : Nat) (x : Option Nat) (eo ef : List Nat) : (candidates p x eo ef).Pairwise (· < ·) :=
  allZones_sorted.filter _

theorem mergedExtensions_eq (p : Nat) (x : Option Nat) (eo ef : List Nat) :
    mergedExtensions p x eo ef = x.toList ++ (candidates p x eo ef).take (2 - x.toList.length) := rfl

/-- Of an ascending list, what a front part leaves out is larger than all of it, and the front part is full. -/
theorem lt_of_not_mem_take {l : List Nat} (h : l.Pairwise (· < ·)) {n z : Nat} (hz : z ∈ l) (hout : z ∉ l.take n) :
    (l.take n).length = n ∧ ∀ y ∈ l.take n, y < z := by
  have hdrop : z ∈ l.drop n := by
    rw [← List.take_append_drop n l, List.mem_append] at hz
    exact hz.resolve_left hout
  have hlen : n ≤ l.length := by
    by_contra hlt
    rw [List.drop_eq_nil_of_le (Nat.le_of_lt (Nat.lt_of_not_le hlt))] at hdrop
    cases hdrop
  rw [← List.take_append_drop n l, List.pairwise_append] at h
  exact ⟨List.length_take_of_le hlen, fun y hy => h.2.2 y hy z hdrop⟩

/-! ### Room for an append (R21) -/

/-- The last record that satisfies the test leaves. -/
theorem dropLastWhere_spec {test : Record → Bool} (h : rs.any test = true) :
    ∃ before r after, rs = before ++ r :: after ∧ dropLastWhere test rs = before ++ after ∧ test r = true
      ∧ ∀ y ∈ after, test y = false := by
  induction rs with
  | nil => cases h
  | cons r rs ih =>
    cases hrest : rs.any test with
    | true =>
      obtain ⟨before, q, after, heq, hdrop, hq, hafter⟩ := ih hrest
      refine ⟨r :: before, q, after, by rw [heq]; rfl, ?_, hq, hafter⟩
      rw [dropLastWhere, if_pos hrest, hdrop]
      rfl
    | false =>
      have hr : test r = true := by
        rw [List.any_cons, hrest, Bool.or_false] at h
        exact h
      refine ⟨[], r, rs, rfl, ?_, hr, fun y hy => ?_⟩
      · rw [dropLastWhere, if_neg (by rw [hrest]; exact nofun), if_pos hr]
        rfl
      · exact Bool.eq_false_iff.mpr (List.any_eq_false.mp hrest y hy)

theorem makeRoom_spec (p : Nat) (e : List Nat) (h : ∃ y ∈ rs, y.standing = .secondary) :
    RoomMade p e rs (makeRoom p e rs) := by
  have hlearned (y : Record) : (decide (y.standing = .secondary) && decide (y.source = .learned)) = true
      ↔ y.standing = .secondary ∧ y.source = .learned := by
    rw [Bool.and_eq_true, decide_eq_true_eq, decide_eq_true_eq]
  have hremote (y : Record) : (decide (y.standing = .secondary) && !(p :: e).any (fun z => decide (z ∈ y.neighbours))) = true
      ↔ y.standing = .secondary ∧ ∀ z ∈ p :: e, z ∉ y.neighbours := by
    rw [Bool.and_eq_true, decide_eq_true_eq, Bool.not_eq_true', List.any_eq_false]
    simp only [decide_eq_true_eq]
  unfold makeRoom
  dsimp only
  split
  · next hany =>
    obtain ⟨before, r, after, heq, hdrop, hr, hafter⟩ := dropLastWhere_spec hany
    refine ⟨before, r, after, heq, hdrop, .inl ⟨(hlearned r).mp hr, fun y hy k => ?_⟩⟩
    exact Bool.eq_false_iff.mp (hafter y hy) ((hlearned y).mpr k)
  · next hnone =>
    have hnone : ∀ y ∈ rs, ¬(y.standing = .secondary ∧ y.source = .learned) := fun y hy k =>
      hnone (List.any_eq_true.mpr ⟨y, hy, (hlearned y).mpr k⟩)
    split
    · next hany =>
      obtain ⟨before, r, after, heq, hdrop, hr, hafter⟩ := dropLastWhere_spec hany
      refine ⟨before, r, after, heq, hdrop, .inr (.inl ⟨hnone, (hremote r).mp hr, fun y hy k => ?_⟩)⟩
      exact Bool.eq_false_iff.mp (hafter y hy) ((hremote y).mpr k)
    · next hnear =>
      have hnear : ∀ y ∈ rs, ¬(y.standing = .secondary ∧ ∀ z ∈ p :: e, z ∉ y.neighbours) := fun y hy k =>
        hnear (List.any_eq_true.mpr ⟨y, hy, (hremote y).mpr k⟩)
      have hany : rs.any (fun y => decide (y.standing = .secondary)) = true := by
        obtain ⟨y, hy, hst⟩ := h
        exact List.any_eq_true.mpr ⟨y, hy, decide_eq_true hst⟩
      obtain ⟨before, r, after, heq, hdrop, hr, hafter⟩ := dropLastWhere_spec hany
      exact ⟨before, r, after, heq, hdrop, .inr (.inr ⟨fun y hy => ⟨hnone y hy, hnear y hy⟩, of_decide_eq_true hr,
        fun y hy => of_decide_eq_false (hafter y hy)⟩)⟩

/-! ### The appends (R20) -/

theorem appendMerged_append (h : MergeLaw p e x.1) (he : e.length ≤ 2) (zone : Nat) (st : Standing) :
    MergeAppend p e zone st x (appendMerged p e zone st x) := by
  unfold appendMerged
  refine ⟨fun hin => if_pos (holdsZone_iff.mpr hin), fun hout hroom => ?_, fun hout hfull => ⟨makeRoom p e x.1, ?_, ?_⟩⟩
  · rw [if_neg (mt holdsZone_iff.mp hout), if_neg (show ¬maxRecords ≤ x.1.length from Nat.not_le.mpr hroom)]
    rfl
  · exact makeRoom_spec p e (h.exists_secondary he hfull)
  · rw [if_neg (mt holdsZone_iff.mp hout), if_pos (show maxRecords ≤ x.1.length from hfull)]
    rfl

theorem foldl_appendMerged_appends (he : e.length ≤ 2) (l : List Nat) (h : MergeLaw p e x.1)
    (hl : ∀ z ∈ l, z ∈ e ∧ z ≠ p ∧ 1 ≤ z ∧ z ≤ 63) :
    MergeAppends p e (l.map (fun z => (z, .extension))) x
      (l.foldl (fun x z => appendMerged p e z .extension x) x) := by
  induction l generalizing x with
  | nil => exact rfl
  | cons z l ih =>
    obtain ⟨hz, hl⟩ := List.forall_mem_cons.mp hl
    have hst : mergedStanding p e z = .extension := by rw [mergedStanding, if_neg hz.2.1, if_pos hz.1]
    have hlaw := (appendMerged_law (zone := z) h he hz.2.2).1
    rw [hst] at hlaw
    exact ⟨_, appendMerged_append h he z _, ih hlaw hl⟩

theorem appendMerged_latch (p : Nat) (e : List Nat) (zone : Nat) (st : Standing) (h : x.2 = true) :
    (appendMerged p e zone st x).2 = true := by
  unfold appendMerged
  split
  · exact h
  · split
    · rfl
    · exact h

/-- Step 3 of R20 on an ascending list of zones: the absent ones are appended while there is room. -/
theorem foldl_appendRemaining_eq {zs : List Nat} (hzs : zs.Nodup) (l : List Record) (hl : l.length ≤ 16) (full : Bool) :
    zs.foldl (fun x z => appendRemaining z x) (l, full)
      = (l ++ ((zs.filter (fun z => decide (z ∉ l.map (·.zone)))).map (fun z => learnedRecord z .secondary)).take
          (16 - l.length),
        full || decide (16 < l.length + (zs.filter (fun z => decide (z ∉ l.map (·.zone)))).length)) := by
  induction zs generalizing l full with
  | nil => simp [hl]
  | cons z zs ih =>
    obtain ⟨hz, hzs⟩ := List.nodup_cons.mp hzs
    rw [List.foldl_cons]
    by_cases hin : z ∈ l.map (·.zone)
    · have hidle : appendRemaining z (l, full) = (l, full) := if_pos (holdsZone_iff.mpr hin)
      rw [hidle, ih hzs l hl, List.filter_cons_of_neg (by simpa using hin)]
    · have hcons : (z :: zs).filter (fun z => decide (z ∉ l.map (·.zone)))
          = z :: zs.filter (fun z => decide (z ∉ l.map (·.zone))) := List.filter_cons_of_pos (by simpa using hin)
      rw [hcons]
      by_cases hfull : 16 ≤ l.length
      · have hlatched : appendRemaining z (l, full) = (l, true) :=
          (if_neg (mt holdsZone_iff.mp hin)).trans (if_pos hfull)
        have hover : 16 < l.length + (z :: zs.filter (fun z => decide (z ∉ l.map (·.zone)))).length := by
          rw [List.length_cons]
          omega
        rw [hlatched, ih hzs l hl, decide_eq_true hover, Bool.or_true, Bool.true_or, Nat.sub_eq_zero_of_le hfull,
          List.take_zero, List.take_zero]
      · have happended : appendRemaining z (l, full) = (l ++ [learnedRecord z .secondary], full) :=
          (if_neg (mt holdsZone_iff.mp hin)).trans (if_neg hfull)
        have hlen : (l ++ [learnedRecord z .secondary]).length = l.length + 1 := by simp
        have hsame : zs.filter (fun y => decide (y ∉ (l ++ [learnedRecord z .secondary]).map (·.zone)))
            = zs.filter (fun y => decide (y ∉ l.map (·.zone))) := by
          refine List.filter_congr fun y hy => decide_eq_decide.mpr ?_
          have hne : y ≠ z := ne_of_mem_of_not_mem hy hz
          simp [learnedRecord, hne]
        have hroom : 16 - l.length = (16 - (l.length + 1)) + 1 := by omega
        rw [happended, ih hzs _ (by rw [hlen]; omega), hsame, hlen, hroom, List.map_cons, List.take_succ_cons,
          List.append_assoc, List.length_cons, Nat.add_right_comm, Nat.add_assoc]
        rfl

theorem appendRemaining_latch (z : Nat) (h : x.2 = true) : (appendRemaining z x).2 = true := by
  unfold appendRemaining
  split
  · exact h
  · split
    · rfl
    · exact h

/-- Steps 1 and 2 of R20. -/
def mergeAppended (p : Nat) (e : List Nat) (rs : List Record) (full : Bool) : List Record × Bool :=
  e.foldl (fun x z => appendMerged p e z .extension x) (appendMerged p e p .primary (rs.map (restand p e), full))

theorem mergeRecords_eq (p : Nat) (e : List Nat) (v : View) (rs : List Record) (full : Bool) : mergeRecords p e v rs full
    = (allZones.filter (fun z => decide (z = v.primary ∨ z ∈ v.extensions))).foldl (fun x z => appendRemaining z x)
      (mergeAppended p e rs full) := rfl

theorem mergeAppended_law (full : Bool) (h : ListLaw rs) (he : e.length ≤ 2) (hp : 1 ≤ p ∧ p ≤ 63)
    (hext : ∀ z ∈ e, z ≠ p ∧ 1 ≤ z ∧ z ≤ 63) : MergeLaw p e (mergeAppended p e rs full).1
      ∧ MergeAppends p e ((p, .primary) :: e.map (fun z => (z, .extension))) (rs.map (restand p e), full)
        (mergeAppended p e rs full) := by
  have hst : mergedStanding p e p = .primary := if_pos rfl
  have hrestood : MergeLaw p e (rs.map (restand p e), full).1 := mergeLaw_restand p e h
  obtain ⟨hlaw, -⟩ := appendMerged_law (zone := p) hrestood he hp
  rw [hst] at hlaw
  exact ⟨(foldl_appendMerged_law he e _ hlaw fun z hz => ⟨hz, hext z hz⟩).1, _, appendMerged_append hrestood he p _,
    foldl_appendMerged_appends he e hlaw fun z hz => ⟨hz, hext z hz⟩⟩

/-- REGISTER-FULL, once latched, stays so through a merge. -/
theorem mergeRecords_latch (p : Nat) (e : List Nat) (v : View) (rs : List Record) : (mergeRecords p e v rs true).2 = true := by
  have hfold {f : List Record × Bool → Nat → List Record × Bool} (hf : ∀ x z, x.2 = true → (f x z).2 = true) (l : List Nat)
      (x : List Record × Bool) (hx : x.2 = true) : (l.foldl f x).2 = true := by
    induction l generalizing x with
    | nil => exact hx
    | cons z l ih => exact ih _ (hf x z hx)
  exact hfold (fun _ z h => appendRemaining_latch z h) _ _
    (hfold (fun _ z h => appendMerged_latch p e z _ h) e _ (appendMerged_latch p e p _ rfl))

/-- The view of a list with the standings of a merge is the new view (R19, R20). -/
theorem MergeLaw.view (h : MergeLaw p e rs) (hview : ∀ y ∈ p :: e, y ∈ rs.map (·.zone)) (hext : ∀ z ∈ e, z ≠ p)
    (hlist : ListLaw rs) : primaryOf rs = p ∧ ∀ z, z ∈ extensionsOf rs ↔ z ∈ e := by
  obtain ⟨q, hq, hzone⟩ := List.mem_map.mp (hview p List.mem_cons_self)
  have hne : rs ≠ [] := List.ne_nil_of_mem hq
  obtain ⟨r, hr, hst, hprimary, honly⟩ := primaryOf_spec hlist hne
  refine ⟨?_, fun z => ?_⟩
  · rw [hprimary, ← honly q hq (by rw [h.standing q hq, hzone, mergedStanding, if_pos rfl]), hzone]
  · rw [mem_extensionsOf]
    constructor
    · rintro ⟨y, hy, hyst, rfl⟩
      rw [h.standing y hy, mergedStanding] at hyst
      split_ifs at hyst with hp hmem
      exact hmem
    · intro hz
      obtain ⟨y, hy, rfl⟩ := List.mem_map.mp (hview z (List.mem_cons_of_mem _ hz))
      exact ⟨y, hy, by rw [h.standing y hy, mergedStanding, if_neg (hext _ hz), if_pos hz], rfl⟩

/-! ### The merge of a view (R19 to R22) -/

/-- The choice of R19: the demoted primary, then the lowest candidates in ascending number. -/
theorem mergedExtensions_slots {x : Option Nat} {eo ef : List Nat} (hzones : ∀ z, z ∈ eo ∨ z ∈ ef → 1 ≤ z ∧ z ≤ 63) :
    ∃ slots : List Nat, mergedExtensions p x eo ef = x.toList ++ slots ∧ slots.Pairwise (· < ·)
      ∧ (∀ z ∈ slots, (z ∈ eo ∨ z ∈ ef) ∧ z ≠ p ∧ some z ≠ x)
      ∧ ∀ z, (z ∈ eo ∨ z ∈ ef) ∧ z ≠ p ∧ some z ≠ x → z ∉ slots →
        (mergedExtensions p x eo ef).length = 2 ∧ ∀ y ∈ slots, y < z := by
  have hsorted := candidates_sorted p x eo ef
  have hx : x.toList.length ≤ 2 := by cases x <;> simp
  refine ⟨_, mergedExtensions_eq p x eo ef, hsorted.sublist (List.take_sublist _ _), fun z hz => ?_, fun z hz hout => ?_⟩
  · exact of_decide_eq_true (List.mem_filter.mp (List.mem_of_mem_take hz)).2
  · have hin : z ∈ candidates p x eo ef :=
      List.mem_filter.mpr ⟨mem_allZones.mpr (hzones z hz.1), decide_eq_true hz⟩
    obtain ⟨hfull, hlow⟩ := lt_of_not_mem_take hsorted hin hout
    refine ⟨?_, hlow⟩
    rw [mergedExtensions_eq, List.length_append, hfull]
    omega

theorem extensionsOf_range (h : ListLaw rs) {z : Nat} (hz : z ∈ extensionsOf rs) : 1 ≤ z ∧ z ≤ 63 := by
  obtain ⟨-, -, -, -, hrec⟩ := h
  obtain ⟨r, hr, -, rfl⟩ := mem_extensionsOf.mp hz
  exact (hrec r hr).1

section
variable {reg : IncidentRegister} {px : Nat × Option Nat}

/-- Where the register has the new view already, a merge latches INCIDENT-SPLIT and moves nothing else. -/
theorem mergeView_of_agrees (hpx : mergedPrimary (primaryOf reg.records) v.primary = px)
    (he : mergedExtensions px.1 px.2 (extensionsOf reg.records) v.extensions = e)
    (h : agrees ⟨px.1, e⟩ reg.records = true) :
    mergeView v reg = { reg with splitLatch := reg.splitLatch || px.2.isSome } := by
  subst hpx he
  exact if_pos h

theorem mergeView_of_differs (hpx : mergedPrimary (primaryOf reg.records) v.primary = px)
    (he : mergedExtensions px.1 px.2 (extensionsOf reg.records) v.extensions = e)
    (h : agrees ⟨px.1, e⟩ reg.records = false) :
    (mergeView v reg).records = (mergeRecords px.1 e v reg.records reg.fullLatch).1
      ∧ (mergeView v reg).fullLatch = (mergeRecords px.1 e v reg.records reg.fullLatch).2 := by
  subst hpx he
  unfold mergeView
  dsimp only
  rw [if_neg (Bool.eq_false_iff.mp h)]
  exact ⟨rfl, rfl⟩

end

/-- The three steps of R20: the standings in their places, the appends of primary and extensions, then those of the frame's
zones. -/
theorem mergeRecords_steps (full : Bool) (h : ListLaw rs) (he : e.length ≤ 2) (hp : 1 ≤ p ∧ p ≤ 63)
    (hext : ∀ z ∈ e, z ≠ p ∧ 1 ≤ z ∧ z ≤ 63) :
    ∃ (l : List Record) (latch : Bool),
      MergeAppends p e ((p, .primary) :: e.map (fun z => (z, .extension))) (rs.map (restand p e), full) (l, latch)
      ∧ (mergeRecords p e v rs full).1 = l ++ ((allZones.filter
          (fun z => decide ((z = v.primary ∨ z ∈ v.extensions) ∧ z ∉ l.map (·.zone)))).map
            (fun z => learnedRecord z .secondary)).take (16 - l.length)
      ∧ (mergeRecords p e v rs full).2 = (latch || decide (16 < l.length + (allZones.filter
          (fun z => decide ((z = v.primary ∨ z ∈ v.extensions) ∧ z ∉ l.map (·.zone)))).length)) := by
  obtain ⟨hlaw, happends⟩ := mergeAppended_law full h he hp hext
  have hnodup : (allZones.filter (fun z => decide (z = v.primary ∨ z ∈ v.extensions))).Nodup :=
    (allZones_sorted.imp Nat.ne_of_lt).filter _
  have hfilter : (allZones.filter (fun z => decide (z = v.primary ∨ z ∈ v.extensions))).filter
        (fun z => decide (z ∉ (mergeAppended p e rs full).1.map (·.zone)))
      = allZones.filter (fun z => decide ((z = v.primary ∨ z ∈ v.extensions)
        ∧ z ∉ (mergeAppended p e rs full).1.map (·.zone))) := by
    rw [List.filter_filter]
    exact List.filter_congr fun z _ => by rw [Bool.decide_and, Bool.and_comm]
  have hrest := foldl_appendRemaining_eq hnodup _ hlaw.length (mergeAppended p e rs full).2
  rw [hfilter] at hrest
  rw [mergeRecords_eq, hrest]
  exact ⟨(mergeAppended p e rs full).1, (mergeAppended p e rs full).2, happends, rfl, rfl⟩

/-- After the merge the register's view is the new one (R19, R22). -/
theorem mergeView_view {reg : IncidentRegister} {px : Nat × Option Nat} (h : ListLaw reg.records) (hv : ViewLaw v)
    (hne : reg.records ≠ []) (hpx : mergedPrimary (primaryOf reg.records) v.primary = px)
    (he : mergedExtensions px.1 px.2 (extensionsOf reg.records) v.extensions = e) :
    primaryOf (mergeView v reg).records = px.1 ∧ ∀ z, z ∈ extensionsOf (mergeView v reg).records ↔ z ∈ e := by
  cases hagree : agrees ⟨px.1, e⟩ reg.records with
  | true =>
    obtain ⟨hprimary, hext⟩ := agrees_iff.mp hagree
    rw [mergeView_of_agrees hpx he hagree]
    exact ⟨hprimary.symm, fun z => (hext z).symm⟩
  | false =>
    obtain ⟨hrange, hext⟩ := merged_ranges (extensionsOf reg.records) v.extensions (primaryOf_range h hne) hv.1
    rw [hpx, he] at hext
    rw [hpx] at hrange
    have hlen : e.length ≤ 2 := by rw [← he]; exact mergedExtensions_length _ _ _
    obtain ⟨hlaw, hin⟩ := mergeRecords_law (v := v) reg.fullLatch h hlen hrange hext
    have hlist := mergeView_listLaw h hne hv
    rw [(mergeView_of_differs hpx he hagree).1] at hlist ⊢
    exact hlaw.view hin (fun z hz => (hext z hz).1) hlist

theorem mergeView_splitLatch (v : View) (reg : IncidentRegister) :
    (mergeView v reg).splitLatch = (reg.splitLatch || decide (primaryOf reg.records ≠ v.primary)) := by
  have hpx : (mergedPrimary (primaryOf reg.records) v.primary).2.isSome = decide (primaryOf reg.records ≠ v.primary) := by
    rw [mergedPrimary_snd]
    split <;> simp [*]
  rw [← hpx]
  unfold mergeView
  dsimp only
  split <;> rfl

theorem mergeView_fullLatch_of_latched {reg : IncidentRegister} (h : reg.fullLatch = true) :
    (mergeView v reg).fullLatch = true := by
  unfold mergeView
  dsimp only
  split
  · exact h
  · rw [h]
    exact mergeRecords_latch _ _ _ _

end Sys2Proof.Machine

open Sys2Proof Sys2Proof.Machine in
/-- Settles O21: the choice of the new view, then the three steps of R20 with the room of R21. -/
theorem mergeBringsPrimaryAndExtensions : Obligations.MergeBringsPrimaryAndExtensions := by
  intro v reg hlist hne hlow hhigh hlen hnodup hzones
  dsimp only
  have hv : ViewLaw v := ⟨⟨hlow, hhigh⟩, hlen, hnodup, hzones⟩
  have hcomm := mergedPrimary_comm (primaryOf reg.records) v.primary
  have hfst := mergedPrimary_fst (primaryOf reg.records) v.primary
  have hsnd := mergedPrimary_snd (primaryOf reg.records) v.primary
  obtain ⟨hrange, hext⟩ := merged_ranges (extensionsOf reg.records) v.extensions (primaryOf_range hlist hne) hv.1
  generalize hpx : mergedPrimary (primaryOf reg.records) v.primary = px at hcomm hfst hsnd hrange hext ⊢
  have hcommE := mergedExtensions_comm px.1 px.2 (extensionsOf reg.records) v.extensions
  have hlenE := mergedExtensions_length px.1 (x := px.2) (extensionsOf reg.records) v.extensions
  have hslots := mergedExtensions_slots (p := px.1) (x := px.2) (eo := extensionsOf reg.records) (ef := v.extensions)
    fun z hz => hz.elim (extensionsOf_range hlist) fun h => ⟨(hzones z h).1, (hzones z h).2.1⟩
  generalize he : mergedExtensions px.1 px.2 (extensionsOf reg.records) v.extensions = e at hext hcommE hlenE hslots ⊢
  obtain ⟨hprimary, hextensions⟩ := mergeView_view hlist hv hne hpx he
  refine ⟨hcomm, hfst, hsnd, hcommE, hlenE, hslots, hprimary, hextensions, mergeView_listLaw hlist hne hv,
    mergeView_splitLatch v reg, mergeView_fullLatch_of_latched, mergeView_owed v reg, mergeView_isoTimer v reg,
    fun hagree => ?_, fun hdiffer => ?_⟩
  · rw [mergeView_of_agrees hpx he hagree]
    exact ⟨rfl, rfl⟩
  · obtain ⟨hrecords, hfull⟩ := mergeView_of_differs hpx he hdiffer
    rw [hrecords, hfull]
    obtain ⟨l, latch, happends, hlist, hlatch⟩ := mergeRecords_steps (v := v) reg.fullLatch hlist hlenE hrange hext
    rw [funext (restand_eq px.1 e)] at happends
    exact ⟨l, latch, happends, hlist, hlatch⟩
end

section
/-! The decoded block byte by byte, and the two ends of a configuration read: O27 (R165 to R169, R172). -/

namespace Sys2Proof.Machine

/-! ### The neighbour list (R166) -/

/-- Kept at their first places, the values of a list that pass a test stand in the order of those places. -/
theorem keepFirst_filter_order (p : Nat → Bool) (l : List Nat) :
    (keepFirst (l.filter p)).Pairwise (fun y z => l.idxOf y < l.idxOf z) := by
  induction l with
  | nil => exact .nil
  | cons a l ih =>
    have hshift {m : List Nat} (hm : m.Pairwise (fun y z => l.idxOf y < l.idxOf z)) (hne : ∀ z ∈ m, z ≠ a) :
        m.Pairwise (fun y z => (a :: l).idxOf y < (a :: l).idxOf z) :=
      hm.imp_of_mem fun {y z} hy hz hlt => by
        rw [List.idxOf_cons_ne _ (hne y hy).symm, List.idxOf_cons_ne _ (hne z hz).symm]
        exact Nat.succ_lt_succ hlt
    cases ha : p a with
    | false =>
      rw [List.filter_cons_of_neg (by rw [ha]; exact nofun)]
      refine hshift ih fun z hz h => ?_
      rw [h, mem_keepFirst, List.mem_filter, ha] at hz
      exact Bool.false_ne_true hz.2
    | true =>
      rw [List.filter_cons_of_pos ha, keepFirst]
      have hne : ∀ z ∈ (keepFirst (l.filter p)).filter (fun y => decide (y ≠ a)), z ≠ a := fun z hz =>
        of_decide_eq_true (List.mem_filter.mp hz).2
      refine List.pairwise_cons.mpr ⟨fun z hz => ?_, hshift (ih.filter _) hne⟩
      rw [List.idxOf_cons_self, List.idxOf_cons_ne _ (hne z hz).symm]
      exact Nat.succ_pos _

theorem decodeNeighbours_eq (own : Nat) (b : ConfigBytes) : decodeNeighbours own b
    = keepFirst (((List.range (min 6 (byteAt b 1))).map (fun i => byteAt b (2 + i))).filter
      (fun z => decide (z ≠ 0 ∧ z ≤ 63 ∧ z ≠ own))) := by
  unfold decodeNeighbours
  dsimp only
  rw [← List.map_take, List.take_range, min_assoc, min_self, min_comm]

theorem mem_decodeNeighbours {own z : Nat} {b : ConfigBytes} : z ∈ decodeNeighbours own b
    ↔ z ∈ (List.range (min 6 (byteAt b 1))).map (fun i => byteAt b (2 + i)) ∧ z ≠ 0 ∧ z ≤ 63 ∧ z ≠ own := by
  rw [decodeNeighbours_eq, mem_keepFirst, List.mem_filter, decide_eq_true_eq]

/-! ### The channels (R167) -/

theorem decodeKind_eq (b : ConfigBytes) (c : ChannelNo) : decodeKind b c =
    if byteAt b (8 + 6 * c.val) = 1 then .damper else if byteAt b (8 + 6 * c.val) = 2 then .curtain
    else if byteAt b (8 + 6 * c.val) = 3 then .extractFan else if byteAt b (8 + 6 * c.val) = 4 then .supplyFan
    else .unused := by
  unfold decodeKind channelBase
  split
  · next h => rw [h]; rfl
  · next h => rw [h]; rfl
  · next h => rw [h]; rfl
  · next h => rw [h]; rfl
  · next h1 h2 h3 h4 => rw [if_neg h1, if_neg h2, if_neg h3, if_neg h4]

theorem decodeChannel_damper {b : ConfigBytes} {c : ChannelNo} (h : (decodeKind b c).isDamper = true) : decodeChannel b c =
    { kind := decodeKind b c, troubleEnable := decide (byteAt b (channelBase c + 1) / 128 = 1), proving := none
      interlocks := [], time1 := clampNat 5 120 (byteAt b (channelBase c + 4)), time2 := 0
      row := decodeRow b (decodeKind b c) c } := if_pos h

theorem isDamper_of_isFan {k : ChannelKind} (h : k.isFan = true) : k.isDamper = false := by
  cases k with
  | damper | curtain => cases h
  | unused | extractFan | supplyFan => rfl

theorem decodeChannel_fan {b : ConfigBytes} {c : ChannelNo} (h : (decodeKind b c).isFan = true) : decodeChannel b c =
    { kind := decodeKind b c, troubleEnable := decide (byteAt b (channelBase c + 1) / 128 = 1)
      proving := decodeProving b c, interlocks := decodeInterlocks b c
      time1 := clampNat 5 60 (byteAt b (channelBase c + 4)), time2 := clampNat 0 120 (byteAt b (channelBase c + 5))
      row := decodeRow b (decodeKind b c) c } := by
  exact (if_neg (Bool.eq_false_iff.mp (isDamper_of_isFan h))).trans (if_pos h)

theorem kind_cases {k : ChannelKind} (h : k ≠ .unused) : k.isDamper = true ∨ k.isFan = true := by
  cases k with
  | unused => exact absurd rfl h
  | damper | curtain => exact .inl rfl
  | extractFan | supplyFan => exact .inr rfl

/-- Of a channel that is used, the trouble-enable flag and the row of the role table. -/
theorem decodeChannel_used {b : ConfigBytes} {c : ChannelNo} (h : decodeKind b c ≠ .unused) :
    (decodeChannel b c).troubleEnable = decide (byteAt b (channelBase c + 1) / 128 = 1)
      ∧ (decodeChannel b c).row = decodeRow b (decodeKind b c) c := by
  rcases kind_cases h with h | h
  · rw [decodeChannel_damper h]
    exact ⟨rfl, rfl⟩
  · rw [decodeChannel_fan h]
    exact ⟨rfl, rfl⟩

theorem topBit_iff {n : Nat} (h : n ≤ 255) : n / 128 = 1 ↔ 128 ≤ n := by omega

theorem decodeEntry_eq (b : ConfigBytes) (k : ChannelKind) (c : ChannelNo) (j : Nat) : decodeEntry b k c j =
    if roleCode b (12 * c.val + 2 * j) = 0 then .off else if roleCode b (12 * c.val + 2 * j) = 1 then .on
    else if roleCode b (12 * c.val + 2 * j) = 2 ∨ k.isDamper = true then .hold else .assist := by
  unfold decodeEntry
  split
  · next h => rw [h]; rfl
  · next h => rw [h]; rfl
  · next h => rw [h]; rfl
  · next h0 h1 h2 =>
    have h2 : roleCode b (12 * c.val + 2 * j) ≠ 2 := h2
    rw [if_neg h0, if_neg h1]
    cases k.isDamper <;> simp [h2]

/-! ### The pressure channels (R168) -/

theorem decodePressureRole_eq (b : ConfigBytes) (p : PressureNo) : decodePressureRole b p =
    if byteAt b (98 + 8 * p.val) % 4 = 1 then .proving else if byteAt b (98 + 8 * p.val) % 4 = 2 then .boundary
    else .unused := by
  unfold decodePressureRole pressureBase
  split
  · next h => rw [h]; rfl
  · next h => rw [h]; rfl
  · next h1 h2 => rw [if_neg h1, if_neg h2]

/-- A two-byte value read as a signed one, clamped. -/
theorem signedWord_clamped {h l : Nat} (hh : h ≤ 255) (hl : l ≤ 255) :
    clampInt (-2047) 2047 (BitVec.ofNat 16 (h * 256 + l)).toInt
      = max (-2047) (min 2047 (if h < 128 then (h * 256 + l : Int) else (h * 256 + l : Int) - 65536)) := by
  have hmod : (h * 256 + l) % 2 ^ 16 = h * 256 + l := Nat.mod_eq_of_lt (by omega)
  unfold clampInt
  rw [BitVec.toInt_eq_toNat_cond, BitVec.toNat_ofNat, hmod]
  by_cases hneg : h < 128
  · rw [if_pos hneg, if_pos (by omega)]
    push_cast
    rfl
  · rw [if_neg hneg, if_neg (by omega)]
    push_cast
    rfl

/-! ### The two ends of a configuration read (R165, R169, R172) -/

variable {s t u : State} {b : ConfigBytes}

theorem exec_configReadDone (hr : s.inReset = false) (hm : s.ctl.mode = .config) :
    exec (.configReadDone b) s = .next (settleRaises s (configRead b s)) := by
  change Host.Outcome.next (s.outside _) = _
  rw [outside_of_not_inReset hr, if_pos hm]

theorem startStagger_of_station (h : s.station ≠ 0) :
    startStagger s = s.withStatus { s.status with period := some (s.station * 31) } := if_neg h

/-- The node at the beginning of LISTEN after a good read, with its stagger and scan started. -/
def configured (b : ConfigBytes) (s : State) : State :=
  let u := beginListen (s.withCtl { s.ctl with config := some (decodeConfig s.station b) })
  setScan (scanFrom u 0) u

theorem configRead_good (h : blockGood b = true) :
    configRead b s = endListenOnAlarm (recompute (declarationCheck (configured b s))) := if_pos h

theorem configRead_bad (h : blockGood b = false) : configRead b s = enterLockout s :=
  if_neg (Bool.eq_false_iff.mp h)

theorem configured_eq (h : s.station ≠ 0) : configured b s = { s with
    ctl := { s.ctl with
      config := some (decodeConfig s.station b), mode := .listen, listenTimer := some 5000, quietTimer := none
      origin := none }
    meas := { s.meas with scan := scanFrom (configured b s) 0 }
    status := { s.status with period := some (s.station * 31) }
    trouble := (configured b s).trouble } := by
  have hstagger : beginListen (s.withCtl { s.ctl with config := some (decodeConfig s.station b) }) = _ :=
    startStagger_of_station (show State.station (setMode .listen _) ≠ 0 from h)
  have hscan : scanFrom (configured b s) 0
      = scanFrom (beginListen (s.withCtl { s.ctl with config := some (decodeConfig s.station b) })) 0 :=
    scanFrom_congr rfl 0
  rw [hscan]
  unfold configured
  rw [hstagger]
  rfl

/-- What the entry to ACTIVE writes beside what a recompute writes. -/
def listenEnded (s : State) : State := { s with
  ctl := { s.ctl with mode := .active, listenTimer := none }
  peers := { s.peers with listened := true } }

theorem listenEnded_lessRoles (h : t.lessRoles = s.lessRoles) : (enterActive t).lessRoles = (listenEnded s).lessRoles :=
  (enterActive_lessRoles t).trans (congrArg listenEnded h)

/-- The end of LISTEN at its entry, where own ALARM is active (R169). -/
theorem endListenOnAlarm_lessRoles (h : t.lessRoles = s.lessRoles) :
    (endListenOnAlarm t).lessRoles = (if s.panel.alarm.level then listenEnded s else s).lessRoles := by
  obtain ⟨-, -, -, -, -, hpanel, -⟩ := lessRoles_eq h
  unfold endListenOnAlarm
  rw [hpanel]
  split
  · exact listenEnded_lessRoles h
  · exact h

/-- The declaration check after a good read. -/
def configDeclared (b : ConfigBytes) (s : State) : State := declarationCheck (configured b s)

theorem goodRead_lessRoles (h : blockGood b = true) : (settleRaises s (configRead b s)).lessRoles
    = (if (configDeclared b s).panel.alarm.level then listenEnded (configDeclared b s) else configDeclared b s).lessRoles := by
  rw [configRead_good h]
  exact (lessRoles_of_lessSequencing (lessSequencing_of_lessReports (settleRaises_lessReports s _))).trans
    (endListenOnAlarm_lessRoles (recompute_lessRoles (configDeclared b s)))

/-- What a good read leaves (R91, R120, R165 to R169). -/
theorem goodRead_blocks (h : blockGood b = true) (hs : s.station ≠ 0) (ht : t = settleRaises s (configRead b s)) :
    t.ctl = { s.ctl with
        config := some (decodeConfig s.station b), quietTimer := none, origin := none
        mode := if s.panel.alarm.level then .active else .listen
        listenTimer := if s.panel.alarm.level then none else some 5000 }
      ∧ t.meas = { s.meas with scan := scanFrom t 0 } ∧ t.status.period = some (s.station * 31)
      ∧ t.peers.entries = s.peers.entries ∧ t.panel = s.panel ∧ t.reg.records = s.reg.records := by
  have hroles := goodRead_lessRoles (s := s) h
  rw [← ht] at hroles
  obtain ⟨hctl, hreg, -, hmeas, hpeers, hpanel, -⟩ := lessRoles_eq hroles
  obtain ⟨-, -, -, -, -, -, -, hperiod, -⟩ := lessRoles_eq_link hroles
  obtain ⟨r, q, hrecords, hcheck⟩ := declarationCheck_cases (configured b s)
  have hconfig : t.ctl.config = (configured b s).ctl.config := by
    rw [hctl, configDeclared, hcheck]
    split <;> rfl
  have heq : configured b s = _ := configured_eq hs
  have hctl' := congrArg State.ctl heq
  have hmeas' := congrArg State.meas heq
  have hperiod' := congrArg (fun v => v.status.period) heq
  have hpeers' := congrArg State.peers heq
  have hpanel' := congrArg State.panel heq
  have hreg' := congrArg State.reg heq
  rw [scanFrom_congr hconfig, hctl, hreg, hmeas, hpeers, hpanel, hperiod, configDeclared, hcheck]
  generalize configured b s = v at *
  have hlevel : ((v.withReg r).setQueued .fireDeclare q).panel.alarm.level = s.panel.alarm.level :=
    congrArg (fun x => x.alarm.level) hpanel'
  rw [hlevel]
  cases s.panel.alarm.level with
  | true => exact ⟨congrArg (fun x => { x with mode := .active, listenTimer := none }) hctl', hmeas', hperiod',
      (congrArg PeerTable.entries hpeers' :), hpanel', hrecords.trans (congrArg IncidentRegister.records hreg')⟩
  | false => exact ⟨hctl', hmeas', hperiod', congrArg PeerTable.entries hpeers', hpanel',
      hrecords.trans (congrArg IncidentRegister.records hreg')⟩

/-- A good read that stays in LISTEN leaves the node resolved (R40). -/
theorem goodRead_resolved (h : blockGood b = true) (hs : s.station ≠ 0) (ha : s.panel.alarm.level = false) :
    Resolved (settleRaises s (configRead b s)) := by
  obtain ⟨r, q, -, hcheck⟩ := declarationCheck_cases (configured b s)
  have happlies : (declarationCheck (configured b s)).ctl.mode.applies = true := by
    rw [hcheck, configured_eq hs]
    rfl
  have hlevel : (recompute (declarationCheck (configured b s))).panel.alarm.level = false := by
    obtain ⟨-, -, -, -, -, hpanel, -⟩ := lessRoles_eq (recompute_lessRoles (declarationCheck (configured b s)))
    rw [hpanel, hcheck, configured_eq hs]
    exact ha
  have hread : configRead b s = recompute (declarationCheck (configured b s)) :=
    (configRead_good h).trans (if_neg (by rw [hlevel]; exact Bool.false_ne_true))
  rw [hread]
  exact (recompute_resolved happlies).kept (settleRaises_resolverKept s _)

/-- A good read with own ALARM active and own zone absent makes the declaration owed and queues it (R9, R169). -/
theorem goodRead_owes (h : blockGood b = true) (hs : s.station ≠ 0) (ha : s.panel.alarm.level = true)
    (howed : s.reg.owed = false) (hzone : holdsZone s.station s.reg.records = false)
    (ht : t = settleRaises s (configRead b s)) :
    t.reg.owed = true ∧ t.reg.isoTimer = some 3000 ∧ t.link.queue.fireDeclare = true := by
  have hroles := goodRead_lessRoles (s := s) h
  rw [← ht] at hroles
  obtain ⟨-, hreg, -⟩ := lessRoles_eq hroles
  obtain ⟨-, -, -, -, -, -, hdeclare, -⟩ := lessRoles_eq_link hroles
  have hcheck : configDeclared b s = (configured b s |>.withReg (oweDeclaration s.reg)).setQueued .fireDeclare true := by
    have hconf := configured_eq (b := b) hs
    unfold configDeclared
    generalize configured b s = v at *
    rw [declarationCheck_owes (by rw [hconf]; rfl) (by rw [hconf]; exact ha) (by rw [hconf]; exact hzone)
      (by rw [hconf]; exact howed), placeDeclare, if_pos (.inl (by rw [hconf]; rfl)), congrArg State.reg hconf]
  rw [hreg, hdeclare, hcheck]
  split <;> exact ⟨rfl, rfl, rfl⟩

theorem enterLockout_eq (hs : s.station ≠ 0) : enterLockout s =
    (raise (plainCond .configBad) (setMode .lockout s)).withStatus
      { (raise (plainCond .configBad) (setMode .lockout s)).status with period := some (s.station * 31) } := by
  obtain ⟨hctl, -⟩ := lessReports_eq (raise_lessReports (setMode .lockout s) (plainCond .configBad))
  have hstation : (raise (plainCond .configBad) (setMode .lockout s)).station = s.station := by
    unfold State.station
    rw [hctl]
    rfl
  rw [← hstation] at hs ⊢
  exact startStagger_of_station hs

/-- A read that fails a check leaves the node in LOCKOUT, with CONFIG-BAD active (R172). -/
theorem badRead_blocks (h : blockGood b = false) (hs : s.station ≠ 0) (ht : t = settleRaises s (configRead b s)) :
    t.ctl = { s.ctl with mode := .lockout } ∧ t.reg = s.reg ∧ t.chans = s.chans ∧ t.meas = s.meas ∧ t.peers = s.peers
      ∧ t.panel = s.panel ∧ t.status.period = some (s.station * 31) ∧ plainCond .configBad ∈ t.trouble.active := by
  rw [configRead_bad h, enterLockout_eq hs] at ht
  obtain ⟨hctl, hreg, -, hchans, -, hmeas, -, hpeers, hpanel, -⟩ :=
    lessReports_eq (raise_lessReports (setMode .lockout s) (plainCond .configBad))
  have hactive : plainCond .configBad ∈ (raise (plainCond .configBad) (setMode .lockout s)).trouble.active :=
    (mem_raise _ _ _ (masked_plain rfl _)).mpr (.inl rfl)
  generalize raise (plainCond .configBad) (setMode .lockout s) = v at *
  rw [ht]
  obtain ⟨hctl', hreg', -, hchans', -, hmeas', -, hpeers', hpanel', -⟩ := lessReports_eq (settleRaises_lessReports s
    (v.withStatus { v.status with period := some (s.station * 31) }))
  obtain ⟨-, -, -, -, -, -, -, -, hperiod', -⟩ := lessReports_eq_link (settleRaises_lessReports s
    (v.withStatus { v.status with period := some (s.station * 31) }))
  exact ⟨hctl'.trans hctl, hreg'.trans hreg, hchans'.trans hchans, hmeas'.trans hmeas, hpeers'.trans hpeers,
    hpanel'.trans hpanel, hperiod', (settleRaises_mem _ _).mpr hactive⟩

/-- While a condition is active, TROUBLE is de-energized (R159, R161). -/
theorem TroubleLaw.output_of_mem {c : Cond} (h : TroubleLaw s) (hc : c ∈ s.trouble.active) : s.trouble.output = false := by
  obtain ⟨hlaw, houtput, -⟩ := troubleLaw_iff.mp h
  have hrecord : s.trouble.record ≠ none := fun hnone => by
    rw [hlaw.emptied hnone] at hc
    cases hc
  rw [houtput, troubleLevel, Option.isNone_eq_false_iff.mpr (Option.isSome_iff_ne_none.mpr hrecord), Bool.and_false,
    Bool.false_and]

/-- The six entries of a channel's row by column number. -/
theorem decodeRow_get (b : ConfigBytes) (k : ChannelKind) (c : ChannelNo) (j : Fin 6) :
    ([(decodeRow b k c).normal, (decodeRow b k c).fire, (decodeRow b k c).extend, (decodeRow b k c).adjacent,
      (decodeRow b k c).remote, (decodeRow b k c).shutdown] : List Entry)[j.val]? = some (decodeEntry b k c j.val) := by
  fin_cases j <;> rfl

end Sys2Proof.Machine

open Sys2Proof Sys2Proof.Machine in
/-- Settles O27: the fields of the block one by one, then the ends of a good and of a bad read. -/
theorem configReadEntersListenOrLockout : Obligations.ConfigReadEntersListenOrLockout := by
  intro b s hs hr hm
  obtain ⟨-, -, -, -, -, -, -, hstation, hconfigured, -⟩ := hs
  have hstation : s.station ≠ 0 := Nat.ne_of_gt (hstation (.inl hm))
  have hnone : s.ctl.config = none := by
    rw [hm] at hconfigured
    exact Option.not_isSome_iff_eq_none.mp fun h => Bool.false_ne_true (hconfigured.mp h)
  refine ⟨_, exec_configReadDone hr hm, ?_⟩
  generalize ht : settleRaises s (configRead b s) = t
  have hgood : blockGood b = true → t.ctl = _ ∧ _ := fun h => goodRead_blocks h hstation ht.symm
  have hbad : blockGood b = false → t.ctl = _ ∧ _ := fun h => badRead_blocks h hstation ht.symm
  have hconfig : ∀ k, t.ctl.config = some k → k = decodeConfig s.station b := fun k hk => by
    cases h : blockGood b with
    | true =>
      obtain ⟨hctl, -⟩ := hgood h
      rw [hctl] at hk
      exact (Option.some.inj hk).symm
    | false =>
      obtain ⟨hctl, -⟩ := hbad h
      rw [hctl] at hk
      rw [hnone] at hk
      cases hk
  refine ⟨?_, ?_, fun h => ?_, fun k hk => ?_, fun h ha => ?_, fun h ha => ?_, fun h => ?_, ?_⟩
  · cases h : blockGood b with
    | true => rw [(hgood h).1]
    | false => rw [(hbad h).1]
  · rw [blockGood, Bool.and_eq_true, decide_eq_true_eq, decide_eq_true_eq]
  · obtain ⟨hctl, hmeas, hperiod, -⟩ := hgood h
    exact ⟨by rw [hctl], decodeConfig_law _ _, hmeas, hperiod⟩
  · rw [hconfig k hk]
    refine ⟨⟨fun z => mem_decodeNeighbours, ?_, ?_⟩, fun c => ?_, fun p => ?_, rfl, rfl, rfl⟩
    · exact keepFirst_nodup _
    · change List.Pairwise _ (decodeNeighbours s.station b)
      rw [decodeNeighbours_eq]
      exact keepFirst_filter_order _ _
    · dsimp only
      rw [decodeConfig_channel, decodeChannel_kind]
      refine ⟨decodeKind_eq b c, fun hk => ?_, fun hk => ?_, fun hk => ?_, fun hk j => ?_⟩
      · exact (decodeChannel_used hk).1.trans (decide_eq_decide.mpr (topBit_iff (byteAt_le b _)))
      · rw [decodeChannel_damper hk]
        rfl
      · rw [decodeChannel_fan hk]
        refine ⟨rfl, Nat.zero_max _, fun p => ?_, fun d => ?_⟩
        · rw [decodeConfig_pressure]
          exact decodeProving_iff
        · rw [decodeConfig_channel, decodeChannel_kind]
          exact mem_decodeInterlocks
      · rw [(decodeChannel_used hk).2, decodeRow_get]
        exact congrArg some (decodeEntry_eq b _ c j.val)
    · dsimp only
      rw [decodeConfig_pressure]
      refine ⟨decodePressureRole_eq b p, decide_eq_decide.mpr (topBit_iff (byteAt_le b _)), rfl, ?_, rfl, rfl⟩
      exact signedWord_clamped (byteAt_le b _) (byteAt_le b _)
  · obtain ⟨hctl, -⟩ := hgood h
    rw [hctl, ha]
    have hresolved := goodRead_resolved h hstation ha
    rw [ht] at hresolved
    exact ⟨rfl, rfl, hresolved.target⟩
  · obtain ⟨hctl, -⟩ := hgood h
    rw [hctl, ha]
    exact ⟨rfl, rfl, fun howed hzone => goodRead_owes h hstation ha howed hzone ht.symm⟩
  · obtain ⟨hctl, -, hchans, hmeas, -, -, hperiod, hactive⟩ := hbad h
    refine ⟨by rw [hctl], by rw [hctl]; exact hnone, hactive, fun htrouble => ?_, hmeas, hperiod, hchans⟩
    have hlaw : TroubleLaw t := ht ▸ settleRaises_troubleLaw s (configRead_troubleLaw b htrouble)
    exact hlaw.output_of_mem hactive
  · cases h : blockGood b with
    | true =>
      obtain ⟨-, -, -, hpeers, hpanel, hrecords⟩ := hgood h
      exact ⟨hpeers, hpanel, hrecords⟩
    | false =>
      obtain ⟨-, hreg, -, -, hpeers, hpanel, -⟩ := hbad h
      exact ⟨congrArg _ hpeers, hpanel, congrArg _ hreg⟩
end

section
/-! The starts of the sequencers by what each channel becomes (R48, R49, R60, R64, R67, R87). -/

namespace Sys2Proof.Machine

variable {s t u : State} {c d x : ChannelNo}

/-! ### A damper or curtain takes a state from any other -/

theorem setTravel_cases (c : ChannelNo) (q : Sequencer) (s : State) :
    setTravel c q s = setSeq c q s ∨ setTravel c q s = interlockNotice c (setSeq c q s) := by
  unfold setTravel
  dsimp only
  split
  · split
    · exact .inr rfl
    · exact .inl rfl
  · exact .inr rfl

/-- The channel itself, and every channel whose sequencer is not a fan's, is out of reach of the notice. -/
theorem setTravel_ch_of_no_fan {q : Sequencer} (h : ((setSeq c q s).ch x).seq.fanState = none) :
    (setTravel c q s).ch x = (setSeq c q s).ch x := by
  rcases setTravel_cases c q s with e | e
  · rw [e]
  · rw [e, interlockNotice_ch, interlockEvent_of_no_fan h]

theorem fanState_of_isDamper {q : Sequencer} (h : q.travelState.isSome = true) : q.fanState = none := by
  cases q with
  | damper => rfl
  | stopped | fan => cases h

theorem deriveTravel_isTravel (s : State) (c : ChannelNo) : (deriveTravel s c).travelState.isSome = true := by
  unfold deriveTravel
  dsimp only
  split
  · rfl
  · split <;> rfl

theorem outputOf_travel {q : Sequencer} (h : q.travelState.isSome = true) (x : Target) : outputOf x q = decide (x = .on) := by
  cases q with
  | damper => rfl
  | stopped | fan => cases h

/-- The entry derivation reads configuration, target and limits (R49). -/
theorem deriveTravel_congr (hconfig : t.ctl.config = s.ctl.config) (htarget : (t.ch c).target = (s.ch c).target)
    (hA : (t.ch c).inA = (s.ch c).inA) (hB : (t.ch c).inB = (s.ch c).inB) : deriveTravel t c = deriveTravel s c := by
  unfold deriveTravel travelTime Channel.ownLimit Channel.openLimit Channel.closedLimit
  dsimp only
  rw [chCfg_congr hconfig, htarget, hA, hB]

theorem deriveTravel_of_lessSequencing (h : t.lessSequencing = s.lessSequencing) (c : ChannelNo) :
    deriveTravel t c = deriveTravel s c := by
  obtain ⟨htarget, hA, hB⟩ := lessSequencing_eq_ch h c
  exact deriveTravel_congr (congrArg _ (lessSequencing_eq h).1) htarget hA hB

/-- What a damper or curtain becomes when its sequencer starts (R48, R49). -/
def travelStarted (s : State) (c : ChannelNo) : Channel :=
  { s.ch c with seq := deriveTravel s c, output := decide ((s.ch c).target = .on) }

theorem travelStarted_kept (s : State) (c : ChannelNo) : (travelStarted s c).target = (s.ch c).target
    ∧ (travelStarted s c).inA = (s.ch c).inA ∧ (travelStarted s c).inB = (s.ch c).inB
    ∧ (travelStarted s c).seq = deriveTravel s c
    ∧ (travelStarted s c).output = decide ((travelStarted s c).target = .on) := ⟨rfl, rfl, rfl, rfl, rfl⟩

theorem startDamper_ch_self (h : (s.chCfg c).kind.isDamper = true) : (startDamper c s).ch c = travelStarted s c := by
  have hset : (setSeq c (deriveTravel s c) s).ch c = travelStarted s c := by
    rw [setSeq_ch, if_pos rfl, outputOf_travel (deriveTravel_isTravel s c)]
    rfl
  rw [startDamper, if_pos h, setTravel_ch_of_no_fan, hset]
  rw [hset]
  exact fanState_of_isDamper (deriveTravel_isTravel s c)

theorem startDamper_ch_of_ne (h : d ≠ x) (hx : (s.ch x).seq.fanState = none) : (startDamper d s).ch x = s.ch x := by
  have hset : (setSeq d (deriveTravel s d) s).ch x = s.ch x := by rw [setSeq_ch, if_neg h]
  unfold startDamper
  split
  · rw [setTravel_ch_of_no_fan (by rw [hset]; exact hx), hset]
  · rfl

theorem foldl_startDamper_lessSequencing (l : List ChannelNo) (s : State) :
    (l.foldl (fun s c => startDamper c s) s).lessSequencing = s.lessSequencing :=
  foldl_keeps s State.lessSequencing _ (fun s c => startDamper_lessSequencing s c) l

theorem foldl_startDamper_ch_of_not_mem (l : List ChannelNo) (h : x ∉ l) (hx : (s.ch x).seq.fanState = none) :
    (l.foldl (fun s c => startDamper c s) s).ch x = s.ch x := by
  induction l generalizing s with
  | nil => rfl
  | cons d l ih =>
    obtain ⟨hd, hl⟩ := List.ne_and_not_mem_of_not_mem_cons h
    have hstep := startDamper_ch_of_ne hd.symm hx
    rw [List.foldl_cons, ih hl (by rw [hstep]; exact hx), hstep]

/-- Sequencing writes the states and outputs of channels. -/
theorem ch_of_lessSequencing (h : t.lessSequencing = s.lessSequencing) (c : ChannelNo) :
    t.ch c = { s.ch c with seq := (t.ch c).seq, output := (t.ch c).output } := by
  obtain ⟨htarget, hA, hB⟩ := lessSequencing_eq_ch h c
  change t.ch c = ⟨(s.ch c).target, (t.ch c).seq, (t.ch c).output, (s.ch c).inA, (s.ch c).inB⟩
  rw [← htarget, ← hA, ← hB]

theorem travelStarted_congr (h : t.lessSequencing = s.lessSequencing) (c : ChannelNo) :
    travelStarted t c = travelStarted s c := by
  rw [travelStarted, travelStarted, deriveTravel_of_lessSequencing h, ch_of_lessSequencing h c]

theorem foldl_startDamper_ch (l : List ChannelNo) (hl : l.Nodup) (hc : c ∈ l) (h : (s.chCfg c).kind.isDamper = true) :
    (l.foldl (fun s c => startDamper c s) s).ch c = travelStarted s c := by
  induction l generalizing s with
  | nil => cases hc
  | cons d l ih =>
    obtain ⟨hd, hl⟩ := List.nodup_cons.mp hl
    have hstep : (startDamper d s).lessSequencing = s.lessSequencing := startDamper_lessSequencing s d
    rw [List.foldl_cons]
    rcases List.mem_cons.mp hc with rfl | hc
    · have hself := startDamper_ch_self h
      rw [foldl_startDamper_ch_of_not_mem l hd, hself]
      rw [hself]
      exact fanState_of_isDamper (deriveTravel_isTravel s c)
    · have hcfg : (startDamper d s).chCfg c = s.chCfg c := chCfg_congr (congrArg _ (lessSequencing_eq hstep).1) c
      rw [ih hl hc (by rw [hcfg]; exact h), travelStarted_congr hstep]

/-- Every damper and curtain takes the state of the entry derivation (R48, R49). -/
theorem startDampers_ch (h : (s.chCfg c).kind.isDamper = true) :
    (allChannels.foldl (fun s c => startDamper c s) s).ch c = travelStarted s c :=
  foldl_startDamper_ch allChannels (by decide) (mem_allChannels c) h

/-! ### The fans, each by its own start -/

/-- A start of one channel, in any state: it writes no other channel, and no channel but a fan. -/
structure OwnStart (f : State → ChannelNo → State) : Prop where
  rest  : ∀ s c, (f s c).lessSequencing = s.lessSequencing
  other : ∀ s {c x}, c ≠ x → (f s c).ch x = s.ch x
  fans  : ∀ s c, (s.chCfg c).kind.isFan = false → f s c = s

theorem OwnStart.foldl_ch_of_not_mem {f : State → ChannelNo → State} (h : OwnStart f) (l : List ChannelNo) (hx : x ∉ l)
    (s : State) : (l.foldl f s).ch x = s.ch x := by
  induction l generalizing s with
  | nil => rfl
  | cons d l ih =>
    obtain ⟨hd, hl⟩ := List.ne_and_not_mem_of_not_mem_cons hx
    rw [List.foldl_cons, ih hl, h.other s hd.symm]

theorem OwnStart.foldl_ch_of_no_fan {f : State → ChannelNo → State} (h : OwnStart f) (l : List ChannelNo)
    (hx : (s.chCfg x).kind.isFan = false) : (l.foldl f s).ch x = s.ch x := by
  induction l generalizing s with
  | nil => rfl
  | cons d l ih =>
    have hcfg : (f s d).chCfg x = s.chCfg x := chCfg_congr (congrArg _ (lessSequencing_eq (h.rest s d)).1) x
    have hstep : (f s d).ch x = s.ch x := by
      by_cases hd : d = x
      · subst hd
        rw [h.fans s d hx]
      · exact h.other s hd
    rw [List.foldl_cons, ih (by rw [hcfg]; exact hx), hstep]

/-- A channel of the list starts from a state that differs by the starts of other fans. -/
theorem OwnStart.foldl_ch {f : State → ChannelNo → State} (h : OwnStart f) (l : List ChannelNo) (hl : l.Nodup) (hc : c ∈ l)
    (s : State) : ∃ u, u.lessSequencing = s.lessSequencing ∧ u.ch c = s.ch c
      ∧ (∀ x, (s.chCfg x).kind.isFan = false → u.ch x = s.ch x) ∧ (l.foldl f s).ch c = (f u c).ch c := by
  obtain ⟨before, after, rfl⟩ := List.append_of_mem hc
  have hsplit := List.nodup_append.mp hl
  have hafter : c ∉ after := (List.nodup_cons.mp hsplit.2.1).1
  have hbefore : c ∉ before := fun hb => hsplit.2.2 c hb c List.mem_cons_self rfl
  refine ⟨before.foldl f s, foldl_keeps s State.lessSequencing _ h.rest before, h.foldl_ch_of_not_mem before hbefore s,
    fun x hx => h.foldl_ch_of_no_fan before hx, ?_⟩
  rw [List.foldl_append, List.foldl_cons, h.foldl_ch_of_not_mem after hafter]

theorem startFan_ownStart : OwnStart fun s c => startFan c s where
  rest s c := startFan_lessSequencing s c
  other s c x hne := by
    dsimp only [startFan]
    split
    · rw [enterStopped_ch, if_neg hne]
    · rfl
  fans s c hfan := if_neg (by rw [hfan]; exact Bool.false_ne_true)

/-- The evaluation of a fan reads configuration and its interlocks (R67). -/
theorem evaluateStopped_congr (hconfig : t.ctl.config = s.ctl.config)
    (h : ∀ d ∈ (s.chCfg c).interlocks, (t.ch d).seq = (s.ch d).seq) : evaluateStopped t c = evaluateStopped s c := by
  have hfault : interlockFaulted t c = interlockFaulted s c := by
    unfold interlockFaulted
    rw [chCfg_congr hconfig]
    rw [Bool.eq_iff_iff, List.any_eq_true, List.any_eq_true]
    exact exists_congr fun d => and_congr_right fun hd => by rw [faulted, faulted, h d hd]
  have hat : interlocksAtTarget t c = interlocksAtTarget s c := by
    unfold interlocksAtTarget
    rw [chCfg_congr hconfig]
    rw [Bool.eq_iff_iff, List.all_eq_true, List.all_eq_true]
    exact forall₂_congr fun d hd => by rw [atTargetPosition, atTargetPosition, h d hd]
  unfold evaluateStopped
  rw [hfault, hat]

theorem isFan_of_isDamper {k : ChannelKind} (h : k.isDamper = true) : k.isFan = false := by
  cases k with
  | damper | curtain => rfl
  | unused | extractFan | supplyFan => cases h

/-- Every interlock of a lawful configuration is a damper or curtain (R167). -/
def InterlocksTravel (s : State) : Prop := ∀ c d : ChannelNo, d ∈ (s.chCfg c).interlocks → (s.chCfg d).kind.isDamper = true

/-- What the sequencers are after their start at the entry to ACTIVE (R48, R49, R64, R67). -/
structure Started (s t : State) : Prop where
  travel : ∀ c : ChannelNo, (s.chCfg c).kind.isDamper = true → t.ch c = travelStarted s c
  fan    : ∀ c : ChannelNo, (s.chCfg c).kind.isFan = true → t.ch c = { s.ch c with
    output := false, seq := fanIn (if (s.ch c).target = .off then .stopped else evaluateStopped t c) }

theorem startSequencers_started (h : InterlocksTravel s) : Started s (startSequencers s) := by
  have hrest := foldl_startDamper_lessSequencing allChannels s
  have hfans := startFan_ownStart
  have htravel (c : ChannelNo) (hc : (s.chCfg c).kind.isDamper = true) :
      (startSequencers s).ch c = travelStarted s c := by
    rw [startSequencers, hfans.foldl_ch_of_no_fan allChannels, startDampers_ch hc]
    rw [chCfg_congr (congrArg _ (lessSequencing_eq hrest).1) c]
    exact isFan_of_isDamper hc
  refine ⟨htravel, fun c hc => ?_⟩
  obtain ⟨u, hu, huc, hustill, hfold⟩ := hfans.foldl_ch allChannels (by decide) (mem_allChannels c)
    (allChannels.foldl (fun s c => startDamper c s) s)
  have husame := hu.trans hrest
  have hconfig : u.ctl.config = s.ctl.config := congrArg _ (lessSequencing_eq husame).1
  have heval : evaluateStopped u c = evaluateStopped (startSequencers s) c := by
    refine evaluateStopped_congr (hconfig.trans (congrArg _ (lessSequencing_eq (startSequencers_lessSequencing s)).1.symm))
      fun d hd => ?_
    rw [chCfg_congr (congrArg _ (lessSequencing_eq (startSequencers_lessSequencing s)).1) c] at hd
    have hdamper := h c d hd
    rw [htravel d hdamper, hustill d, startDampers_ch hdamper]
    rw [chCfg_congr (congrArg _ (lessSequencing_eq hrest).1) d]
    exact isFan_of_isDamper hdamper
  rw [startSequencers, hfold, startFan, if_pos (by rw [chCfg_congr hconfig c]; exact hc), enterStopped_ch, if_pos rfl, heval,
    ch_of_lessSequencing husame c]
  rfl

theorem interlocksTravel_of_modeLaw (h : ModeLaw s) : InterlocksTravel s := by
  obtain ⟨-, -, -, -, -, -, -, -, -, hlaw, -⟩ := h
  intro c d hd
  unfold State.chCfg State.cfg at hd ⊢
  cases hk : s.ctl.config with
  | none =>
    rw [hk] at hd
    have hblank : (blankConfig.channels[c.val]).interlocks = [] := by simp [blankConfig]
    rw [Option.getD_none, hblank] at hd
    cases hd
  | some k =>
    rw [hk] at hd
    obtain ⟨-, hchannels, -⟩ := hlaw k (by rw [hk]; exact List.mem_singleton_self k)
    obtain ⟨-, -, -, -, hinterlocks, -⟩ := hchannels c
    exact hinterlocks d hd

theorem InterlocksTravel.congr (h : InterlocksTravel s) (hconfig : t.ctl.config = s.ctl.config) : InterlocksTravel t := by
  intro c d hd
  rw [chCfg_congr hconfig] at hd ⊢
  exact h c d hd

/-! ### The entry to ACTIVE (R170) -/

/-- The node with its sequencers started and listening complete, before the start tests. -/
def activeStarted (s : State) : State := completeListening (graceStart (startSequencers (recompute (activated s))))

theorem enterActive_eq (s : State) : enterActive s = startTests (activeStarted s) := rfl

theorem graceStart_chans (s : State) : (graceStart s).chans = s.chans := by
  unfold graceStart
  split <;> rfl

theorem completeListening_chans (s : State) : (completeListening s).chans = s.chans := by
  obtain ⟨-, -, -, hchans, -⟩ := lessReports_eq (completeListening_lessReports s)
  exact hchans

theorem activeStarted_chans (s : State) : (activeStarted s).chans = (startSequencers (recompute (activated s))).chans := by
  rw [activeStarted, completeListening_chans, graceStart_chans]

theorem recompute_ctl (s : State) : (recompute s).ctl = s.ctl := (lessRoles_eq (recompute_lessRoles s)).1

theorem activated_config (s : State) : (activated s).ctl.config = s.ctl.config := rfl

theorem enterActive_config (s : State) : (enterActive s).ctl.config = s.ctl.config := by
  rw [(lessRoles_eq (enterActive_lessRoles s)).1]

theorem ch_congr (h : t.chans = s.chans) (c : ChannelNo) : t.ch c = s.ch c := by
  unfold State.ch
  rw [h]

/-- After the entry to ACTIVE every damper and curtain stands as derived (R48, R49). -/
theorem enterActive_travel (hs : InterlocksTravel s) (hc : (s.chCfg c).kind.isDamper = true) :
    ((enterActive s).ch c).seq = deriveTravel (enterActive s) c
      ∧ ((enterActive s).ch c).output = decide (((enterActive s).ch c).target = .on) := by
  have hconfig : (recompute (activated s)).ctl.config = s.ctl.config := by rw [recompute_ctl, activated_config]
  have hch := (startSequencers_started (hs.congr hconfig)).travel c (by rw [chCfg_congr hconfig]; exact hc)
  rw [← ch_congr (activeStarted_chans s) c] at hch
  have hstill : (enterActive s).ch c = travelStarted (recompute (activated s)) c := by
    have hnofan : ((activeStarted s).ch c).seq.fanState = none := by
      rw [hch]
      exact fanState_of_isDamper (deriveTravel_isTravel _ c)
    rw [enterActive_eq, startTests_ch_of_not_waiting (waitsForSlot_of_no_fan hnofan), hch]
  obtain ⟨htarget, hA, hB, hseq, houtput⟩ := travelStarted_kept (recompute (activated s)) c
  rw [← hstill] at htarget hA hB hseq houtput
  have hderive : deriveTravel (enterActive s) c = deriveTravel (recompute (activated s)) c :=
    deriveTravel_congr ((enterActive_config s).trans hconfig.symm) htarget hA hB
  rw [hderive]
  exact ⟨hseq, houtput⟩

/-- After the entry to ACTIVE a fan with target STOP is in STOPPED (R64, R67). -/
theorem enterActive_stopped (hs : InterlocksTravel s) (hc : (s.chCfg c).kind.isFan = true)
    (htarget : ((enterActive s).ch c).target = .off) :
    ((enterActive s).ch c).seq = .fan .stopped none none ∧ ((enterActive s).ch c).output = false := by
  have hconfig : (recompute (activated s)).ctl.config = s.ctl.config := by rw [recompute_ctl, activated_config]
  have hch := (startSequencers_started (hs.congr hconfig)).fan c (by rw [chCfg_congr hconfig]; exact hc)
  rw [← ch_congr (activeStarted_chans s) c] at hch
  have hkept : ((enterActive s).ch c).target = ((activeStarted s).ch c).target :=
    (lessSequencing_eq_ch (startTests_lessSequencing (activeStarted s)) c).1
  have hoff : ((recompute (activated s)).ch c).target = .off := by
    rw [hkept, hch] at htarget
    exact htarget
  rw [hoff, if_pos rfl] at hch
  have hstill : (enterActive s).ch c = (activeStarted s).ch c := by
    rw [enterActive_eq]
    exact startTests_ch_of_not_waiting (by rw [waitsForSlot, hch]; rfl)
  rw [hstill, hch]
  exact ⟨rfl, rfl⟩

/-- With TX-FAIL clear no fan starts in isolation at the entry to ACTIVE. -/
theorem enterActive_chans (htx : s.link.txFail = false) : (enterActive s).chans = (activeStarted s).chans := by
  obtain ⟨hctl, -⟩ := lessRoles_eq (enterActive_lessRoles s)
  obtain ⟨-, -, -, -, htx', -⟩ := lessRoles_eq_link (enterActive_lessRoles s)
  obtain ⟨hctl', -⟩ := lessSequencing_eq (startTests_lessSequencing (activeStarted s))
  obtain ⟨-, -, -, -, htx'', -⟩ := lessSequencing_eq_link (startTests_lessSequencing (activeStarted s))
  rw [← enterActive_eq, hctl] at hctl'
  rw [← enterActive_eq, htx'] at htx''
  rw [enterActive_eq]
  exact startTests_chans_of_claiming (by rw [← hctl']; exact nofun) (by rw [← htx'']; exact htx)

/-- After the entry to ACTIVE a fan with target RUN is in the waiting state of its interlocks (R67). -/
theorem enterActive_waits (hs : InterlocksTravel s) (hc : (s.chCfg c).kind.isFan = true)
    (htarget : ((enterActive s).ch c).target = .on) (htx : s.link.txFail = false) :
    ((enterActive s).ch c).seq = .fan (evaluateStopped (enterActive s) c) none none
      ∧ ((enterActive s).ch c).output = false := by
  have hconfig : (recompute (activated s)).ctl.config = s.ctl.config := by rw [recompute_ctl, activated_config]
  have hch := (startSequencers_started (hs.congr hconfig)).fan c (by rw [chCfg_congr hconfig]; exact hc)
  have hchans := (enterActive_chans htx).trans (activeStarted_chans s)
  have hsequenced : (startSequencers (recompute (activated s))).ctl.config = s.ctl.config := by
    rw [(lessSequencing_eq (startSequencers_lessSequencing _)).1, hconfig]
  have heval : evaluateStopped (enterActive s) c = evaluateStopped (startSequencers (recompute (activated s))) c :=
    evaluateStopped_congr ((enterActive_config s).trans hsequenced.symm) fun d _ => by rw [ch_congr hchans d]
  rw [← ch_congr hchans c] at hch
  have hon : ((recompute (activated s)).ch c).target = .on := by
    rw [hch] at htarget
    exact htarget
  rw [hon, if_neg (show Target.on ≠ Target.off by decide)] at hch
  rw [heval, hch]
  exact ⟨rfl, rfl⟩

end Sys2Proof.Machine

end

section
/-! The LISTEN timer and the quiet timer: O28 (R10, R48, R49, R64, R67, R131, R132, R169 to R171). -/

namespace Sys2Proof.Machine

variable {s t u : State} {c : ChannelNo} {x : Cond}

/-! ### Conditions and containment at the entry to ACTIVE (R113, R132, R170) -/

theorem completeListening_mem (hx : x.code ≠ .neighbourSilent) :
    x ∈ (completeListening s).trouble.active ↔ x ∈ s.trouble.active := by
  unfold completeListening
  split
  · rfl
  · rw [mem_raiseSilent]
    refine or_iff_left ?_
    rintro ⟨z, -, rfl, -⟩
    exact hx rfl

/-- The entry to ACTIVE reports silent neighbours and nothing of the other blocks (R132). -/
theorem enterActive_mem (hx : x.code.ofChannel = false) (hc : x.code ≠ .containmentNotAchieved)
    (hn : x.code ≠ .neighbourSilent) : x ∈ (enterActive s).trouble.active ↔ x ∈ s.trouble.active := by
  have htracks := membership_tracks hx hc (x ∈ s.trouble.active)
  have hroles : x ∈ (recompute (activated s)).trouble.active ↔ x ∈ s.trouble.active := recompute_mem hx hc
  have hstarted := startSequencers_tracks htracks hroles
  rw [enterActive_eq, startTests_trouble, activeStarted, completeListening_mem hn]
  exact graceStart_tracks htracks hstarted

/-- When listening completes, a neighbour still UNKNOWN is silent (R132). -/
theorem completeListening_silent {z : Nat} (hlow : 1 ≤ z) (hhigh : z ≤ 63) (hz : z ∈ s.cfg.neighbours)
    (hpresence : (s.peer z).presence = .unknown) (hlisten : s.peers.listened = false) :
    neighbourSilent z ∈ (completeListening s).trouble.active := by
  rw [completeListening, if_neg (by rw [hlisten]; exact Bool.false_ne_true), mem_raiseSilent]
  exact .inr ⟨z, ⟨hlow, hhigh⟩, rfl, hz, .inr ⟨hpresence, rfl⟩⟩

theorem startSequencers_contain (s : State) : (startSequencers s).contain = s.contain := by
  obtain ⟨-, -, -, -, hcontain, -⟩ := lessSequencing_eq (startSequencers_lessSequencing s)
  exact hcontain

theorem startTests_contain (s : State) : (startTests s).contain = s.contain := by
  obtain ⟨-, -, -, -, hcontain, -⟩ := lessSequencing_eq (startTests_lessSequencing s)
  exact hcontain

theorem completeListening_contain (s : State) : (completeListening s).contain = s.contain := by
  obtain ⟨-, -, -, -, -, -, hcontain, -⟩ := lessReports_eq (completeListening_lessReports s)
  exact hcontain

theorem graceStart_runs (s : State) : (graceStart s).contain.state = .pending → (graceStart s).contain.grace ≠ none := by
  unfold graceStart
  split
  · exact fun _ => Option.some_ne_none _
  · next h => exact fun hpending hnone => h ⟨hpending, hnone⟩

theorem enterActive_grace (s : State) : (enterActive s).contain.state = .pending → (enterActive s).contain.grace ≠ none := by
  rw [enterActive_eq, startTests_contain, activeStarted, completeListening_contain]
  exact graceStart_runs _

/-- What the entry to ACTIVE leaves of peers and configuration until listening completes. -/
theorem enterActive_silent {z : Nat} (hlow : 1 ≤ z) (hhigh : z ≤ 63) (hz : z ∈ s.cfg.neighbours)
    (hpresence : (s.peer z).presence = .unknown) (hlisten : s.peers.listened = false) :
    neighbourSilent z ∈ (enterActive s).trouble.active := by
  have hinputs : InputsKept s (graceStart (startSequencers (recompute (activated s)))) :=
    InputsKept.trans (t := activated s) ⟨rfl, rfl, rfl, rfl, rfl, rfl, rfl⟩ <|
      (InputsKept.of_lessRoles (recompute_lessRoles _)).trans <|
        (InputsKept.of_lessSequencing (startSequencers_lessSequencing _)).trans (.of_lessRoles (graceStart_lessRoles _))
  rw [enterActive_eq, startTests_trouble, activeStarted]
  refine completeListening_silent hlow hhigh ?_ ?_ ?_
  · rw [hinputs.cfg]; exact hz
  · rw [peer_congr (congrArg _ hinputs.peers)]; exact hpresence
  · rw [hinputs.peers]; exact hlisten

theorem exec_listenTimerExpiry (hr : s.inReset = false) (hm : s.ctl.mode = .listen)
    (ht : s.ctl.listenTimer.isSome = true) : exec .listenTimerExpiry s = .next (settleRaises s (enterActive s)) := by
  change Host.Outcome.next (s.outside _) = _
  rw [outside_of_not_inReset hr, if_pos ⟨hm, ht⟩]

/-! ### The end of MUTE (R10, R120, R171) -/

/-- The node that leaves MUTE for the mode m, before the recompute: STATION-CONFLICT ended, stagger started, an owed
declaration queued again. -/
def muteLeft (x : ModeCtl) (m : Mode) (s : State) : State :=
  replaceDeclare (startStagger (setMode m ((endCond (plainCond .stationConflict) s).withCtl x)))

theorem replaceDeclare_cases (s : State) : ∃ b, replaceDeclare s = s.setQueued .fireDeclare b
    ∧ (s.ctl.mode = .listen ∨ s.ctl.mode = .active → s.reg.owed = true → b = true) := by
  unfold replaceDeclare placeDeclare
  split
  · split
    · exact ⟨true, rfl, fun _ _ => rfl⟩
    · next hm => exact ⟨s.link.queue.fireDeclare, rfl, fun h => absurd h hm⟩
  · next howed => exact ⟨s.link.queue.fireDeclare, rfl, fun _ h => absurd h howed⟩

/-- What the node that leaves MUTE keeps. -/
structure MuteLeft (x : ModeCtl) (m : Mode) (s t : State) : Prop where
  ctl       : t.ctl = { x with mode := m }
  reg       : t.reg = s.reg
  role      : t.role = s.role
  chans     : t.chans = s.chans
  meas      : t.meas = s.meas
  peers     : t.peers = s.peers
  panel     : t.panel = s.panel
  period    : t.status.period = some (s.station * 31)
  failCount : t.link.failCount = s.link.failCount
  txFail    : t.link.txFail = s.link.txFail
  declared  : s.reg.owed = true → t.link.queue.fireDeclare = true
  ended     : plainCond .stationConflict ∉ t.trouble.active

theorem muteLeft_left {x : ModeCtl} {m : Mode} (hs : s.station ≠ 0) (hx : x.straps = s.ctl.straps)
    (hm : m = .listen ∨ m = .active) : MuteLeft x m s (muteLeft x m s) := by
  obtain ⟨-, hreg, hrole, hchans, -, hmeas, -, hpeers, hpanel, -⟩ :=
    lessReports_eq (endCond_lessReports s (plainCond .stationConflict))
  obtain ⟨-, -, -, hfail, htx, -⟩ := lessReports_eq_link (endCond_lessReports s (plainCond .stationConflict))
  have hended : plainCond .stationConflict ∉ (endCond (plainCond .stationConflict) s).trouble.active :=
    fun h => ((mem_endCond s _ _).mp h).2 rfl
  unfold muteLeft
  generalize endCond (plainCond .stationConflict) s = v at *
  have hstation : (setMode m (v.withCtl x)).station = s.station := congrArg (fun y => (y.map (·.station)).getD 0) hx
  rw [startStagger_of_station (by rw [hstation]; exact hs), hstation]
  obtain ⟨b, hplace, hdeclared⟩ := replaceDeclare_cases ((setMode m (v.withCtl x)).withStatus
    { (setMode m (v.withCtl x)).status with period := some (s.station * 31) })
  rw [hplace]
  exact ⟨rfl, hreg, hrole, hchans, hmeas, hpeers, hpanel, rfl, hfail, htx,
    fun howed => hdeclared hm (by rw [← hreg] at howed; exact howed), hended⟩

/-- The Mode Controller when MUTE is left for LISTEN. -/
def listenAgain (s : State) : ModeCtl := { s.ctl with listenTimer := some 5000, quietTimer := none, origin := none }

/-- The Mode Controller when MUTE is left for ACTIVE. -/
def activeAgain (s : State) : ModeCtl := { s.ctl with quietTimer := none, origin := none }

theorem leaveMute_listen (h : s.ctl.origin = some .listen) : leaveMute s
    = endListenOnAlarm (recompute (declarationCheck (muteLeft (listenAgain s) .listen s))) := by
  have hctl : (endCond (plainCond .stationConflict) s).ctl = s.ctl := (lessReports_eq (endCond_lessReports s _)).1
  unfold leaveMute
  rw [h]
  dsimp only
  unfold reenterListen beginListen
  rw [hctl]
  rfl

theorem leaveMute_active (h : s.ctl.origin = some .active) : leaveMute s
    = startTests (completeListening (recompute (muteLeft (activeAgain s) .active s))) := by
  have hctl : (endCond (plainCond .stationConflict) s).ctl = s.ctl := (lessReports_eq (endCond_lessReports s _)).1
  unfold leaveMute
  rw [h]
  dsimp only
  rw [hctl]
  rfl

theorem exec_muteQuietTimerExpiry (hr : s.inReset = false) (hm : s.ctl.mode = .mute)
    (ht : s.ctl.quietTimer.isSome = true) : exec .muteQuietTimerExpiry s = .next (settleRaises s (leaveMute s)) := by
  change Host.Outcome.next (s.outside _) = _
  rw [outside_of_not_inReset hr, if_pos ⟨hm, ht⟩]

theorem endListenOnAlarm_mem (hx : x.code.ofChannel = false) (hc : x.code ≠ .containmentNotAchieved)
    (hn : x.code ≠ .neighbourSilent) : x ∈ (endListenOnAlarm s).trouble.active ↔ x ∈ s.trouble.active := by
  unfold endListenOnAlarm
  split
  · exact enterActive_mem hx hc hn
  · rfl

/-- What every end of MUTE leaves (R10, R120, R171). -/
structure Unmuted (s t : State) : Prop where
  period    : t.status.period = some (s.station * 31)
  owed      : s.reg.owed = true → t.reg = s.reg ∧ t.link.queue.fireDeclare = true
  records   : t.reg.records = s.reg.records
  meas      : t.meas = s.meas
  entries   : t.peers.entries = s.peers.entries
  panel     : t.panel = s.panel
  failCount : t.link.failCount = s.link.failCount
  txFail    : t.link.txFail = s.link.txFail

theorem MuteLeft.unmuted {x : ModeCtl} {m : Mode} (h : MuteLeft x m s t) : Unmuted s t :=
  ⟨h.period, fun howed => ⟨h.reg, h.declared howed⟩, congrArg _ h.reg, h.meas, congrArg _ h.peers, h.panel, h.failCount,
    h.txFail⟩

theorem Unmuted.of_lessRoles (h : Unmuted s t) (k : u.lessRoles = t.lessRoles) : Unmuted s u := by
  obtain ⟨-, hreg, -, hmeas, hpeers, hpanel, -⟩ := lessRoles_eq k
  obtain ⟨-, -, -, hfail, htx, -, hdeclare, hperiod, -⟩ := lessRoles_eq_link k
  exact ⟨hperiod.trans h.period, fun howed => ⟨hreg.trans (h.owed howed).1, hdeclare.trans (h.owed howed).2⟩,
    (congrArg _ hreg).trans h.records, hmeas.trans h.meas, (congrArg _ hpeers).trans h.entries, hpanel.trans h.panel,
    hfail.trans h.failCount, htx.trans h.txFail⟩

/-- The declaration check of a node that has left MUTE: an owed declaration is left as it is. -/
theorem MuteLeft.checked {x : ModeCtl} {m : Mode} (h : MuteLeft x m s t) : Unmuted s (declarationCheck t) := by
  have hleft := h.unmuted
  cases howed : t.reg.owed with
  | true =>
    rw [declarationCheck_idle (.inr (.inr (.inl howed)))]
    exact hleft
  | false =>
    rw [h.reg] at howed
    obtain ⟨r, q, hrecords, hcheck⟩ := declarationCheck_cases t
    rw [hcheck]
    exact ⟨hleft.period, fun k => absurd k (by rw [howed]; exact Bool.false_ne_true), hrecords.trans hleft.records,
      hleft.meas, hleft.entries, hleft.panel, hleft.failCount, hleft.txFail⟩

/-- MUTE of origin LISTEN ends in LISTEN, or in ACTIVE at once (R169, R171). -/
theorem leaveMute_toListen (hs : s.station ≠ 0) (h : s.ctl.origin = some .listen) :
    Unmuted s (leaveMute s) ∧ plainCond .stationConflict ∉ (leaveMute s).trouble.active
      ∧ (leaveMute s).ctl = { listenAgain s with
        mode := if s.panel.alarm.level then .active else .listen
        listenTimer := if s.panel.alarm.level then none else some 5000 } := by
  have hleft : MuteLeft (listenAgain s) .listen s (muteLeft (listenAgain s) .listen s) := muteLeft_left hs rfl (.inl rfl)
  rw [leaveMute_listen h]
  generalize muteLeft (listenAgain s) .listen s = v at *
  have hchecked := hleft.checked
  obtain ⟨r, q, -, hcheck⟩ := declarationCheck_cases v
  have hctl : (declarationCheck v).ctl = { listenAgain s with mode := .listen } := by
    rw [hcheck]
    exact hleft.ctl
  have hended : plainCond .stationConflict ∉ (declarationCheck v).trouble.active := by
    rw [hcheck]
    exact hleft.ended
  have hroles := endListenOnAlarm_lessRoles (recompute_lessRoles (declarationCheck v))
  rw [hchecked.panel] at hroles
  refine ⟨?_, fun hmem => hended ?_, ?_⟩
  · refine Unmuted.of_lessRoles ?_ hroles
    cases s.panel.alarm.level with
    | true => exact ⟨hchecked.period, hchecked.owed, hchecked.records, hchecked.meas, hchecked.entries, hchecked.panel,
        hchecked.failCount, hchecked.txFail⟩
    | false => exact hchecked
  · rw [endListenOnAlarm_mem (x := plainCond .stationConflict) rfl nofun nofun,
      recompute_mem (x := plainCond .stationConflict) rfl nofun] at hmem
    exact hmem
  · rw [(lessRoles_eq hroles).1]
    cases s.panel.alarm.level with
    | true => exact congrArg (fun x => { x with mode := .active, listenTimer := none }) hctl
    | false => exact hctl

/-- MUTE of origin ACTIVE ends in ACTIVE (R171). -/
theorem leaveMute_toActive (hs : s.station ≠ 0) (h : s.ctl.origin = some .active) :
    Unmuted s (leaveMute s) ∧ plainCond .stationConflict ∉ (leaveMute s).trouble.active
      ∧ (leaveMute s).ctl = { activeAgain s with mode := .active } := by
  have hleft : MuteLeft (activeAgain s) .active s (muteLeft (activeAgain s) .active s) := muteLeft_left hs rfl (.inr rfl)
  rw [leaveMute_active h]
  generalize muteLeft (activeAgain s) .active s = v at *
  have hroles : (startTests (completeListening (recompute v))).lessRoles
      = (v.withPeers { v.peers with listened := true }).lessRoles := by
    rw [lessRoles_of_lessSequencing (startTests_lessSequencing _),
      lessRoles_of_lessSequencing (lessSequencing_of_lessReports (completeListening_lessReports _)),
      (lessRoles_eq (recompute_lessRoles v)).2.2.2.2.1, withPeers_lessRoles, recompute_lessRoles]
    rfl
  have hunmuted := hleft.unmuted
  refine ⟨Unmuted.of_lessRoles ?_ hroles, fun hmem => hleft.ended ?_, ?_⟩
  · exact ⟨hunmuted.period, hunmuted.owed, hunmuted.records, hunmuted.meas, hunmuted.entries, hunmuted.panel,
      hunmuted.failCount, hunmuted.txFail⟩
  · rw [startTests_trouble, completeListening_mem (x := plainCond .stationConflict) nofun,
      recompute_mem (x := plainCond .stationConflict) rfl nofun] at hmem
    exact hmem
  · rw [(lessRoles_eq hroles).1]
    exact hleft.ctl

/-- No damper or curtain of a node muted from ACTIVE moves when MUTE ends (R171). -/
theorem leaveMute_travel (hs : s.station ≠ 0) (h : s.ctl.origin = some .active) (ha : s.ctl.mode.applies = true)
    (hroles : RoleLaw s) (hnofan : (s.ch c).seq.fanState = none) : (leaveMute s).ch c = s.ch c := by
  have hleft : MuteLeft (activeAgain s) .active s (muteLeft (activeAgain s) .active s) := muteLeft_left hs rfl (.inr rfl)
  rw [leaveMute_active h]
  generalize muteLeft (activeAgain s) .active s = v at *
  have hkept : ResolverKept s v := ⟨⟨congrArg _ hleft.role, hleft.reg, hleft.peers, by rw [hleft.ctl]; rfl,
    by rw [hleft.ctl]; rfl, hleft.meas, hleft.panel⟩, hleft.role, fun d => congrArg _ (ch_congr hleft.chans d)⟩
  have hstand := (rolesStand_of_roleLaw hroles ha).kept hkept
  have happlies : v.ctl.mode.applies = true := by rw [hleft.ctl]; rfl
  have hch : (derived v).ch c = s.ch c := ch_congr hleft.chans c
  have hrecomputed : (completeListening (recompute v)).ch c = s.ch c := by
    rw [ch_congr (completeListening_chans _), hstand.recompute_eq happlies,
      startTests_ch_of_not_waiting (waitsForSlot_of_no_fan (by rw [hch]; exact hnofan)), hch]
  rw [startTests_ch_of_not_waiting (waitsForSlot_of_no_fan (by rw [hrecomputed]; exact hnofan)), hrecomputed]

theorem SequencerLaw.no_fan (h : SequencerLaw s c) (hc : (s.chCfg c).kind.isFan = false) : (s.ch c).seq.fanState = none := by
  obtain ⟨-, h⟩ := h
  cases hq : (s.ch c).seq with
  | stopped | damper => rfl
  | fan st p r =>
    rw [hq] at h
    obtain ⟨-, hfan, -⟩ := h
    rw [hc] at hfan
    cases hfan

end Sys2Proof.Machine

open Sys2Proof Sys2Proof.Machine in
/-- Settles O28: the entry to ACTIVE by what each block becomes, then the two ends of MUTE. -/
theorem modeTimersEnterTheirModes : Obligations.ModeTimersEnterTheirModes := by
  refine ⟨fun s hs hr hm htimer => ⟨_, exec_listenTimerExpiry hr hm htimer, ?_⟩, fun s hs hr hm => ?_⟩
  · have htravels := interlocksTravel_of_modeLaw hs
    have hsettled := settleRaises_lessReports s (enterActive s)
    obtain ⟨hctl, hreg, hrole, hchans, -, hmeas, hcontain, hpeers, hpanel, -⟩ := lessReports_eq hsettled
    obtain ⟨-, -, -, -, -, -, -, -, hperiod, -⟩ := lessReports_eq_link hsettled
    obtain ⟨hctl', hreg', hover', hmeas', hpeers', hpanel', -⟩ := lessRoles_eq (enterActive_lessRoles s)
    obtain ⟨-, -, -, -, -, -, -, hperiod', -⟩ := lessRoles_eq_link (enterActive_lessRoles s)
    have hconfig : (settleRaises s (enterActive s)).ctl.config = s.ctl.config := by rw [hctl, enterActive_config]
    have hderive (c : ChannelNo) : deriveTravel (settleRaises s (enterActive s)) c = deriveTravel (enterActive s) c :=
      deriveTravel_of_lessSequencing (lessSequencing_of_lessReports hsettled) c
    have heval (c : ChannelNo) : evaluateStopped (settleRaises s (enterActive s)) c = evaluateStopped (enterActive s) c :=
      evaluateStopped_congr (congrArg _ hctl) fun d _ => by rw [ch_congr hchans d]
    refine ⟨hctl.trans hctl', hreg.trans hreg', hmeas.trans hmeas', hpanel.trans hpanel', hpeers.trans hpeers',
      hperiod.trans hperiod', (congrArg _ hrole).trans hover', fun c hc => ?_, fun c hc => ?_, fun c hc => ?_,
      fun z hz hhigh hlow hpresence hlisten => ?_, ?_⟩
    · rw [chCfg_congr hconfig] at hc
      rw [hderive, ch_congr hchans]
      exact enterActive_travel htravels hc
    · rw [chCfg_congr hconfig] at hc
      rw [ch_congr hchans]
      exact enterActive_stopped htravels hc
    · rw [chCfg_congr hconfig] at hc
      rw [heval, ch_congr hchans]
      exact enterActive_waits htravels hc
    · exact (settleRaises_mem _ _).mpr (enterActive_silent hlow hhigh hz hpresence hlisten)
    · rw [hcontain]
      exact enterActive_grace s
  · obtain ⟨hlisten, -, hquiet, -, horigin, -, -, hstation, -⟩ := hs
    have happlies : s.ctl.mode.applies = true := by rw [hm]; rfl
    have hstation : s.station ≠ 0 := Nat.ne_of_gt (hstation (.inr happlies))
    refine ⟨_, exec_muteQuietTimerExpiry hr hm (hquiet.mpr hm), ?_⟩
    have hsettled := settleRaises_lessReports s (leaveMute s)
    have hroles := lessRoles_of_lessSequencing (lessSequencing_of_lessReports hsettled)
    obtain ⟨hctl, -, -, hchans, -⟩ := lessReports_eq hsettled
    have hmem := settleRaises_mem (x := plainCond .stationConflict) s (leaveMute s)
    obtain ⟨o, ho⟩ := Option.isSome_iff_exists.mp (horigin.mpr hm)
    cases o with
    | listen =>
      obtain ⟨hunmuted, hended, hctl'⟩ := leaveMute_toListen hstation ho
      obtain ⟨hperiod, howed, hrecords, hmeas, hentries, hpanel, hfail, htx⟩ := hunmuted.of_lessRoles hroles
      rw [hmem, hctl, hctl', ho]
      refine ⟨hended, hperiod, nofun, fun _ ha => ?_, fun _ ha => ?_, howed, hrecords, hmeas, hentries, hpanel, hfail, htx,
        nofun⟩
      · rw [ha]
        rfl
      · have hnone : s.ctl.listenTimer = none :=
          Option.not_isSome_iff_eq_none.mp fun h => nomatch hm.symm.trans (hlisten.mp h)
        have hstopped : ({ s.ctl with listenTimer := none } : ModeCtl) = s.ctl := by rw [← hnone]
        rw [ha]
        exact congrArg (fun x : ModeCtl => { x with mode := .active, quietTimer := none, origin := none }) hstopped
    | active =>
      obtain ⟨hunmuted, hended, hctl'⟩ := leaveMute_toActive hstation ho
      obtain ⟨hperiod, howed, hrecords, hmeas, hentries, hpanel, hfail, htx⟩ := hunmuted.of_lessRoles hroles
      rw [hmem, hctl, hctl', ho]
      refine ⟨hended, hperiod, fun _ => rfl, nofun, nofun, howed, hrecords, hmeas, hentries, hpanel, hfail, htx,
        fun hrole hchannels _ c hc => ?_⟩
      rw [ch_congr hchans]
      exact leaveMute_travel hstation ho happlies hrole ((hchannels c).no_fan (isFan_of_isDamper hc))
end

section
/-! A warm-reset release sets the mode and keeps a full record: O24 (R172, R173). -/

namespace Sys2Proof.Machine

variable {s t u : State} {c : ChannelNo} {r : FirstFault}

theorem exec_warmReset (hr : s.inReset = true) (hfive : s.panel.reset.fiveSecs = false) :
    exec .warmReset s = .next (settleRaises s (warmReset s)) := by
  change Host.Outcome.next _ = _
  rw [if_pos ⟨hr, hfive⟩]

/-! ### A full record that no ACK of this moment filled (R159, R162) -/

theorem startStagger_record (h : s.trouble.record = some r) : (startStagger s).trouble.record = some r := by
  unfold startStagger
  split
  · rw [queueStatus_trouble]
    exact h
  · exact h

theorem endListenOnAlarm_record (hr : r.acked = false) (h : s.trouble.record = some r) :
    (endListenOnAlarm s).trouble.record = some r := by
  unfold endListenOnAlarm
  split
  · exact (enterActive_reports s).record hr h
  · exact h

theorem resumeBlocks_record (hr : r.acked = false) (h : s.trouble.record = some r) :
    (resumeBlocks s).trouble.record = some r := by
  have hstagger : (startStagger (resumePeers (resumeMeasure s))).trouble.record = some r := startStagger_record h
  have hbefore (x : StartLogic) (v : State) (hv : v.trouble.record = some r) :
      (raiseSilent (resumeConditions (v.withStarts x))).trouble.record = some r :=
    ReportRun.record ((resumeConditions_reports _).trans (raiseSilent_reports _)) hr hv
  have hafter (v : State) (hv : v.trouble.record = some r) :
      (resumeContain (recompute (resumeDeclaration v))).trouble.record = some r :=
    ReportRun.record ((resumeDeclaration_reports v).trans ((recompute_reports _).trans (resumeContain_reports _))) hr hv
  have hresumed : (resumeBefore s).trouble.record = some r := by
    unfold resumeBefore
    dsimp only
    exact hbefore _ _ hstagger
  rw [resumeBlocks_eq]
  exact hafter (resumeBefore s) hresumed

theorem resumeActive_record (hr : r.acked = false) (h : s.trouble.record = some r) :
    (resumeActive s).trouble.record = some r := by
  have hafter (x : Vector Channel 12) (v : State) (hv : v.trouble.record = some r) :
      (startTests (completeListening (resumeSequencers x v))).trouble.record = some r :=
    ReportRun.record ((resumeSequencers_reports v x).trans ((completeListening_reports _).trans (startTests_reports _))) hr hv
  rw [resumeActive_eq]
  exact hafter _ _ (resumeBlocks_record hr h)

theorem resumeListen_record (hr : r.acked = false) (h : s.trouble.record = some r) :
    (resumeListen s).trouble.record = some r := by
  rw [resumeListen_eq]
  exact endListenOnAlarm_record hr (resumeBlocks_record hr h)

theorem sampleStraps_record (p : StrapPins) (h : s.trouble.record = some r) :
    (sampleStraps p s).trouble.record = some r := by
  rw [sampleStraps_eq]
  split
  · exact startStagger_record (raise_record_some _ h)
  · exact h

theorem warmReset_record (hr : r.acked = false) (h : s.trouble.record = some r) : (warmReset s).trouble.record = some r := by
  have hreleased : (releaseReset s).trouble.record = some r := h
  unfold warmReset
  dsimp only
  split
  · exact sampleStraps_record _ hreleased
  · exact hreleased
  · exact resumeListen_record hr hreleased
  · exact resumeActive_record hr hreleased
  · exact resumeActive_record hr hreleased
  · exact startStagger_record (raise_record_some _ hreleased)

/-! ### The mode (R173) -/

theorem ctl_of_shell {x : Shell} (h : t.shell = x) : t.ctl = x.ctl := by
  rw [← h]
  rfl

theorem resumeActive_ctl (s : State) : (resumeActive s).ctl
    = { s.ctl with mode := .active, listenTimer := none, quietTimer := none, origin := none } :=
  ctl_of_shell (resumeActive_shell s)

theorem resumeDeclaration_panel (s : State) : (resumeDeclaration s).panel = s.panel := by
  unfold resumeDeclaration
  split
  · exact (placeDeclare_keeps _).2.2
  · obtain ⟨r, q, -, h⟩ := declarationCheck_cases s
    rw [h]
    rfl

theorem startStagger_panel (s : State) : (startStagger s).panel = s.panel := by
  unfold startStagger
  split
  · obtain ⟨-, -, -, -, -, -, -, -, hpanel, -⟩ := lessReports_eq
      (queueStatus_lessReports (s := s.withStatus { s.status with period := none }))
    exact hpanel
  · rfl

theorem resumeBlocks_panel (s : State) : (resumeBlocks s).panel = s.panel := by
  have hafter (v : State) : (resumeContain (recompute v)).panel = v.panel := by
    obtain ⟨-, -, -, -, -, hpanel, -⟩ :=
      lessRoles_eq ((resumeContain_lessRoles (recompute v)).trans (recompute_lessRoles v))
    exact hpanel
  have hbefore (v : State) : (raiseSilent (resumeConditions v)).panel = v.panel := by
    obtain ⟨-, -, -, -, -, -, -, -, hpanel, -⟩ :=
      lessReports_eq ((raiseSilent_lessReports (resumeConditions v)).trans (resumeConditions_lessReports v))
    exact hpanel
  rw [resumeBlocks_eq, hafter, resumeDeclaration_panel, resumeBefore, hbefore]
  exact startStagger_panel _

theorem endListenOnAlarm_ctl (s : State) : (endListenOnAlarm s).ctl
    = if s.panel.alarm.level then { s.ctl with mode := .active, listenTimer := none } else s.ctl := by
  rw [(lessRoles_eq (endListenOnAlarm_lessRoles (s := s) rfl)).1]
  split <;> rfl

theorem resumeListen_ctl (s : State) : (resumeListen s).ctl
    = { s.ctl with
        mode := if s.panel.alarm.level then .active else .listen
        listenTimer := if s.panel.alarm.level then none else some 5000, quietTimer := none, origin := none } := by
  rw [resumeListen_eq, endListenOnAlarm_ctl, resumeBlocks_panel, resumeBlocks_ctl]
  cases ha : s.panel.alarm.level with
  | true => exact if_pos ha
  | false => exact if_neg (show ¬s.panel.alarm.level = true by rw [ha]; exact Bool.false_ne_true)

/-- The mode and the straps of the table of R173 that START takes. -/
theorem sampleStraps_ctl (p : StrapPins) (s : State) : (sampleStraps p s).ctl
    = { s.ctl with mode := if p.station = 0 then .lockout else .config, straps := some (strapsOf p) } := by
  rw [sampleStraps_eq]
  split
  · next h =>
    obtain ⟨hctl, -⟩ := lessReports_eq (raise_lessReports (setMode .lockout (strapped p s)) (plainCond .configBad))
    rw [enterLockout, (startStagger_ownKept _).ctl, hctl]
    rfl
  · next h => rfl

theorem warmReset_of_start (h : s.ctl.mode = .start) : warmReset s = sampleStraps s.panel.straps (releaseReset s) := by
  have hm : (releaseReset s).ctl.mode = .start := h
  unfold warmReset
  dsimp only
  rw [hm]
  rfl

theorem warmReset_of_config (h : s.ctl.mode = .config) : warmReset s = releaseReset s := by
  have hm : (releaseReset s).ctl.mode = .config := h
  unfold warmReset
  dsimp only
  rw [hm]

theorem warmReset_of_listen (h : s.ctl.mode = .listen) : warmReset s = resumeListen (releaseReset s) := by
  have hm : (releaseReset s).ctl.mode = .listen := h
  unfold warmReset
  dsimp only
  rw [hm]

theorem warmReset_of_active (h : s.ctl.mode = .active ∨ s.ctl.mode = .mute) :
    warmReset s = resumeActive (releaseReset s) := by
  unfold warmReset
  dsimp only
  rcases h with h | h
  · rw [show (releaseReset s).ctl.mode = .active from h]
  · rw [show (releaseReset s).ctl.mode = .mute from h]

theorem warmReset_of_lockout (h : s.ctl.mode = .lockout) :
    warmReset s = startStagger (raise (plainCond .configBad) (releaseReset s)) := by
  have hm : (releaseReset s).ctl.mode = .lockout := h
  unfold warmReset
  dsimp only
  rw [hm]

end Sys2Proof.Machine

open Sys2Proof Sys2Proof.Machine in
/-- Settles O24: the Mode Controller after each mode's resumption, and the record along its reports. -/
theorem warmResetSetsTheMode : Obligations.WarmResetSetsTheMode := by
  intro s hs hr hfive
  refine ⟨_, exec_warmReset hr hfive, ?_⟩
  obtain ⟨hctl, -, -, -, -, -, -, -, hpanel, -⟩ := lessReports_eq (settleRaises_lessReports s (warmReset s))
  have hheld : (settleRaises s (warmReset s)).inReset = false := by
    rw [State.inReset, hpanel]
    exact warmReset_held s
  have hrecord (r : FirstFault) (h : s.trouble.record = some r) (hacked : r.acked = false) :
      (settleRaises s (warmReset s)).trouble.record = some r := by
    rw [settleRaises_idle fun hnone => by rw [h] at hnone; cases hnone]
    exact warmReset_record hacked h
  have hmem := settleRaises_mem (x := plainCond .configBad) s (warmReset s)
  rw [hctl, hmem]
  refine ⟨hheld, ?_⟩
  cases hm : s.ctl.mode with
  | start =>
    have h : (warmReset s).ctl = _ := (congrArg _ (warmReset_of_start hm)).trans (sampleStraps_ctl _ _)
    rw [h]
    exact ⟨rfl, fun k => absurd rfl k, fun _ => ⟨rfl, rfl⟩, nofun, nofun, nofun, nofun, hrecord⟩
  | config =>
    have h : (warmReset s).ctl = s.ctl := congrArg State.ctl (a₂ := releaseReset s) (warmReset_of_config hm)
    rw [h]
    exact ⟨rfl, fun _ => rfl, nofun, fun _ => hm, nofun, nofun, nofun, hrecord⟩
  | listen =>
    have h : (warmReset s).ctl = _ := (congrArg _ (warmReset_of_listen hm)).trans (resumeListen_ctl _)
    rw [h]
    refine ⟨rfl, fun _ => rfl, nofun, nofun, fun _ => ?_, nofun, nofun, hrecord⟩
    cases ha : s.panel.alarm.level with
    | true =>
      rw [show (releaseReset s).panel.alarm.level = true from ha]
      exact ⟨rfl, rfl⟩
    | false =>
      rw [show (releaseReset s).panel.alarm.level = false from ha]
      exact ⟨rfl, rfl⟩
  | active =>
    have h : (warmReset s).ctl = _ := (congrArg _ (warmReset_of_active (.inl hm))).trans (resumeActive_ctl _)
    rw [h]
    exact ⟨rfl, fun _ => rfl, nofun, nofun, nofun, fun _ => ⟨rfl, rfl, rfl⟩, nofun, hrecord⟩
  | mute =>
    have h : (warmReset s).ctl = _ := (congrArg _ (warmReset_of_active (.inr hm))).trans (resumeActive_ctl _)
    rw [h]
    exact ⟨rfl, fun _ => rfl, nofun, nofun, nofun, fun _ => ⟨rfl, rfl, rfl⟩, nofun, hrecord⟩
  | lockout =>
    obtain ⟨hraised, -⟩ := lessReports_eq (raise_lessReports (releaseReset s) (plainCond .configBad))
    have h : (warmReset s).ctl = s.ctl := by
      rw [warmReset_of_lockout hm, (startStagger_ownKept _).ctl, hraised]
      rfl
    rw [h]
    refine ⟨rfl, fun _ => rfl, nofun, nofun, nofun, nofun, fun _ => ⟨hm, ?_⟩, hrecord⟩
    rw [warmReset_of_lockout hm, (startStagger_same _).active, mem_raise _ _ _ (masked_plain rfl _)]
    exact .inl rfl
end

section
/-! A warm-reset release in LISTEN, ACTIVE and MUTE: what the blocks resume with: O25 (R25, R26, R43, R87, R107, R108, R117,
R120, R133). -/

namespace Sys2Proof.Machine

variable {s t u v : State} {c : ChannelNo} {x : Cond}

/-! ### The starts of the sequencers leave the start logic alone -/

theorem starts_of_spacing (h : t.spacing = s.spacing) : t.starts = s.starts := congrArg Prod.fst h

theorem startDamper_spacing (c : ChannelNo) (s : State) : (startDamper c s).spacing = s.spacing := by
  unfold startDamper
  split
  · exact setTravel_spacing c _ s
  · rfl

theorem startFan_spacing (c : ChannelNo) (s : State) : (startFan c s).spacing = s.spacing := by
  unfold startFan
  split
  · exact enterStopped_spacing c s
  · rfl

theorem enterStarting_spacing (c : ChannelNo) (s : State) : (enterStarting c s).spacing = s.spacing := by
  unfold enterStarting
  split <;> exact setSeq_spacing c _ s

theorem resumeFan_spacing (q : Sequencer) (c : ChannelNo) (s : State) : (resumeFan q c s).spacing = s.spacing := by
  unfold resumeFan
  split
  · split
    case h_5 => exact enterStopping_spacing c s
    case h_6 => exact enterStopped_spacing c s
    all_goals exact enterStarting_spacing c s
  · rfl

theorem startDampers_spacing (s : State) :
    (allChannels.foldl (fun s c => startDamper c s) s).spacing = s.spacing :=
  foldl_keeps s State.spacing _ (fun s c => startDamper_spacing c s) allChannels

theorem startSequencers_spacing (s : State) : (startSequencers s).spacing = s.spacing := by
  have hfans (u : State) : (allChannels.foldl (fun s c => startFan c s) u).spacing = u.spacing :=
    foldl_keeps u State.spacing _ (fun s c => startFan_spacing c s) allChannels
  rw [startSequencers, hfans, startDampers_spacing]

theorem resumeSequencers_spacing (before : Vector Channel 12) (s : State) :
    (resumeSequencers before s).spacing = s.spacing := by
  have hfans (u : State) : (allChannels.foldl (fun s c => resumeFan before[c.val].seq c s) u).spacing = u.spacing :=
    foldl_keeps u State.spacing (fun s (c : ChannelNo) => resumeFan before[c.val].seq c s)
      (fun s c => resumeFan_spacing before[c.val].seq c s) allChannels
  rw [resumeSequencers, hfans, startDampers_spacing]

theorem startSequencers_mem (hx : x.code.ofChannel = false) (hc : x.code ≠ .containmentNotAchieved) :
    x ∈ (startSequencers s).trouble.active ↔ x ∈ s.trouble.active := by
  have htracks := membership_tracks hx hc (x ∈ s.trouble.active)
  have hs : x ∈ s.trouble.active ↔ x ∈ s.trouble.active := Iff.rfl
  have hstarted := startSequencers_tracks htracks hs
  exact hstarted

theorem resumeSequencers_mem (before : Vector Channel 12) (hx : x.code.ofChannel = false)
    (hc : x.code ≠ .containmentNotAchieved) :
    x ∈ (resumeSequencers before s).trouble.active ↔ x ∈ s.trouble.active := by
  have htracks := membership_tracks hx hc (x ∈ s.trouble.active)
  exact resumeSequencers_tracks htracks (s := s) before (Iff.refl _)

/-! ### A recompute of a resolved node -/

/-- Role, assist flag, FIRE-MODE and targets read the records, whether each peer calls for assist, straps and
configuration. -/
theorem Resolved.moved (h : Resolved s) (hrole : t.role = s.role) (hrecords : t.reg.records = s.reg.records)
    (hstraps : t.ctl.straps = s.ctl.straps) (hconfig : t.ctl.config = s.ctl.config)
    (hcalls : ∀ z : Nat, callsForAssist (t.peer z) = callsForAssist (s.peer z))
    (htarget : ∀ c : ChannelNo, (t.ch c).target = (s.ch c).target) : Resolved t where
  role := by
    have hderive : deriveRole t = deriveRole s := by
      unfold deriveRole State.station State.cfg
      rw [hrole, hrecords, hstraps, hconfig]
    rw [hrole, hderive, h.role]
  assist := by
    have hderive : deriveAssist s.role.role t = deriveAssist s.role.role s := by
      unfold deriveAssist State.cfg
      simp only [hconfig, hrecords, hcalls]
    rw [hrole, hderive, ← h.assist]
  fireMode := by
    have hderive : deriveFireMode t = deriveFireMode s := by
      unfold deriveFireMode
      rw [hrole, hrecords]
    rw [hrole, hderive, h.fireMode]
  target c := by rw [htarget, newTarget_congr hrole hconfig (htarget c), h.target]

theorem resolved_of_roleLaw (h : RoleLaw s) (ha : s.ctl.mode.applies = true) (hfive : s.panel.reset.fiveSecs = false) :
    Resolved s := by
  obtain ⟨happlied, -⟩ := h
  obtain ⟨hrole, hassist, htarget, hfire⟩ := happlied ha
  exact ⟨hrole, hassist, hfire hfive, htarget⟩

/-- The recompute of a resolved node writes nothing; the start tests follow (R29). -/
theorem Resolved.recompute_eq (h : Resolved s) (ha : s.ctl.mode.applies = true) : recompute s = startTests s := by
  have hstand : RolesStand s := ⟨h.role, h.assist, h.target⟩
  have hderived : derived s = s := by
    rw [hstand.derived_eq, ← h.fireMode]
    rfl
  rw [hstand.recompute_eq ha, hderived]

theorem callsForAssist_resumePeer (n : Nat) (p : Peer) : callsForAssist (resumePeer n p) = callsForAssist p := by
  unfold resumePeer callsForAssist
  cases p.presence <;> rfl

/-! ### What stands from the moment the blocks have resumed -/

/-- Register, resolver, targets, inputs, measurement, peers, hold-off and the other blocks' conditions are as they were. -/
structure StandKept (s t : State) : Prop where
  config  : t.ctl.config = s.ctl.config
  reg     : t.reg = s.reg
  role    : t.role = s.role
  inputs  : ∀ c : ChannelNo, (t.ch c).target = (s.ch c).target ∧ (t.ch c).inA = (s.ch c).inA ∧ (t.ch c).inB = (s.ch c).inB
  meas    : t.meas = s.meas
  entries : t.peers.entries = s.peers.entries
  holdOff : t.starts.holdOff = s.starts.holdOff
  claim   : s.starts.claim = .absent → t.starts.claim = .absent
  declare : t.link.queue.fireDeclare = s.link.queue.fireDeclare
  period  : t.status.period = s.status.period
  active  : ∀ x : Cond, x.code.ofChannel = false → x.code ≠ .containmentNotAchieved → x.code ≠ .neighbourSilent →
    (x ∈ t.trouble.active ↔ x ∈ s.trouble.active)

namespace StandKept

theorem trans (h : StandKept s t) (k : StandKept t u) : StandKept s u where
  config := k.config.trans h.config
  reg := k.reg.trans h.reg
  role := k.role.trans h.role
  inputs c := ⟨(k.inputs c).1.trans (h.inputs c).1, (k.inputs c).2.1.trans (h.inputs c).2.1,
    (k.inputs c).2.2.trans (h.inputs c).2.2⟩
  meas := k.meas.trans h.meas
  entries := k.entries.trans h.entries
  holdOff := k.holdOff.trans h.holdOff
  claim hclaim := k.claim (h.claim hclaim)
  declare := k.declare.trans h.declare
  period := k.period.trans h.period
  active x hx hc hn := (k.active x hx hc hn).trans (h.active x hx hc hn)

theorem of_lessRoles (h : t.lessRoles = s.lessRoles) (hrole : t.role = s.role)
    (hinputs : ∀ c : ChannelNo, (t.ch c).target = (s.ch c).target ∧ (t.ch c).inA = (s.ch c).inA
      ∧ (t.ch c).inB = (s.ch c).inB)
    (hhold : t.starts.holdOff = s.starts.holdOff) (hclaim : s.starts.claim = .absent → t.starts.claim = .absent)
    (hactive : ∀ x : Cond, x.code.ofChannel = false → x.code ≠ .containmentNotAchieved →
      (x ∈ t.trouble.active ↔ x ∈ s.trouble.active)) : StandKept s t := by
  obtain ⟨hctl, hreg, -, hmeas, hpeers, -⟩ := lessRoles_eq h
  obtain ⟨-, -, -, -, -, -, hdeclare, hperiod, -⟩ := lessRoles_eq_link h
  exact ⟨congrArg _ hctl, hreg, hrole, hinputs, hmeas, congrArg _ hpeers, hhold, hclaim, hdeclare, hperiod,
    fun x hx hc _ => hactive x hx hc⟩

theorem of_lessSequencing (h : t.lessSequencing = s.lessSequencing) (hhold : t.starts.holdOff = s.starts.holdOff)
    (hclaim : s.starts.claim = .absent → t.starts.claim = .absent)
    (hactive : ∀ x : Cond, x.code.ofChannel = false → x.code ≠ .containmentNotAchieved →
      (x ∈ t.trouble.active ↔ x ∈ s.trouble.active)) : StandKept s t := by
  obtain ⟨-, -, hrole, -⟩ := lessSequencing_eq h
  exact of_lessRoles (lessRoles_of_lessSequencing h) hrole (lessSequencing_eq_ch h) hhold hclaim hactive

/-- With the hold-off running, no start test claims or starts (R72, R78). -/
theorem startTests (h : s.starts.holdOff.isSome = true) : StandKept s (startTests s) :=
  of_lessSequencing (startTests_lessSequencing s) (startTests_holdOff_of_runs h)
    (fun hclaim => by rw [startTests_idle hclaim h]; exact hclaim) fun x _ _ => by rw [startTests_trouble]

theorem completeListening (s : State) : StandKept s (completeListening s) := by
  obtain ⟨hctl, hreg, hrole, hchans, hstarts, hmeas, -, hpeers, -⟩ := lessReports_eq (completeListening_lessReports s)
  obtain ⟨-, -, -, -, -, -, hdeclare, -, hperiod, -⟩ := lessReports_eq_link (completeListening_lessReports s)
  exact ⟨congrArg _ hctl, hreg, hrole, fun c => by rw [ch_congr (completeListening_chans s) c]; exact ⟨rfl, rfl, rfl⟩, hmeas,
    (congrArg PeerTable.entries hpeers).trans rfl, congrArg _ hstarts, fun hclaim => (congrArg _ hstarts).trans hclaim,
    hdeclare, hperiod, fun x _ _ hn => completeListening_mem hn⟩

theorem settled (s t : State) : StandKept t (settleRaises s t) := by
  obtain ⟨-, -, -, -, hstarts, -⟩ := lessReports_eq (settleRaises_lessReports s t)
  exact of_lessSequencing (lessSequencing_of_lessReports (settleRaises_lessReports s t)) (congrArg _ hstarts)
    (fun hclaim => (congrArg _ hstarts).trans hclaim) fun x _ _ => settleRaises_mem s t

theorem resumeContain (s : State) : StandKept s (resumeContain s) := by
  have hset (st : ContainState) (g : Option Nat) : StandKept s (setContain st g s) := by
    obtain ⟨-, hrole, hchans, -, hstarts⟩ := setContain_keeps (s := s) st g
    exact of_lessRoles (setContain_lessRoles s st g) hrole (fun c => by rw [ch_congr hchans c]; exact ⟨rfl, rfl, rfl⟩)
      (congrArg _ hstarts) (fun hclaim => (congrArg _ hstarts).trans hclaim) fun x _ hc => setContain_mem st g hc
  unfold Machine.resumeContain
  split
  · split
    · exact hset _ _
    · exact hset _ _
  · exact hset _ _

theorem graceStart (s : State) : StandKept s (graceStart s) := by
  unfold Machine.graceStart
  split
  · exact of_lessRoles rfl rfl (fun _ => ⟨rfl, rfl, rfl⟩) rfl id fun _ _ _ => Iff.rfl
  · exact of_lessRoles rfl rfl (fun _ => ⟨rfl, rfl, rfl⟩) rfl id fun _ _ _ => Iff.rfl

theorem startSequencers (s : State) : StandKept s (startSequencers s) := by
  have hstarts := starts_of_spacing (startSequencers_spacing s)
  exact of_lessSequencing (startSequencers_lessSequencing s) (congrArg StartLogic.holdOff hstarts)
    (fun hclaim => (congrArg StartLogic.claim hstarts).trans hclaim) fun x hx hc =>
      startSequencers_mem hx hc

theorem resumeSequencers (before : Vector Channel 12) (s : State) : StandKept s (resumeSequencers before s) := by
  have hstarts := starts_of_spacing (resumeSequencers_spacing before s)
  exact of_lessSequencing (resumeSequencers_lessSequencing s before) (congrArg StartLogic.holdOff hstarts)
    (fun hclaim => (congrArg StartLogic.claim hstarts).trans hclaim) fun x hx hc =>
      resumeSequencers_mem before hx hc

theorem holdOff_runs (h : StandKept s t) (hrun : s.starts.holdOff.isSome = true) : t.starts.holdOff.isSome = true := by
  rw [h.holdOff]
  exact hrun

theorem resolvedRecompute (h : Resolved s) (ha : s.ctl.mode.applies = true) (hrun : s.starts.holdOff.isSome = true) :
    StandKept s (recompute s) := by
  rw [h.recompute_eq ha]
  exact startTests hrun

/-- The entry to ACTIVE of a resolved node whose hold-off runs. -/
theorem enterActive (h : Resolved s) (hrun : s.starts.holdOff.isSome = true) : StandKept s (enterActive s) := by
  have hactivated : StandKept s (activated s) :=
    ⟨rfl, rfl, rfl, fun _ => ⟨rfl, rfl, rfl⟩, rfl, rfl, rfl, id, rfl, rfl, fun _ _ _ _ => Iff.rfl⟩
  have hresolved : Resolved (activated s) := h.kept ⟨⟨rfl, rfl, rfl, rfl, rfl, rfl, rfl⟩, rfl, fun _ => rfl⟩
  have hrecomputed := hactivated.trans (resolvedRecompute hresolved rfl hrun)
  have hstarted := hrecomputed.trans (((startSequencers _).trans (graceStart _)).trans (completeListening _))
  have hrun' := hstarted.holdOff_runs hrun
  rw [enterActive_eq, activeStarted]
  exact hstarted.trans (startTests hrun')

end StandKept

/-! ### The blocks before own declaration (R43, R107, R108, R120, R133) -/

/-- Scan, peers, stagger and hold-off at the resumption. -/
def resumedBlocks (s : State) : State := { s with
  meas := { s.meas with scan := scanFrom s 0, channels := Vector.replicate 4 .reset }
  peers := { s.peers with entries := mapVec (resumePeer s.silence) s.peers.entries }
  status := { s.status with period := some (s.station * 31) }
  starts := { s.starts with holdOff := some (s.cfg.holdOff * 500) } }

theorem resumeBefore_eq (hs : s.station ≠ 0) : resumeBefore s = raiseSilent (resumeConditions (resumedBlocks s)) := by
  unfold resumeBefore
  rw [startStagger_of_station (show (resumePeers (resumeMeasure s)).station ≠ 0 from hs)]
  rfl

theorem resumeBefore_lessReports (hs : s.station ≠ 0) : (resumeBefore s).lessReports = (resumedBlocks s).lessReports := by
  rw [resumeBefore_eq hs, raiseSilent_lessReports, resumeConditions_lessReports]

theorem mem_raiseSilent_of_ne (hn : x.code ≠ .neighbourSilent) :
    x ∈ (raiseSilent s).trouble.active ↔ x ∈ s.trouble.active := by
  rw [mem_raiseSilent]
  refine or_iff_left ?_
  rintro ⟨z, -, rfl, -⟩
  exact hn rfl

/-- The conditions of latches and supply follow their causes (R25, R108). -/
theorem resumeConditions_mem (s : State) :
    (plainCond .registerFull ∈ (resumeConditions s).trouble.active ↔ s.reg.fullLatch = true)
      ∧ (plainCond .incidentSplit ∈ (resumeConditions s).trouble.active ↔ s.reg.splitLatch = true)
      ∧ (plainCond .fieldSupplyFail ∈ (resumeConditions s).trouble.active ↔ s.meas.supply = .fail)
      ∧ (plainCond .fieldSupplyLow ∈ (resumeConditions s).trouble.active ↔ s.meas.supply ≠ .normal) := by
  obtain ⟨-, hreg, -⟩ := lessReports_eq (followSupply_lessReports s s.meas.supply)
  have hsplit : (followSupply s.meas.supply s).reg.splitLatch = s.reg.splitLatch := congrArg _ hreg
  obtain ⟨-, hreg', -⟩ := lessReports_eq (followLatch_lessReports (followSupply s.meas.supply s) (plainCond .incidentSplit)
    (followSupply s.meas.supply s).reg.splitLatch)
  unfold resumeConditions
  dsimp only
  refine ⟨?_, ?_, ?_, ?_⟩
  · rw [mem_followLatch _ (masked_plain rfl _), hreg', hreg]
  · rw [mem_followLatch_of_ne _ (by decide), mem_followLatch _ (masked_plain rfl _), hsplit]
  · rw [mem_followLatch_of_ne _ (by decide), mem_followLatch_of_ne _ (by decide), fieldSupplyFail_mem_followSupply]
  · rw [mem_followLatch_of_ne _ (by decide), mem_followLatch_of_ne _ (by decide), fieldSupplyLow_mem_followSupply]

/-! ### Own declaration (R26) -/

/-- The resumption writes the register's own-declaration state and timer, and places FIRE-DECLARE. -/
theorem resumeDeclaration_cases (ha : s.ctl.mode = .listen ∨ s.ctl.mode = .active) : ∃ r b,
    resumeDeclaration s = (s.withReg r).setQueued .fireDeclare b
      ∧ r.records = s.reg.records ∧ r.fullLatch = s.reg.fullLatch ∧ r.splitLatch = s.reg.splitLatch
      ∧ (s.reg.owed = true → r.owed = true ∧ b = true
        ∧ r.isoTimer = if holdsZone s.station s.reg.records then none else some 3000)
      ∧ (s.reg.owed = false → s.panel.alarm.level = true → holdsZone s.station s.reg.records = false →
        r.owed = true ∧ r.isoTimer = some 3000 ∧ b = true) := by
  have happlies : s.ctl.mode.applies = true := by rcases ha with h | h <;> rw [h] <;> rfl
  have hplace (r : IncidentRegister) : placeDeclare (s.withReg r) = (s.withReg r).setQueued .fireDeclare true := if_pos ha
  unfold resumeDeclaration
  cases howed : s.reg.owed with
  | true =>
    rw [if_pos rfl, hplace]
    exact ⟨_, true, rfl, rfl, rfl, rfl, fun _ => ⟨howed, rfl, rfl⟩, nofun⟩
  | false =>
    rw [if_neg Bool.false_ne_true]
    by_cases hdue : s.panel.alarm.level = true ∧ holdsZone s.station s.reg.records = false
    · rw [declarationCheck_owes happlies hdue.1 hdue.2 howed, hplace]
      exact ⟨_, true, rfl, rfl, rfl, rfl, nofun, fun _ _ _ => ⟨rfl, rfl, rfl⟩⟩
    · have hidle : declarationCheck s = s := if_neg fun h => hdue ⟨h.2.1, h.2.2.1⟩
      rw [hidle]
      exact ⟨s.reg, s.link.queue.fireDeclare, rfl, rfl, rfl, rfl, nofun, fun _ ha hz => absurd ⟨ha, hz⟩ hdue⟩

/-! ### Containment at the resumption (R117) -/

/-- What R117 derives. -/
def containResumed (s : State) : ContainState :=
  if s.role.role.extract then (if boundarySet s = [] then .unsupervised else .pending) else .notApplicable

theorem containResumed_congr (hrole : t.role = s.role) (hconfig : t.ctl.config = s.ctl.config) :
    containResumed t = containResumed s := by
  unfold containResumed boundarySet State.prCfg State.cfg
  rw [hrole, hconfig]

theorem pendingGrace_congr (h : t.ctl = s.ctl) : pendingGrace t = pendingGrace s := by
  unfold pendingGrace State.sequencing graceTime State.cfg
  rw [h]

theorem resumeContain_contain (s : State) : (resumeContain s).contain
    = { state := containResumed s, grace := if containResumed s = .pending then pendingGrace s else none } := by
  unfold resumeContain containResumed
  split
  · split
    · exact (setContain_keeps s _ _).1
    · exact (setContain_keeps s _ _).1
  · exact (setContain_keeps s _ _).1

/-! ### The resumption of the blocks -/

/-- The node whose blocks have resumed, before the recompute. -/
def declaredAgain (s : State) : State := resumeDeclaration (resumeBefore s)

/-- What the blocks resume with, own declaration r in the register and b of its frame queued. -/
structure DeclaredAgain (s : State) (r : IncidentRegister) (b : Bool) : Prop where
  rest    : (declaredAgain s).lessReports = (((resumedBlocks s).withReg r).setQueued .fireDeclare b).lessReports
  records : r.records = s.reg.records
  full    : r.fullLatch = s.reg.fullLatch
  split   : r.splitLatch = s.reg.splitLatch
  owed    : s.reg.owed = true → r.owed = true ∧ b = true
    ∧ r.isoTimer = if holdsZone s.station s.reg.records then none else some 3000
  due     : s.reg.owed = false → s.panel.alarm.level = true → holdsZone s.station s.reg.records = false →
    r.owed = true ∧ r.isoTimer = some 3000 ∧ b = true
  latches : (plainCond .registerFull ∈ (declaredAgain s).trouble.active ↔ s.reg.fullLatch = true)
    ∧ (plainCond .incidentSplit ∈ (declaredAgain s).trouble.active ↔ s.reg.splitLatch = true)
  supply  : (plainCond .fieldSupplyFail ∈ (declaredAgain s).trouble.active ↔ s.meas.supply = .fail)
    ∧ (plainCond .fieldSupplyLow ∈ (declaredAgain s).trouble.active ↔ s.meas.supply ≠ .normal)

theorem redeclared_trouble (r : IncidentRegister) (b : Bool) (s : State) :
    ((s.withReg r).setQueued .fireDeclare b).trouble = s.trouble := rfl

theorem redeclared_lessReports (r : IncidentRegister) (b : Bool) (h : t.lessReports = s.lessReports) :
    ((t.withReg r).setQueued .fireDeclare b).lessReports = ((s.withReg r).setQueued .fireDeclare b).lessReports :=
  congrArg (fun v => (State.withReg v r).setQueued .fireDeclare b) h

theorem declaredAgain_spec (hs : s.station ≠ 0) (ha : s.ctl.mode = .listen ∨ s.ctl.mode = .active) :
    ∃ r b, DeclaredAgain s r b := by
  have hrest := resumeBefore_lessReports hs
  obtain ⟨hctl, hreg, -, -, -, -, -, -, hpanel, -⟩ := lessReports_eq hrest
  have hstation : (resumeBefore s).station = s.station := congrArg (fun y => (y.straps.map (·.station)).getD 0) hctl
  obtain ⟨hfull, hsplit, hfail, hlow⟩ := resumeConditions_mem (resumedBlocks s)
  have hmem (y : Cond) (hn : y.code ≠ .neighbourSilent) : y ∈ (resumeBefore s).trouble.active
      ↔ y ∈ (resumeConditions (resumedBlocks s)).trouble.active := by
    rw [resumeBefore_eq hs, mem_raiseSilent_of_ne hn]
  obtain ⟨r, b, hdeclared, hrecords, hfull', hsplit', howed, hdue⟩ := resumeDeclaration_cases (s := resumeBefore s)
    (by rw [hctl]; exact ha)
  rw [hreg] at hrecords hfull' hsplit' howed hdue
  rw [hstation] at howed hdue
  rw [hpanel] at hdue
  have hactive : (declaredAgain s).trouble.active = (resumeBefore s).trouble.active := by
    rw [declaredAgain, hdeclared, redeclared_trouble]
  refine ⟨r, b, ⟨?_, hrecords, hfull', hsplit', howed, hdue, ?_, ?_⟩⟩
  · rw [declaredAgain, hdeclared]
    exact redeclared_lessReports r b hrest
  · rw [hactive, hmem (plainCond .registerFull) nofun, hmem (plainCond .incidentSplit) nofun]
    exact ⟨hfull, hsplit⟩
  · rw [hactive, hmem (plainCond .fieldSupplyFail) nofun, hmem (plainCond .fieldSupplyLow) nofun]
    exact ⟨hfail, hlow⟩

theorem DeclaredAgain.resolved {r : IncidentRegister} {b : Bool} (h : DeclaredAgain s r b) (hs : Resolved s) :
    Resolved (declaredAgain s) := by
  obtain ⟨hctl, hreg, hrole, hchans, -, -, -, hpeers, -⟩ := lessReports_eq h.rest
  refine hs.moved hrole (by rw [hreg]; exact h.records) (by rw [hctl]; rfl) (by rw [hctl]; rfl) (fun z => ?_)
    fun c => congrArg _ (ch_congr (s := s) hchans c)
  have hpeer : (declaredAgain s).peer z = resumePeer s.silence (s.peer z) := by
    rw [peer_congr (s := resumedBlocks s) (congrArg _ hpeers)]
    exact peer_mapVec (x := (resumedBlocks s).shell) rfl rfl z
  rw [hpeer, callsForAssist_resumePeer]

/-- A resolved node resumes its blocks and stays resolved; containment is R117's. -/
theorem resumeBlocks_stand (hs : s.station ≠ 0) (ha : s.ctl.mode = .listen ∨ s.ctl.mode = .active) (h : Resolved s) :
    StandKept (declaredAgain s) (resumeBlocks s) ∧ Resolved (resumeBlocks s) ∧ (resumeBlocks s).contain
      = { state := containResumed s, grace := if containResumed s = .pending then pendingGrace s else none } := by
  obtain ⟨r, b, hdeclared⟩ := declaredAgain_spec hs ha
  have hresolved := hdeclared.resolved h
  obtain ⟨hctl, -, hrole, -, hstarts, -, -, -, -, -⟩ := lessReports_eq hdeclared.rest
  have happlies : (declaredAgain s).ctl.mode.applies = true := by
    rw [hctl]
    rcases ha with h | h <;> exact (congrArg Mode.applies h).trans rfl
  have hrun : (declaredAgain s).starts.holdOff.isSome = true := by
    rw [hstarts]
    rfl
  have heq : resumeBlocks s = resumeContain (startTests (declaredAgain s)) := by
    rw [resumeBlocks_eq, ← hresolved.recompute_eq happlies]
    rfl
  have hcontain : (resumeContain (startTests (declaredAgain s))).contain
      = { state := containResumed s, grace := if containResumed s = .pending then pendingGrace s else none } := by
    obtain ⟨hctl', -, hrole', -⟩ := lessSequencing_eq (startTests_lessSequencing (declaredAgain s))
    rw [resumeContain_contain, containResumed_congr (s := s) (hrole'.trans hrole) (congrArg _ (hctl'.trans hctl)),
      pendingGrace_congr (s := s) (hctl'.trans hctl)]
  rw [heq]
  have htests := StandKept.startTests hrun
  have hkept := htests.trans (StandKept.resumeContain (startTests (declaredAgain s)))
  have htested : Resolved (startTests (declaredAgain s)) :=
    hresolved.kept (.of_lessSequencing (startTests_lessSequencing (declaredAgain s)))
  refine ⟨hkept, ?_, hcontain⟩
  have hroles : InputsKept (startTests (declaredAgain s)) (resumeContain (startTests (declaredAgain s))) :=
    .of_lessRoles (resumeContain_lessRoles _)
  have hcontained := StandKept.resumeContain (startTests (declaredAgain s))
  exact htested.kept ⟨hroles, hcontained.role, fun c => (hcontained.inputs c).1⟩

/-! ### Containment when the sequencers start (R112, R117) -/

theorem graceStart_contain (s : State) : (graceStart s).contain = { s.contain with
    grace := if s.contain.state = .pending ∧ s.contain.grace = none then some (graceTime s) else s.contain.grace } := by
  unfold graceStart
  split <;> rfl

theorem graceTime_congr (h : t.ctl.config = s.ctl.config) : graceTime t = graceTime s := by
  unfold graceTime State.cfg
  rw [h]

/-- A resolved node that enters ACTIVE keeps its containment state; a stopped grace of PENDING starts. -/
theorem enterActive_contain (h : Resolved s) : (enterActive s).contain = { s.contain with
    grace := if s.contain.state = .pending ∧ s.contain.grace = none then some (graceTime s) else s.contain.grace } := by
  have hresolved : Resolved (activated s) := h.kept ⟨⟨rfl, rfl, rfl, rfl, rfl, rfl, rfl⟩, rfl, fun _ => rfl⟩
  have hcontain : (startSequencers (recompute (activated s))).contain = s.contain := by
    rw [startSequencers_contain, hresolved.recompute_eq rfl, startTests_contain]
    rfl
  have hgrace : graceTime (startSequencers (recompute (activated s))) = graceTime s :=
    graceTime_congr (by rw [(lessSequencing_eq (startSequencers_lessSequencing _)).1, recompute_ctl, activated_config])
  rw [enterActive_eq, startTests_contain, activeStarted, completeListening_contain, graceStart_contain, hcontain, hgrace]

/-! ### The released node (R156, R173) -/

/-- The node released into ACTIVE, its sequencers stopped and their outputs kept. -/
def releasedActive (s : State) : State :=
  setMode .active (((releaseReset s).withChans (haltSequencers s).chans).withCtl
    { s.ctl with listenTimer := none, quietTimer := none, origin := none })

/-- The node released into LISTEN, its sequencers stopped. -/
def releasedListen (s : State) : State :=
  setMode .listen (((releaseReset s).withChans (stopSequencers s).chans).withCtl
    { s.ctl with listenTimer := some 5000, quietTimer := none, origin := none })

/-- What a release keeps before the blocks resume. -/
structure Released (s t : State) : Prop where
  config : t.ctl.config = s.ctl.config
  straps : t.ctl.straps = s.ctl.straps
  reg    : t.reg = s.reg
  role   : t.role = s.role
  inputs : ∀ c : ChannelNo, (t.ch c).target = (s.ch c).target ∧ (t.ch c).inA = (s.ch c).inA ∧ (t.ch c).inB = (s.ch c).inB
  meas   : t.meas = s.meas
  peers  : t.peers = s.peers
  starts : t.starts = s.starts
  alarm  : t.panel.alarm = s.panel.alarm

theorem releasedActive_ch (s : State) (c : ChannelNo) :
    (releasedActive s).ch c = { s.ch c with seq := .stopped } := ch_mapVec (fun x => { x with seq := .stopped }) s c

theorem releasedListen_ch (s : State) (c : ChannelNo) :
    (releasedListen s).ch c = { s.ch c with seq := .stopped, output := false } :=
  ch_mapVec (fun x => { x with seq := .stopped, output := false }) s c

theorem releasedActive_released (s : State) : Released s (releasedActive s) :=
  ⟨rfl, rfl, rfl, rfl, fun c => by rw [releasedActive_ch]; exact ⟨rfl, rfl, rfl⟩, rfl, rfl, rfl, rfl⟩

theorem releasedListen_released (s : State) : Released s (releasedListen s) :=
  ⟨rfl, rfl, rfl, rfl, fun c => by rw [releasedListen_ch]; exact ⟨rfl, rfl, rfl⟩, rfl, rfl, rfl, rfl⟩

theorem Released.resolved (h : Released s t) (hs : Resolved s) : Resolved t :=
  hs.moved h.role (congrArg _ h.reg) h.straps h.config (fun z => by rw [peer_congr (congrArg _ h.peers)])
    fun c => (h.inputs c).1

theorem Released.station (h : Released s t) : t.station = s.station :=
  congrArg (fun y => (y.map (·.station)).getD 0) h.straps

theorem resumeActive_released (s : State) : resumeActive (releaseReset s) = startTests (completeListening
    (resumeSequencers s.chans (resumeBlocks (releasedActive s)))) := resumeActive_eq _

theorem resumeListen_released (s : State) :
    resumeListen (releaseReset s) = endListenOnAlarm (resumeBlocks (releasedListen s)) := resumeListen_eq _

theorem DeclaredAgain.runs {r : IncidentRegister} {b : Bool} (h : DeclaredAgain s r b) :
    (declaredAgain s).starts.holdOff.isSome = true := by
  obtain ⟨-, -, -, -, hstarts, -⟩ := lessReports_eq h.rest
  rw [hstarts]
  rfl

theorem Released.containResumed (h : Released s t) : containResumed t = containResumed s :=
  containResumed_congr h.role h.config

/-- The release into ACTIVE of a resolved node. -/
theorem resumeActive_stand (hs : s.station ≠ 0) (h : Resolved s) :
    StandKept (declaredAgain (releasedActive s)) (resumeActive (releaseReset s))
      ∧ (resumeActive (releaseReset s)).contain
        = { state := containResumed s, grace := if containResumed s = .pending then some (graceTime s) else none } := by
  have hreleased := releasedActive_released s
  have hstation : (releasedActive s).station ≠ 0 := by rw [hreleased.station]; exact hs
  obtain ⟨r, b, hdeclared⟩ := declaredAgain_spec hstation (.inr rfl)
  obtain ⟨hkept, -, hcontain⟩ := resumeBlocks_stand hstation (.inr rfl) (hreleased.resolved h)
  have hgrace : pendingGrace (releasedActive s) = some (graceTime s) := rfl
  rw [hreleased.containResumed, hgrace] at hcontain
  have hstarted := hkept.trans ((StandKept.resumeSequencers s.chans _).trans (StandKept.completeListening _))
  have hcontain' : (resumeSequencers s.chans (resumeBlocks (releasedActive s))).contain
      = (resumeBlocks (releasedActive s)).contain := by
    obtain ⟨-, -, -, -, hsame, -⟩ := lessSequencing_eq (resumeSequencers_lessSequencing (resumeBlocks (releasedActive s)) s.chans)
    exact hsame
  rw [resumeActive_released]
  refine ⟨hstarted.trans (StandKept.startTests (hstarted.holdOff_runs hdeclared.runs)), ?_⟩
  rw [startTests_contain, completeListening_contain, hcontain', hcontain]

theorem endListenOnAlarm_active (h : s.panel.alarm.level = true) : endListenOnAlarm s = enterActive s := if_pos h

theorem endListenOnAlarm_idle (h : s.panel.alarm.level = false) : endListenOnAlarm s = s :=
  if_neg (by rw [h]; exact Bool.false_ne_true)

/-- The release into LISTEN of a resolved node. -/
theorem resumeListen_stand (hs : s.station ≠ 0) (h : Resolved s) :
    StandKept (declaredAgain (releasedListen s)) (resumeListen (releaseReset s))
      ∧ (resumeListen (releaseReset s)).contain =
          { state := containResumed s
            grace := if containResumed s = .pending ∧ s.panel.alarm.level = true then some (graceTime s) else none } := by
  have hreleased := releasedListen_released s
  have hstation : (releasedListen s).station ≠ 0 := by rw [hreleased.station]; exact hs
  obtain ⟨r, b, hdeclared⟩ := declaredAgain_spec hstation (.inl rfl)
  obtain ⟨hkept, hresolved, hcontain⟩ := resumeBlocks_stand hstation (.inl rfl) (hreleased.resolved h)
  have hgrace : pendingGrace (releasedListen s) = none := rfl
  rw [hreleased.containResumed, hgrace, ite_self] at hcontain
  have halarm : (resumeBlocks (releasedListen s)).panel.alarm.level = s.panel.alarm.level := by
    rw [resumeBlocks_panel, hreleased.alarm]
  rw [resumeListen_released]
  cases ha : s.panel.alarm.level with
  | true =>
    have htime : graceTime (resumeBlocks (releasedListen s)) = graceTime s :=
      graceTime_congr (by rw [resumeBlocks_ctl]; exact hreleased.config)
    have hactive := StandKept.enterActive hresolved (hkept.holdOff_runs hdeclared.runs)
    rw [endListenOnAlarm_active (halarm.trans ha), enterActive_contain hresolved, hcontain, htime]
    refine ⟨hkept.trans hactive, ?_⟩
    simp only [and_true]
  | false =>
    rw [endListenOnAlarm_idle (halarm.trans ha), hcontain]
    refine ⟨hkept, ?_⟩
    simp only [Bool.false_eq_true, and_false, if_false]

/-- Every release in LISTEN, ACTIVE and MUTE is one of the two. -/
theorem warmReset_stand (hs : s.station ≠ 0) (h : Resolved s) (ha : s.ctl.mode.applies = true) :
    ∃ u, Released s u ∧ (u.ctl.mode = .listen ∨ u.ctl.mode = .active) ∧ StandKept (declaredAgain u) (warmReset s)
      ∧ (warmReset s).contain =
          { state := containResumed s
            grace := if containResumed s = .pending ∧ (warmReset s).ctl.mode = .active then some (graceTime s) else none } := by
  have hactive (hm : s.ctl.mode = .active ∨ s.ctl.mode = .mute) : ∃ u, Released s u
      ∧ (u.ctl.mode = .listen ∨ u.ctl.mode = .active) ∧ StandKept (declaredAgain u) (warmReset s)
      ∧ (warmReset s).contain =
          { state := containResumed s
            grace := if containResumed s = .pending ∧ (warmReset s).ctl.mode = .active then some (graceTime s) else none } := by
    obtain ⟨hkept, hcontain⟩ := resumeActive_stand hs h
    refine ⟨releasedActive s, releasedActive_released s, .inr rfl, ?_⟩
    rw [warmReset_of_active hm, resumeActive_ctl, hcontain]
    simp only [and_true]
    exact hkept
  cases hm : s.ctl.mode with
  | start | config | lockout => rw [hm] at ha; cases ha
  | active => exact hactive (.inl hm)
  | mute => exact hactive (.inr hm)
  | listen =>
    obtain ⟨hkept, hcontain⟩ := resumeListen_stand hs h
    refine ⟨releasedListen s, releasedListen_released s, .inl rfl, ?_⟩
    rw [warmReset_of_listen hm, resumeListen_ctl, hcontain]
    refine ⟨hkept, ?_⟩
    rw [show (releaseReset s).panel.alarm.level = s.panel.alarm.level from rfl]
    cases s.panel.alarm.level <;> simp

end Sys2Proof.Machine

open Sys2Proof Sys2Proof.Machine in
/-- Settles O25: the blocks as they resume, and what stands from there to the end of the release. -/
theorem warmResetKeepsAndZeroes : Obligations.WarmResetKeepsAndZeroes := by
  intro s hs hr hfive hroles ha
  obtain ⟨-, -, -, -, -, -, -, hstation, -⟩ := hs
  have hstation : s.station ≠ 0 := Nat.ne_of_gt (hstation (.inr ha))
  obtain ⟨u, hreleased, hmode, hkept, hcontain⟩ := warmReset_stand hstation (resolved_of_roleLaw hroles ha hfive) ha
  obtain ⟨r, b, hdeclared⟩ := declaredAgain_spec (by rw [hreleased.station]; exact hstation) hmode
  refine ⟨_, exec_warmReset hr hfive, ?_⟩
  obtain ⟨hctl, -, -, -, -, -, hcontain', -⟩ := lessReports_eq (settleRaises_lessReports s (warmReset s))
  rw [hcontain', hctl, hcontain]
  have hkept := hkept.trans (.settled s (warmReset s))
  generalize settleRaises s (warmReset s) = t at *
  obtain ⟨-, hreg, hrole, hchans, hstarts, hmeas, -, hpeers, -⟩ := lessReports_eq hdeclared.rest
  obtain ⟨-, -, -, -, -, -, hdeclare, -, hperiod, -⟩ := lessReports_eq_link hdeclared.rest
  obtain ⟨-, hrecords, hfull, hsplit, howed, hdue, ⟨hfullMem, hsplitMem⟩, hfailMem, hlowMem⟩ := hdeclared
  rw [hreleased.reg] at hrecords hfull hsplit howed hdue hfullMem hsplitMem
  rw [hreleased.meas] at hfailMem hlowMem
  rw [hreleased.station] at howed hdue
  rw [hreleased.alarm] at hdue
  have hreg' : t.reg = r := hkept.reg.trans hreg
  have hdeclare' : t.link.queue.fireDeclare = b := hkept.declare.trans hdeclare
  have hmeas' : t.meas = { s.meas with scan := scanFrom s 0, channels := Vector.replicate 4 .reset } := by
    rw [hkept.meas, hmeas, ← hreleased.meas, ← scanFrom_congr hreleased.config]
    rfl
  have hsupply : t.meas.supply = s.meas.supply := by rw [hmeas']
  have hinputs (c : ChannelNo) : (t.ch c).target = (s.ch c).target ∧ (t.ch c).inA = (s.ch c).inA
      ∧ (t.ch c).inB = (s.ch c).inB := by
    obtain ⟨htarget, hA, hB⟩ := hkept.inputs c
    obtain ⟨htarget', hA', hB'⟩ := hreleased.inputs c
    rw [ch_congr (s := u) hchans c] at htarget hA hB
    exact ⟨htarget.trans htarget', hA.trans hA', hB.trans hB'⟩
  have hpeer (z : Nat) : t.peer z = resumePeer s.silence (s.peer z) := by
    rw [peer_congr (s := resumedBlocks u) (hkept.entries.trans (congrArg _ hpeers)), ← silence_congr hreleased.straps,
      ← peer_congr (congrArg PeerTable.entries hreleased.peers) z]
    exact peer_mapVec (x := (resumedBlocks u).shell) rfl rfl z
  refine ⟨by rw [hreg', hrecords], by rw [hreg', hfull], by rw [hreg', hsplit], fun h => ?_, fun h => ?_, fun h hz => ?_,
    fun h hz => ?_, fun h => ?_, fun h ha hz => ?_, ?_, fun c => ⟨(hinputs c).1, (hinputs c).2.1, (hinputs c).2.2, ?_,
    fun h => ?_, fun p => ?_, hsupply, by rw [hmeas'], fun h => ?_, fun h => ?_, rfl, ?_, fun z => ?_, ?_⟩⟩
  · exact (hkept.active (plainCond .registerFull) rfl nofun nofun).mpr (hfullMem.mpr h)
  · exact (hkept.active (plainCond .incidentSplit) rfl nofun nofun).mpr (hsplitMem.mpr h)
  · rw [hreg', (howed h).2.2, hz]
    rfl
  · rw [hreg', (howed h).2.2, hz]
    rfl
  · rw [hreg', hdeclare']
    exact ⟨(howed h).1, (howed h).2.1⟩
  · rw [hreg', hdeclare']
    exact hdue h ha hz
  · rw [hkept.role, hrole]
    exact hreleased.role
  · rw [hkept.holdOff, hstarts]
    change some (u.cfg.holdOff * 500) = _
    rw [State.cfg, hreleased.config]
    rfl
  · refine hkept.claim ?_
    rw [hstarts]
    exact (congrArg StartLogic.claim hreleased.starts).trans h
  · rw [State.pressure, hmeas']
    exact Vector.getElem_replicate ..
  · rw [hsupply] at h
    exact (hkept.active (plainCond .fieldSupplyFail) rfl nofun nofun).mpr (hfailMem.mpr h)
  · rw [hsupply] at h
    exact (hkept.active (plainCond .fieldSupplyLow) rfl nofun nofun).mpr (hlowMem.mpr h)
  · rfl
  · rw [hpeer, resumePeer]
    cases (s.peer z.toNat).presence <;> rfl
  · rw [hkept.period, hperiod]
    exact congrArg (fun n => some (n * 31)) hreleased.station
end

section
/-! A warm-reset release in ACTIVE, or in MUTE entered from ACTIVE, leaves every output as it is: O26 (R60, R87). -/

namespace Sys2Proof.Machine

variable {s t u : State} {c d x : ChannelNo}

/-! ### Channels at the resumption -/

theorem resumeContain_chans (s : State) : (resumeContain s).chans = s.chans := by
  unfold resumeContain
  split
  · split
    · exact (setContain_keeps s _ _).2.2.1
    · exact (setContain_keeps s _ _).2.2.1
  · exact (setContain_keeps s _ _).2.2.1

/-- The blocks of a resolved node resume without moving a channel. -/
theorem resumeBlocks_chans (hs : s.station ≠ 0) (ha : s.ctl.mode = .listen ∨ s.ctl.mode = .active) (h : Resolved s) :
    (resumeBlocks s).chans = s.chans := by
  obtain ⟨r, b, hdeclared⟩ := declaredAgain_spec hs ha
  obtain ⟨hctl, -, -, hchans, -⟩ := lessReports_eq hdeclared.rest
  have happlies : (declaredAgain s).ctl.mode.applies = true := by
    rw [hctl]
    rcases ha with h | h <;> exact (congrArg Mode.applies h).trans rfl
  have hrecompute : (recompute (declaredAgain s)).chans = s.chans := by
    rw [(hdeclared.resolved h).recompute_eq happlies, startTests_chans _ hdeclared.runs]
    exact hchans
  rw [declaredAgain] at hrecompute
  rw [resumeBlocks_eq, resumeContain_chans, hrecompute]

theorem startDamper_idle (h : (s.chCfg c).kind.isDamper = false) : startDamper c s = s :=
  if_neg (by rw [h]; exact Bool.false_ne_true)

theorem foldl_startDamper_ch_of_no_damper (l : List ChannelNo) (h : (s.chCfg x).kind.isDamper = false)
    (hx : (s.ch x).seq.fanState = none) : (l.foldl (fun s c => startDamper c s) s).ch x = s.ch x := by
  induction l generalizing s with
  | nil => rfl
  | cons d l ih =>
    have hcfg : (startDamper d s).chCfg x = s.chCfg x :=
      chCfg_congr (congrArg _ (lessSequencing_eq (startDamper_lessSequencing s d)).1) x
    have hstep : (startDamper d s).ch x = s.ch x := by
      by_cases hd : d = x
      · subst hd
        rw [startDamper_idle h]
      · exact startDamper_ch_of_ne hd hx
    rw [List.foldl_cons, ih (by rw [hcfg]; exact h) (by rw [hstep]; exact hx), hstep]

/-! ### A fan at the resumption (R87) -/

/-- The channel of a fan that resumes from a sequencer's state. -/
theorem enterStopping_ch (c d : ChannelNo) (s : State) : (enterStopping c s).ch d
    = if c = d then { s.ch c with
        output := false
        seq := if (s.chCfg c).time2 = 0
          then fanIn (if (s.ch c).target = .off then .stopped else evaluateStopped s c)
          else .fan .stopping none (some ((s.chCfg c).time2 * 1000)) }
      else s.ch d := by
  unfold enterStopping
  split
  · rw [enterStopped_ch]
    rfl
  · rw [setSeq_ch]
    rfl

theorem resumeFan_ownStart (before : Vector Channel 12) :
    OwnStart fun s (c : ChannelNo) => resumeFan before[c.val].seq c s where
  rest s c := resumeFan_lessSequencing s _ c
  other s c x hne := by
    dsimp only [resumeFan]
    split
    · split
      case h_5 => rw [enterStopping_ch, if_neg hne]
      case h_6 => rw [enterStopped_ch, if_neg hne]
      all_goals rw [enterStarting_ch, if_neg hne]
    · rfl
  fans s c hfan := if_neg (by rw [hfan]; exact Bool.false_ne_true)

/-- The proving level reads configuration, input A and the pressure channels (R63). -/
theorem provingLevel_congr (hconfig : t.ctl.config = s.ctl.config) (hA : (t.ch c).inA = (s.ch c).inA)
    (hmeas : t.meas = s.meas) : provingLevel t c = provingLevel s c := by
  unfold provingLevel State.pressure
  rw [chCfg_congr hconfig, hA, hmeas]

/-- The state a fan resumes with, by the one it held before the reset (R87). -/
def fanResumed (s : State) (c : ChannelNo) (before : FanState) : Sequencer :=
  if before.outputOn then
    if provingLevel s c then .fan .running none none else .fan .starting (some ((s.chCfg c).time1 * 1000)) none
  else if before = .stopping ∧ (s.chCfg c).time2 ≠ 0 then
    .fan .stopping none (some ((s.chCfg c).time2 * 1000))
  else fanIn (if (s.ch c).target = .off then .stopped else evaluateStopped s c)

theorem resumeFan_ch {st : FanState} (p r : Option Nat) (h : (s.chCfg c).kind.isFan = true) :
    (resumeFan (.fan st p r) c s).ch c = { s.ch c with output := st.outputOn, seq := fanResumed s c st } := by
  have hresume (f : State) (hf : resumeFan (.fan st p r) c s = f) : (resumeFan (.fan st p r) c s).ch c = f.ch c := by rw [hf]
  cases st with
  | starting | running | proveFail | runLost =>
    rw [hresume (enterStarting c s) (if_pos h), enterStarting_ch, if_pos rfl]
    rfl
  | stopping =>
    rw [hresume (enterStopping c s) (if_pos h), enterStopping_ch, if_pos rfl, fanResumed]
    by_cases h0 : (s.chCfg c).time2 = 0 <;> simp [h0, FanState.outputOn]
  | stopped | awaitingInterlock | blocked | awaitingSlot | failedOff =>
    rw [hresume (enterStopped c s) (if_pos h), enterStopped_ch, if_pos rfl, fanResumed]
    simp [FanState.outputOn, fanIn]

/-! ### The sequencers at the resumption into ACTIVE (R60, R87) -/

/-- The node before its sequencers resume. -/
def resumedActive (s : State) : State := resumeBlocks (releasedActive s)

/-- What each channel is when its sequencer has resumed. -/
structure Resequenced (s t : State) : Prop where
  config : t.ctl.config = s.ctl.config
  kept   : ∀ c : ChannelNo, (t.ch c).target = (s.ch c).target ∧ (t.ch c).inA = (s.ch c).inA ∧ (t.ch c).inB = (s.ch c).inB
  travel : ∀ c : ChannelNo, (s.chCfg c).kind.isDamper = true →
    (t.ch c).seq = deriveTravel s c ∧ (t.ch c).output = decide ((s.ch c).target = .on)
  fan    : ∀ (c : ChannelNo) (st : FanState) (p r : Option Nat), (s.chCfg c).kind.isFan = true →
    (s.ch c).seq = .fan st p r → (t.ch c).seq = fanResumed t c st ∧ (t.ch c).output = st.outputOn
  unused : ∀ c : ChannelNo, (s.chCfg c).kind = .unused → (t.ch c).output = (s.ch c).output

/-- A fan's resumption reads configuration, inputs, target, pressure channels and the positions of its interlocks. -/
theorem fanResumed_congr (hconfig : t.ctl.config = s.ctl.config) (hA : (t.ch c).inA = (s.ch c).inA)
    (htarget : (t.ch c).target = (s.ch c).target) (hmeas : t.meas = s.meas)
    (h : ∀ d ∈ (s.chCfg c).interlocks, (t.ch d).seq = (s.ch d).seq) (st : FanState) :
    fanResumed t c st = fanResumed s c st := by
  unfold fanResumed
  rw [provingLevel_congr hconfig hA hmeas, evaluateStopped_congr hconfig h, chCfg_congr hconfig, htarget]

theorem resumeSequencers_resequenced (hs : s.station ≠ 0) (h : Resolved s) (htravel : InterlocksTravel s) :
    Resequenced s (resumeSequencers s.chans (resumedActive s)) := by
  have hreleased := releasedActive_released s
  have hchans : (resumedActive s).chans = (releasedActive s).chans :=
    resumeBlocks_chans (by rw [hreleased.station]; exact hs) (.inr rfl) (hreleased.resolved h)
  have hch (c : ChannelNo) : (resumedActive s).ch c = { s.ch c with seq := .stopped } := by
    rw [ch_congr hchans c, releasedActive_ch]
  have hconfig : (resumedActive s).ctl.config = s.ctl.config := by
    rw [resumedActive, resumeBlocks_ctl]
    exact hreleased.config
  have hnofan (c : ChannelNo) : ((resumedActive s).ch c).seq.fanState = none := by rw [hch c]; rfl
  have hrest := foldl_startDamper_lessSequencing allChannels (resumedActive s)
  have hown := resumeFan_ownStart s.chans
  have hall := resumeSequencers_lessSequencing (resumedActive s) s.chans
  have hkept (c : ChannelNo) := lessSequencing_eq_ch hall c
  have hconfig' : (resumeSequencers s.chans (resumedActive s)).ctl.config = s.ctl.config := by
    rw [(lessSequencing_eq hall).1]
    exact hconfig
  have hstart : resumeSequencers s.chans (resumedActive s) = allChannels.foldl
      (fun s' (c : ChannelNo) => resumeFan s.chans[c.val].seq c s')
      (allChannels.foldl (fun s c => startDamper c s) (resumedActive s)) := rfl
  have hstill (c : ChannelNo) (hc : (s.chCfg c).kind.isFan = false) : (resumeSequencers s.chans (resumedActive s)).ch c
      = (allChannels.foldl (fun s c => startDamper c s) (resumedActive s)).ch c := by
    rw [hstart, hown.foldl_ch_of_no_fan allChannels]
    rw [chCfg_congr (congrArg _ (lessSequencing_eq hrest).1) c, chCfg_congr hconfig c]
    exact hc
  have htravelled (c : ChannelNo) (hc : (s.chCfg c).kind.isDamper = true) :
      (resumeSequencers s.chans (resumedActive s)).ch c = travelStarted (resumedActive s) c := by
    rw [hstill c (isFan_of_isDamper hc), startDampers_ch (by rw [chCfg_congr hconfig c]; exact hc)]
  refine ⟨hconfig', fun c => ?_, fun c hc => ?_, fun c st p r hc hseq => ?_, fun c hc => ?_⟩
  · obtain ⟨htarget, hA, hB⟩ := hkept c
    rw [hch c] at htarget hA hB
    exact ⟨htarget, hA, hB⟩
  · obtain ⟨-, -, -, hseq, houtput⟩ := travelStarted_kept (resumedActive s) c
    rw [htravelled c hc, hseq, deriveTravel_congr hconfig (by rw [hch c]) (by rw [hch c]) (by rw [hch c]), houtput]
    refine ⟨rfl, ?_⟩
    rw [(travelStarted_kept (resumedActive s) c).1, hch c]
  · obtain ⟨u, hu, huc, hustill, hfold⟩ := hown.foldl_ch allChannels (by decide) (mem_allChannels c)
      (allChannels.foldl (fun s c => startDamper c s) (resumedActive s))
    have hdamper : ((resumedActive s).chCfg c).kind.isDamper = false := by
      rw [chCfg_congr hconfig c]
      exact isDamper_of_isFan hc
    have huall := hu.trans hrest
    have huconfig : u.ctl.config = s.ctl.config := (congrArg _ (lessSequencing_eq huall).1).trans hconfig
    have huch : u.ch c = (resumedActive s).ch c := by
      rw [huc, foldl_startDamper_ch_of_no_damper allChannels hdamper (hnofan c)]
    have hbefore : s.chans[c.val].seq = .fan st p r := hseq
    rw [hbefore, ← hstart, resumeFan_ch p r (by rw [chCfg_congr huconfig c]; exact hc)] at hfold
    obtain ⟨htarget, hA, -⟩ := hkept c
    have hsame : fanResumed (resumeSequencers s.chans (resumedActive s)) c st = fanResumed u c st := by
      refine fanResumed_congr (hconfig'.trans huconfig.symm) (by rw [hA, huch]) (by rw [htarget, huch]) ?_ (fun d hd => ?_) st
      · rw [(lessSequencing_eq hall).2.2.2.1, (lessSequencing_eq huall).2.2.2.1]
      · rw [chCfg_congr huconfig c] at hd
        have hdamper := htravel c d hd
        rw [hstill d (isFan_of_isDamper hdamper), hustill d]
        rw [chCfg_congr (congrArg _ (lessSequencing_eq hrest).1) d, chCfg_congr hconfig d]
        exact isFan_of_isDamper hdamper
    rw [hsame, hfold]
    exact ⟨rfl, rfl⟩
  · have hfan : (s.chCfg c).kind.isFan = false := by rw [hc]; rfl
    have hdamper : ((resumedActive s).chCfg c).kind.isDamper = false := by rw [chCfg_congr hconfig c, hc]; rfl
    rw [hstill c hfan, foldl_startDamper_ch_of_no_damper allChannels hdamper (hnofan c), hch c]

/-- The hold-off runs, so no start test moves a fan that has resumed (R43, R72, R78). -/
theorem resumeActive_chans (hs : s.station ≠ 0) (h : Resolved s) :
    (resumeActive (releaseReset s)).chans = (resumeSequencers s.chans (resumedActive s)).chans := by
  have hreleased := releasedActive_released s
  have hstation : (releasedActive s).station ≠ 0 := by rw [hreleased.station]; exact hs
  obtain ⟨r, b, hdeclared⟩ := declaredAgain_spec hstation (.inr rfl)
  obtain ⟨hkept, -⟩ := resumeBlocks_stand hstation (.inr rfl) (hreleased.resolved h)
  have hstarted := hkept.trans ((StandKept.resumeSequencers s.chans _).trans (StandKept.completeListening _))
  rw [resumeActive_released, startTests_chans _ (hstarted.holdOff_runs hdeclared.runs), completeListening_chans]
  rfl

theorem completeListening_meas (s : State) : (completeListening s).meas = s.meas := by
  obtain ⟨-, -, -, -, -, hmeas, -⟩ := lessReports_eq (completeListening_lessReports s)
  exact hmeas

theorem resumeActive_meas (s : State) :
    (resumeActive (releaseReset s)).meas = (resumeSequencers s.chans (resumedActive s)).meas := by
  obtain ⟨-, -, -, htests, -⟩ :=
    lessSequencing_eq (startTests_lessSequencing (completeListening (resumeSequencers s.chans (resumedActive s))))
  rw [resumeActive_released, ← resumedActive, htests, completeListening_meas]

theorem Resequenced.congr (h : Resequenced s t) (hchans : u.chans = t.chans) (hconfig : u.ctl.config = t.ctl.config)
    (hmeas : u.meas = t.meas) : Resequenced s u where
  config := hconfig.trans h.config
  kept c := by rw [ch_congr hchans c]; exact h.kept c
  travel c hc := by rw [ch_congr hchans c]; exact h.travel c hc
  fan c st p r hc hseq := by
    rw [fanResumed_congr hconfig (by rw [ch_congr hchans c]) (by rw [ch_congr hchans c]) hmeas
      (fun d _ => by rw [ch_congr hchans d]), ch_congr hchans c]
    exact h.fan c st p r hc hseq
  unused c hc := by rw [ch_congr hchans c]; exact h.unused c hc

theorem warmReset_resequenced (hs : s.station ≠ 0) (h : Resolved s) (htravel : InterlocksTravel s)
    (hm : s.ctl.mode = .active ∨ s.ctl.mode = .mute) : Resequenced s (settleRaises s (warmReset s)) := by
  obtain ⟨hctl, -, -, hchans, -, hmeas, -⟩ := lessReports_eq (settleRaises_lessReports s (warmReset s))
  have hres := resumeSequencers_resequenced hs h htravel
  rw [warmReset_of_active hm] at hctl hchans hmeas ⊢
  refine hres.congr (hchans.trans (resumeActive_chans hs h)) ?_ (hmeas.trans (resumeActive_meas s))
  rw [hctl, resumeActive_ctl, hres.config]
  rfl

theorem sequencing_cases (h : s.sequencing = true) :
    s.ctl.mode = .active ∨ (s.ctl.mode = .mute ∧ s.ctl.origin = some .active) := by
  unfold State.sequencing at h
  split at h
  · next hm => exact .inl hm
  · next hm => exact .inr ⟨hm, by simpa using h⟩
  · cases h

/-- While the sequencers run, every channel has the sequencer of its kind (R46, R48, R64, R65). -/
theorem SequencerLaw.cases (h : SequencerLaw s c) (hrun : s.running = true) :
    ((s.chCfg c).kind = .unused ∧ (s.ch c).seq.fanState = none)
      ∨ ((s.chCfg c).kind.isDamper = true ∧ (s.ch c).seq.fanState = none
        ∧ (s.ch c).output = decide ((s.ch c).target = .on))
      ∨ ∃ st p r, (s.chCfg c).kind.isFan = true ∧ (s.ch c).seq = .fan st p r ∧ (s.ch c).output = st.outputOn := by
  obtain ⟨houtput, h⟩ := h
  cases hq : (s.ch c).seq with
  | stopped =>
    rw [hq] at h
    exact .inl ⟨h hrun, rfl⟩
  | damper st r =>
    rw [hq] at h houtput
    exact .inr (.inl ⟨h.2.1, rfl, houtput⟩)
  | fan st p r =>
    rw [hq] at h houtput
    exact .inr (.inr ⟨st, p, r, h.2.1, rfl, houtput⟩)

end Sys2Proof.Machine

open Sys2Proof Sys2Proof.Machine in
/-- Settles O26: each channel as its sequencer resumes, by its kind. -/
theorem warmResetLeavesOutputsAsTheyAre : Obligations.WarmResetLeavesOutputsAsTheyAre := by
  intro s hs hr hfive hroles hchannels hsequencing
  have hmode : s.ctl.mode = .active ∨ s.ctl.mode = .mute := (sequencing_cases hsequencing).imp id fun h => h.1
  have ha : s.ctl.mode.applies = true := by rcases hmode with h | h <;> rw [h] <;> rfl
  have hrun : s.running = true := by rw [State.running, hsequencing, hfive]; rfl
  have htravel := interlocksTravel_of_modeLaw hs
  obtain ⟨-, -, -, -, -, -, -, hstation, -⟩ := hs
  have hres := warmReset_resequenced (Nat.ne_of_gt (hstation (.inr ha))) (resolved_of_roleLaw hroles ha hfive) htravel hmode
  refine ⟨_, exec_warmReset hr hfive, fun c => ?_, fun c hc => (hres.travel c hc).1, fun c hc hon => ?_,
    fun c p r hseq h0 => ?_, fun c hc hoff hstate htarget => ?_⟩
  · rcases (hchannels c).cases hrun with ⟨hk, -⟩ | ⟨hk, -, houtput⟩ | ⟨st, p, r, hk, hseq, houtput⟩
    · exact hres.unused c hk
    · rw [(hres.travel c hk).2, houtput]
    · rw [(hres.fan c st p r hk hseq).2, houtput]
  · rcases (hchannels c).cases hrun with ⟨hk, -⟩ | ⟨hk, -⟩ | ⟨st, p, r, hk, hseq, houtput⟩
    · rw [hk] at hc; cases hc
    · rw [isFan_of_isDamper hk] at hc; cases hc
    · rw [(hres.fan c st p r hk hseq).1, fanResumed, ← houtput, if_pos hon, chCfg_congr hres.config]
  · rcases (hchannels c).cases hrun with ⟨-, hnone⟩ | ⟨-, hnone, -⟩ | ⟨st, p', r', hk, hseq', houtput⟩
    · rw [hseq] at hnone; cases hnone
    · rw [hseq] at hnone; cases hnone
    · obtain rfl : st = .stopping := by
        rw [hseq'] at hseq
        injection hseq
      rw [(hres.fan c .stopping p' r' hk hseq').1, fanResumed, chCfg_congr hres.config, if_neg nofun,
        if_pos ⟨rfl, h0⟩]
  · rcases (hchannels c).cases hrun with ⟨hk, -⟩ | ⟨hk, -⟩ | ⟨st, p, r, hk, hseq, houtput⟩
    · rw [hk] at hc; cases hc
    · rw [isFan_of_isDamper hk] at hc; cases hc
    · have hst : st ≠ .stopping := fun h => hstate (by rw [hseq, h]; rfl)
      have hstoff : st.outputOn = false := houtput.symm.trans hoff
      rw [(hres.fan c st p r hk hseq).1, fanResumed, hstoff, if_neg Bool.false_ne_true, if_neg fun h => hst h.1,
        (hres.kept c).1, htarget]
      rfl
end

section
/-! Role, assist flag, targets and FIRE-MODE along every step: O6 (R27, R29, R31, R38, R40, R41). -/

namespace Sys2Proof.Machine

variable {s t u : State} {c : ChannelNo}

/-! ### Work aside from modes, roles, sequencers, measurement, containment and peers -/

/-- Link, composer, claims, reports and own declaration alone may have moved. -/
structure Aside (s t : State) : Prop where
  ctl     : t.ctl = s.ctl
  role    : t.role = s.role
  chans   : t.chans = s.chans
  meas    : t.meas = s.meas
  contain : t.contain = s.contain
  peers   : t.peers = s.peers
  records : t.reg.records = s.reg.records
  reset   : t.panel.reset = s.panel.reset

namespace Aside

theorem refl (s : State) : Aside s s := ⟨rfl, rfl, rfl, rfl, rfl, rfl, rfl, rfl⟩

theorem trans (h : Aside s t) (k : Aside t u) : Aside s u :=
  ⟨k.ctl.trans h.ctl, k.role.trans h.role, k.chans.trans h.chans, k.meas.trans h.meas, k.contain.trans h.contain,
    k.peers.trans h.peers, k.records.trans h.records, k.reset.trans h.reset⟩

theorem ite {p : Prop} [Decidable p] (h : p → Aside s t) (k : ¬p → Aside s u) : Aside s (if p then t else u) := by
  split
  · next hp => exact h hp
  · next hp => exact k hp

theorem of_lessReports (h : t.lessReports = s.lessReports) : Aside s t := by
  obtain ⟨hctl, hreg, hrole, hchans, -, hmeas, hcontain, hpeers, hpanel, -⟩ := lessReports_eq h
  exact ⟨hctl, hrole, hchans, hmeas, hcontain, hpeers, by rw [hreg], by rw [hpanel]⟩

theorem withLink (s : State) (x : Link) : Aside s (s.withLink x) := ⟨rfl, rfl, rfl, rfl, rfl, rfl, rfl, rfl⟩

theorem withStatus (s : State) (x : Composer) : Aside s (s.withStatus x) := ⟨rfl, rfl, rfl, rfl, rfl, rfl, rfl, rfl⟩

theorem withStarts (s : State) (x : StartLogic) : Aside s (s.withStarts x) := ⟨rfl, rfl, rfl, rfl, rfl, rfl, rfl, rfl⟩

/-- A register with the list it had. -/
theorem withReg {new : IncidentRegister} (h : new.records = s.reg.records) : Aside s (s.withReg new) :=
  ⟨rfl, rfl, rfl, rfl, rfl, rfl, h, rfl⟩

/-- A panel line other than RESET. -/
theorem withPanel {x : Panel} (h : x.reset = s.panel.reset) : Aside s (s.withPanel x) :=
  ⟨rfl, rfl, rfl, rfl, rfl, rfl, rfl, h⟩

end Aside

theorem settleRaises_aside (s t : State) : Aside t (settleRaises s t) := .of_lessReports (settleRaises_lessReports s t)

theorem withdrawClaim_aside (s : State) : Aside s (withdrawClaim s) := by
  have hclaim (x : ClaimRecord) : Aside s ((s.setQueued .claim false).withStarts { s.starts with claim := x }) :=
    (Aside.withLink s _).trans (.withStarts _ _)
  unfold withdrawClaim
  cases s.starts.claim with
  | queued => exact hclaim .absent
  | absent | sending => exact .refl s

theorem claimRequeued_aside (s : State) : Aside s (claimRequeued s) := by
  rw [claimRequeued_eq]
  exact .withStarts s _

theorem placeDeclare_aside (s : State) : Aside s (placeDeclare s) := .ite (fun _ => .withLink s _) fun _ => .refl s

theorem declarationCheck_aside (s : State) : Aside s (declarationCheck s) :=
  .ite (fun _ => .trans (.withReg (s := s) (new := oweDeclaration s.reg) rfl) (placeDeclare_aside _)) fun _ => .refl s

theorem replaceDeclare_aside (s : State) : Aside s (replaceDeclare s) :=
  .ite (fun _ => placeDeclare_aside s) fun _ => .refl s

theorem startStagger_aside (s : State) : Aside s (startStagger s) :=
  .ite (fun _ => .trans (.withStatus s { s.status with period := none }) (.of_lessReports (queueStatus_lessReports _)))
    fun _ => .withStatus s _

theorem endAttempt_aside (l : Line) (n : Nat) (s : State) : Aside s (endAttempt l n s) := by
  have hended (x : Link) (y : Composer) (p : Bool) : Aside s (if p then (s.withLink x).withStatus y else s.withLink x) :=
    .ite (fun _ => (Aside.withLink s x).trans (.withStatus _ y)) fun _ => .withLink s x
  exact (hended _ _ _).trans (claimRequeued_aside _)

theorem countFailure_aside (s : State) : Aside s (countFailure s) :=
  .ite (fun _ => .withLink s _) fun _ =>
    .trans (.withLink s { s.link with failCount := 16, txFail := true }) (.of_lessReports (raise_lessReports _ _))

/-- The failed attempt before the start tests (R151, R152). -/
theorem failed_aside (s : State) : Aside s (countFailure
    ((endAttempt .closed 0 s).withLink { (endAttempt .closed 0 s).link with retryWait := true })) :=
  ((endAttempt_aside _ _ s).trans (.withLink _ _)).trans (countFailure_aside _)

theorem sendKind_aside (k : FrameKind) (s : State) : Aside s (sendKind k s) := by
  cases k with
  | clear | fireDeclare => exact .withLink s _
  | status => exact (Aside.withStatus s _).trans (.withLink _ _)
  | claim =>
    change Aside s (sendClaim s)
    unfold sendClaim
    split
    · exact withdrawClaim_aside s
    · exact (Aside.withStarts s _).trans (.withLink _ _)

theorem frameIn_aside (own : Bool) (s : State) : Aside s (frameIn own s) := by
  cases own with
  | true =>
    change Aside s (ownFrameOut s)
    cases h : s.link.attempt with
    | none => unfold ownFrameOut; rw [h]; exact .refl s
    | some a =>
      rw [ownFrameOut_eq h]
      exact (Aside.withLink s _).trans (.of_lessReports (endCond_lessReports _ _))
  | false =>
    have hended : Aside s (if s.link.attempt.isSome = true then endAttempt .closed 0 s else s.setLine .closed) :=
      .ite (fun _ => endAttempt_aside _ _ s) fun _ => .withLink s _
    exact hended.trans (.withLink _ _)

/-- A new register with the list it had (R4). -/
theorem storeRegister_aside {new : IncidentRegister} (h : new.records = s.reg.records) : Aside s (storeRegister new s) :=
  (Aside.withReg h).trans (.of_lessReports (storeRegister_lessReports s new))

theorem ownStatusAccepted_aside (s : State) : Aside s (ownStatusAccepted s) :=
  (Aside.withStatus s _).trans (.of_lessReports (ownStatusAccepted_lessReports s))

/-! ### Nothing that the resolver's law reads has moved -/

/-- The resolver's values and targets are as they were, and so is all they are derived from. -/
structure RoleKept (s t : State) : Prop where
  applies : t.ctl.mode.applies = s.ctl.mode.applies
  five    : t.panel.reset.fiveSecs = s.panel.reset.fiveSecs
  role    : t.role = s.role
  target  : ∀ c : ChannelNo, (t.ch c).target = (s.ch c).target
  inputs  : s.ctl.mode.applies = true →
    t.ctl.straps = s.ctl.straps ∧ t.ctl.config = s.ctl.config ∧ t.reg.records = s.reg.records
      ∧ ∀ z ∈ s.cfg.neighbours, callsForAssist (t.peer z) = callsForAssist (s.peer z)

namespace RoleKept

theorem refl (s : State) : RoleKept s s := ⟨rfl, rfl, rfl, fun _ => rfl, fun _ => ⟨rfl, rfl, rfl, fun _ _ => rfl⟩⟩

theorem cfg (hconfig : t.ctl.config = s.ctl.config) : t.cfg = s.cfg := by unfold State.cfg; rw [hconfig]

theorem trans (h : RoleKept s t) (k : RoleKept t u) : RoleKept s u where
  applies := k.applies.trans h.applies
  five := k.five.trans h.five
  role := k.role.trans h.role
  target c := (k.target c).trans (h.target c)
  inputs ha := by
    obtain ⟨hstraps, hconfig, hrecords, hcalls⟩ := h.inputs ha
    obtain ⟨kstraps, kconfig, krecords, kcalls⟩ := k.inputs (h.applies.trans ha)
    refine ⟨kstraps.trans hstraps, kconfig.trans hconfig, krecords.trans hrecords, fun z hz => ?_⟩
    exact (kcalls z (by rwa [cfg hconfig])).trans (hcalls z hz)

theorem ite {p : Prop} [Decidable p] (h : p → RoleKept s t) (k : ¬p → RoleKept s u) :
    RoleKept s (if p then t else u) := by
  split
  · next hp => exact h hp
  · next hp => exact k hp

/-- The resolver reads the Mode Controller, the records, the peers, its own values, the targets and the RESET line. -/
theorem same (hctl : t.ctl = s.ctl) (hrecords : t.reg.records = s.reg.records) (hpeers : t.peers.entries = s.peers.entries)
    (hrole : t.role = s.role) (htarget : ∀ c : ChannelNo, (t.ch c).target = (s.ch c).target)
    (hreset : t.panel.reset = s.panel.reset) : RoleKept s t :=
  ⟨by rw [hctl], by rw [hreset], hrole, htarget,
    fun _ => ⟨by rw [hctl], by rw [hctl], hrecords, fun z _ => by unfold State.peer; rw [hpeers]⟩⟩

theorem of_aside (h : Aside s t) : RoleKept s t :=
  same h.ctl h.records (by rw [h.peers]) h.role (fun c => by unfold State.ch; rw [h.chans]) h.reset

theorem of_lessRoles (h : t.lessRoles = s.lessRoles) (hrole : t.role = s.role)
    (htarget : ∀ c : ChannelNo, (t.ch c).target = (s.ch c).target) : RoleKept s t := by
  obtain ⟨hctl, hreg, -, -, hpeers, hpanel, -⟩ := lessRoles_eq h
  exact same hctl (by rw [hreg]) (by rw [hpeers]) hrole htarget (by rw [hpanel])

theorem of_lessSequencing (h : t.lessSequencing = s.lessSequencing) : RoleKept s t := by
  obtain ⟨-, -, hrole, -⟩ := lessSequencing_eq h
  exact of_lessRoles (lessRoles_of_lessSequencing h) hrole fun c => (lessSequencing_eq_ch h c).1

theorem of_lessReports (h : t.lessReports = s.lessReports) : RoleKept s t :=
  of_lessSequencing (lessSequencing_of_lessReports h)

end RoleKept

/-! ### The law, at rest and in force -/

/-- The resolver's cold-reset values (R31, R40). -/
def RoleAtRest (s : State) : Prop :=
  s.role.override = .auto ∧ s.role.role = .normal ∧ s.role.assist = false ∧ s.role.fireMode = false
    ∧ ∀ c : ChannelNo, (s.ch c).target = .off

/-- A node that a recompute brings to the resolver's law: outside LISTEN, ACTIVE and MUTE it rests already. -/
structure RoleReady (s : State) : Prop where
  five : s.panel.reset.fiveSecs = false
  rest : s.ctl.mode.applies = false → RoleAtRest s

/-- The resolver's law while the RESET hold is short of 5 s. -/
structure RoleSound (s : State) : Prop extends RoleReady s where
  resolved : s.ctl.mode.applies = true → Resolved s

theorem RoleSound.law (h : RoleSound s) : RoleLaw s := by
  refine ⟨fun ha => ?_, h.rest, fun hfive => absurd hfive (by simp [h.five])⟩
  obtain ⟨hrole, hassist, hfire, htarget⟩ := h.resolved ha
  exact ⟨hrole, hassist, htarget, fun _ => hfire⟩

theorem roleSound_of_roleLaw (h : RoleLaw s) (hfive : s.panel.reset.fiveSecs = false) : RoleSound s :=
  have ⟨_, hrest, _⟩ := h
  ⟨⟨hfive, hrest⟩, fun ha => resolved_of_roleLaw h ha hfive⟩

theorem RoleAtRest.kept (h : RoleAtRest s) (hrole : t.role = s.role)
    (htarget : ∀ c : ChannelNo, (t.ch c).target = (s.ch c).target) : RoleAtRest t := by
  obtain ⟨hover, hzone, hassist, hfire, hoff⟩ := h
  exact ⟨by rw [hrole, hover], by rw [hrole, hzone], by rw [hrole, hassist], by rw [hrole, hfire],
    fun c => by rw [htarget, hoff]⟩

/-- In an applying mode nothing more is asked before a recompute. -/
theorem roleReady_of_applies (hfive : s.panel.reset.fiveSecs = false) (ha : s.ctl.mode.applies = true) : RoleReady s :=
  ⟨hfive, fun hidle => absurd ha (by simp [hidle])⟩

/-- A recompute resolves an applying node and leaves every other alone (R40). -/
theorem RoleReady.recompute (h : RoleReady s) : RoleSound (recompute s) := by
  obtain ⟨hctl, -, -, -, -, hpanel, -⟩ := lessRoles_eq (recompute_lessRoles s)
  cases ha : s.ctl.mode.applies with
  | true =>
    exact ⟨⟨by rw [hpanel, h.five], fun hidle => absurd hidle (by rw [hctl, ha]; decide)⟩, fun _ => recompute_resolved ha⟩
  | false =>
    rw [recompute_idle s ha]
    exact ⟨h, fun happlies => absurd happlies (by simp [ha])⟩

section
variable (k : RoleKept s t) (ha : s.ctl.mode.applies = true)
include k ha

theorem RoleKept.deriveRole : deriveRole t = deriveRole s := by
  obtain ⟨hstraps, hconfig, hrecords, -⟩ := k.inputs ha
  unfold Machine.deriveRole State.station
  rw [k.role, hrecords, hstraps, cfg hconfig]

theorem RoleKept.deriveAssist (r : ZoneRole) : deriveAssist r t = deriveAssist r s := by
  obtain ⟨-, hconfig, hrecords, hcalls⟩ := k.inputs ha
  have hany : s.cfg.neighbours.any (fun z => decide (z ∈ extractZones s.reg.records) && callsForAssist (t.peer z))
      = s.cfg.neighbours.any (fun z => decide (z ∈ extractZones s.reg.records) && callsForAssist (s.peer z)) := by
    rw [Bool.eq_iff_iff, List.any_eq_true, List.any_eq_true]
    exact exists_congr fun z => and_congr_right fun hz => by rw [hcalls z hz]
  unfold Machine.deriveAssist
  rw [cfg hconfig, hrecords, hany]

theorem RoleKept.deriveFireMode : deriveFireMode t = deriveFireMode s := by
  obtain ⟨-, -, hrecords, -⟩ := k.inputs ha
  unfold Machine.deriveFireMode
  rw [k.role, hrecords]

theorem RoleKept.newTarget (c : ChannelNo) : newTarget t c = newTarget s c := by
  obtain ⟨-, hconfig, -⟩ := k.inputs ha
  exact newTarget_congr k.role hconfig (k.target c)

end

theorem RoleReady.kept (h : RoleReady s) (k : RoleKept s t) : RoleReady t :=
  ⟨by rw [k.five, h.five], fun ha => (h.rest (by rw [← k.applies, ha])).kept k.role k.target⟩

theorem RoleLaw.kept (h : RoleLaw s) (k : RoleKept s t) : RoleLaw t := by
  obtain ⟨happlied, hrest, hoff⟩ := h
  refine ⟨fun ha => ?_, fun ha => (show RoleAtRest s from hrest (by rw [← k.applies, ha])).kept k.role k.target,
    fun hfive => by rw [k.role, hoff (by rw [← k.five, hfive])]⟩
  have happlies : s.ctl.mode.applies = true := k.applies.symm.trans ha
  obtain ⟨hrole, hassist, htarget, hfire⟩ := happlied happlies
  refine ⟨?_, ?_, fun c => ?_, fun hfive => ?_⟩
  · rw [k.role, k.deriveRole happlies, hrole]
  · rw [k.role, k.deriveAssist happlies, ← hassist]
  · rw [k.target, k.newTarget happlies, htarget]
  · rw [k.role, k.deriveFireMode happlies, hfire (by rw [← k.five, hfive])]

theorem RoleSound.kept (h : RoleSound s) (k : RoleKept s t) : RoleSound t :=
  roleSound_of_roleLaw (h.law.kept k) (by rw [k.five, h.five])

/-! ### Work that leaves the resolver alone -/

theorem startTests_roleKept (s : State) : RoleKept s (startTests s) := .of_lessSequencing (startTests_lessSequencing s)

/-- The monitor's state and timer are nothing the resolver reads (R109). -/
theorem withContain_roleKept (s : State) (x : Containment) : RoleKept s (s.withContain x) :=
  .same rfl rfl rfl rfl (fun _ => rfl) rfl

theorem setContain_roleKept (st : ContainState) (g : Option Nat) (s : State) : RoleKept s (setContain st g s) :=
  (withContain_roleKept s _).trans (.of_lessReports (setContain_lessReports s st g))

theorem containComparator_roleKept (s : State) : RoleKept s (containComparator s) := by
  have hset (st : ContainState) : RoleKept s (setContain st none s) := setContain_roleKept st none s
  unfold containComparator
  split
  · exact .ite (fun _ => hset _) fun _ => .refl s
  · exact .ite (fun _ => .refl s) fun _ => hset _
  · exact .ite (fun _ => hset _) fun _ => .refl s
  · exact .refl s
  · exact .refl s

theorem graceExpiry_roleKept (s : State) : RoleKept s (graceExpiry s) := by
  unfold graceExpiry
  split
  · exact .ite (fun _ => setContain_roleKept _ _ s) fun _ => .refl s
  · exact .refl s

theorem graceStart_roleKept (s : State) : RoleKept s (graceStart s) :=
  .ite (fun _ => withContain_roleKept s _) fun _ => .refl s

theorem resumeContain_roleKept (s : State) : RoleKept s (resumeContain s) :=
  .ite (fun _ => .ite (fun _ => setContain_roleKept _ _ s) fun _ => setContain_roleKept _ _ s)
    fun _ => setContain_roleKept _ _ s

/-- A pair moves its own channel, the containment state or the fans that prove by it (R94, R101). -/
theorem pairEvent_roleKept (p : PressureNo) (a b : Code) (s : State) : RoleKept s (pairEvent p a b s) := by
  have hpass (b : Bool) (u : State) : RoleKept u (passComparator p b u) := by
    unfold passComparator
    split
    · refine .of_lessSequencing (foldl_keeps _ State.lessSequencing _ (fun s c => ?_) allChannels)
      split <;> simp
    · exact containComparator_roleKept u
    · exact .refl u
  have hmoved (x : PressureState) : RoleKept s (s.setPressure p x) := .same rfl rfl rfl rfl (fun _ => rfl) rfl
  unfold pairEvent
  dsimp only
  have hfault (b : Prop) [Decidable b] (u : State) (f : Bool) :
      RoleKept u (if b then u else followLatch (sensorFault p) f u) :=
    .ite (fun _ => .refl u) fun _ => .of_lessReports (followLatch_lessReports u _ f)
  exact .ite (fun _ => (hmoved _).trans (hfault _ _ _)) fun _ => ((hmoved _).trans (hfault _ _ _)).trans (hpass _ _)

theorem supplyEvent_roleKept (v : Nat) (s : State) : RoleKept s (supplyEvent v s) :=
  .trans (t := s.withMeas { s.meas with supply := nextSupply s.meas.supply v })
    (.same rfl rfl rfl rfl (fun _ => rfl) rfl) (.of_lessSequencing (supplyEvent_lessSequencing s v))

theorem completeListening_roleKept (s : State) : RoleKept s (completeListening s) :=
  .trans (t := s.withPeers { s.peers with listened := true })
    (.same rfl rfl rfl rfl (fun _ => rfl) rfl) (.of_lessReports (completeListening_lessReports s))

/-- A change of mode on one side of LISTEN, ACTIVE and MUTE. -/
theorem setMode_roleKept (m : Mode) (h : m.applies = s.ctl.mode.applies) : RoleKept s (setMode m s) :=
  .trans (t := s.withCtl { s.ctl with mode := m })
    ⟨h, rfl, rfl, fun _ => rfl, fun _ => ⟨rfl, rfl, rfl, fun _ _ => rfl⟩⟩ (.of_lessReports (refreshTrouble_lessReports _))

theorem stopSending_roleKept (bit : Nat) (s : State) : RoleKept s (stopSending bit s) := by
  unfold stopSending
  split
  · exact .refl s
  · exact (RoleKept.of_aside (endAttempt_aside _ _ s)).trans (startTests_roleKept _)

theorem inputEvent_roleKept (i : Input) (made : Bool) (s : State) : RoleKept s (inputEvent c i made s) := by
  unfold inputEvent
  split
  · exact .of_lessSequencing (by simp)
  · exact .ite (fun _ => .of_lessSequencing (by simp)) fun _ => .refl s
  · exact .refl s

theorem storeInput_roleKept (i : Input) (made : Bool) (s : State) : RoleKept s (storeInput c i made s) := by
  refine .same rfl rfl rfl rfl (fun d => ?_) rfl
  unfold storeInput
  rw [State.ch_setCh]
  split
  · next h => subst h; cases i <;> rfl
  · rfl

/-- An entry of the Peer Table that calls for assist as it did, or that is no neighbour's (R38). -/
theorem setPeer_roleKept {z : Nat} {x : Peer}
    (h : z ∈ s.cfg.neighbours → callsForAssist x = callsForAssist (s.peer z)) : RoleKept s (s.setPeer z x) := by
  have hset : (s.setPeer z x) = s.withPeers (s.setPeer z x).peers := by unfold State.setPeer; split <;> rfl
  have hcalls (y : Nat) (hy : y ∈ s.cfg.neighbours) :
      callsForAssist ((s.setPeer z x).peer y) = callsForAssist (s.peer y) := by
    rw [State.peer_setPeer]
    split
    · next hz => obtain ⟨rfl, -⟩ := hz; exact h hy
    · rfl
  rw [hset] at hcalls ⊢
  exact ⟨rfl, rfl, rfl, fun _ => rfl, fun _ => ⟨rfl, rfl, rfl, hcalls⟩⟩

/-! ### Events of the register and of the Peer Table (R3, R29, R130) -/

/-- Before a recompute the register may hold anything. -/
theorem RoleReady.withReg (h : RoleReady s) (new : IncidentRegister) : RoleReady (s.withReg new) := ⟨h.five, h.rest⟩

theorem RoleSound.registerEvent (h : RoleSound s) (new : IncidentRegister) : RoleSound (registerEvent new s) := by
  unfold Machine.registerEvent
  dsimp only
  split
  · next hsame => exact h.kept (.of_aside (storeRegister_aside hsame))
  · exact ((h.withReg new).kept (.of_lessReports (storeRegister_lessReports s new))).recompute

theorem RoleSound.applyClear (h : RoleSound s) : RoleSound (applyClear s) :=
  (h.registerEvent _).kept (.of_aside (declarationCheck_aside _))

theorem RoleSound.applyDeclare (h : RoleSound s) (own : Bool) (z : Station) (ws : List Word) :
    RoleSound (applyDeclare own z ws s) := by
  unfold Machine.applyDeclare
  cases own with
  | true => exact (h.kept (.of_aside (.withReg (new := ownDeclared s.reg) rfl))).registerEvent _
  | false => exact h.registerEvent _

theorem RoleSound.applyOverride (h : RoleSound s) (w : Word) (ha : s.ctl.mode.applies = true) :
    RoleSound (applyOverride w s) := by
  unfold Machine.applyOverride
  split
  · have hready : RoleReady (s.withRole { s.role with override := overrideMode w }) := roleReady_of_applies h.five ha
    exact (hready.kept (.of_lessReports (statusNotice_lessReports _))).recompute
  · exact h

theorem RoleSound.whenApplied {f : State → State} (h : RoleSound s) (hf : s.ctl.mode.applies = true → RoleSound (f s)) :
    RoleSound (whenApplied f s) := by
  unfold Machine.whenApplied
  split
  · next ha => exact hf ha
  · exact h

theorem RoleSound.silenceExpiry (h : RoleSound s) (z : Nat) : RoleSound (silenceExpiry z s) := by
  have hready (x : Peer) : RoleReady (s.setPeer z x) := by
    unfold State.setPeer
    split
    · exact ⟨h.five, h.rest⟩
    · exact h.toRoleReady
  unfold Machine.silenceExpiry
  dsimp only
  split
  · split
    · exact ((hready _).kept (.of_lessReports (raise_lessReports _ _))).recompute
    · next hn =>
      refine h.kept (setPeer_roleKept fun hz => absurd ?_ hn)
      have hcfg : (s.setPeer z (silentPeer (s.peer z))).cfg = s.cfg := by unfold State.setPeer; split <;> rfl
      simp [isNeighbour, hcfg, hz]
  · exact h

/-- A STATUS that tells the resolver nothing leaves all it reads (R127, R130). -/
theorem storeStatus_roleKept {z : Nat} {r : StatusRecord} (h : movesNeighbour s z = false) :
    RoleKept s (storeStatus z r s) := by
  refine .trans (t := if z = 0 ∨ z = s.station then s else s.setPeer z (heardPeer s.silence r (s.peer z))) ?_
    (.of_lessReports (storeStatus_lessReports s z r))
  refine .ite (fun _ => .refl s) fun hz => setPeer_roleKept fun hn => absurd h ?_
  have hzero : z ≠ 0 := fun e => hz (.inl e)
  have hown : z ≠ s.station := fun e => hz (.inr e)
  simp [movesNeighbour, isNeighbour, hzero, hown, hn]

theorem statusStored_roleKept {own : Bool} {z : Station} {w1 : Word}
    (h : s.ctl.mode.applies = true → (!own && movesNeighbour s z.toNat) = false) :
    RoleKept s (statusStored own z w1 s) := by
  unfold statusStored
  cases own with
  | true =>
    exact .of_aside (ownStatusAccepted_aside s)
  | false =>
    refine RoleKept.ite (p := s.ctl.mode.applies = true) (fun ha => storeStatus_roleKept ?_) fun _ => .refl s
    simpa using h ha

theorem RoleSound.applyStatus (h : RoleSound s) (own : Bool) (z : Station) (w1 w2 w3 : Word) :
    RoleSound (applyStatus own z w1 w2 w3 s) := by
  cases ha : s.ctl.mode.applies with
  | false =>
    obtain ⟨-, hreg, -⟩ := statusStored_kept own z w1 s
    have hstored : RoleSound (statusViewed own z w1 w2 w3 s) := by
      rw [statusViewed_idle ha]
      exact h.kept (statusStored_roleKept fun happlies => absurd happlies (by simp [ha]))
    rw [applyStatus_eq]
    split
    · exact hstored.recompute
    · exact hstored
  | true =>
    obtain ⟨hctl, -, -, -, -, hpanel⟩ := statusStored_kept own z w1 s
    have hviewed := statusViewed_lessReports (own := own) (z := z) (w1 := w1) (w2 := w2) (w3 := w3) ha
    by_cases hmoves : statusMoves own z w2 w3 s
    · rw [applyStatus_moved ha hmoves]
      have hready : RoleReady ((statusStored own z w1 s).withReg (afterView z w2 w3 s)) :=
        roleReady_of_applies (by rw [State.withReg_panel, hpanel, h.five]) (by rw [State.withReg_ctl, hctl, ha])
      exact (hready.kept (.of_lessReports hviewed)).recompute
    · rw [applyStatus_still ha hmoves]
      obtain ⟨hquiet, hsame⟩ := not_or.mp hmoves
      have hstored : RoleKept s (statusStored own z w1 s) := by
        refine statusStored_roleKept fun _ => ?_
        cases own with
        | true => rfl
        | false => simpa using hquiet
      have hview : RoleKept (statusStored own z w1 s) ((statusStored own z w1 s).withReg (afterView z w2 w3 s)) := by
        obtain ⟨-, hreg, -⟩ := statusStored_kept own z w1 s
        exact .same rfl (by rw [hreg]; exact not_not.mp hsame) rfl rfl (fun _ => rfl) rfl
      exact h.kept ((hstored.trans hview).trans (.of_lessReports hviewed))

/-! ### Changes of mode (R163 to R174) -/

/-- In an applying mode, whatever the shell otherwise is, the node is ready for a recompute. -/
theorem roleReady_of_shell {x : Shell} (h : s.shell = x) (ha : x.ctl.mode.applies = true)
    (hfive : x.reset.fiveSecs = false) :
    RoleReady s := by
  obtain ⟨hctl, -, -, hreset, -⟩ := shell_eq h
  exact roleReady_of_applies (by rw [hreset, hfive]) (by rw [hctl, ha])

theorem enterActive_roleSound (hfive : s.panel.reset.fiveSecs = false) : RoleSound (enterActive s) := by
  have hready : RoleReady (setMode .active (s.withCtl { s.ctl with listenTimer := none })) :=
    roleReady_of_applies hfive rfl
  have hstarted := hready.recompute.kept (.of_lessSequencing (startSequencers_lessSequencing _))
  exact ((hstarted.kept (graceStart_roleKept _)).kept (completeListening_roleKept _)).kept (startTests_roleKept _)

theorem RoleSound.endListenOnAlarm (h : RoleSound s) : RoleSound (endListenOnAlarm s) := by
  unfold Machine.endListenOnAlarm
  split
  · exact enterActive_roleSound h.five
  · exact h

theorem beginListen_roleReady (hfive : s.panel.reset.fiveSecs = false) : RoleReady (beginListen s) :=
  roleReady_of_shell (beginListen_shell s) rfl hfive

theorem enterListen_roleSound (hfive : s.panel.reset.fiveSecs = false) : RoleSound (enterListen s) := by
  have hready := beginListen_roleReady hfive
  have hscan : RoleReady (setScan (scanFrom (beginListen s) 0) (beginListen s)) := ⟨hready.five, hready.rest⟩
  exact (hscan.kept (.of_aside (declarationCheck_aside _))).recompute.endListenOnAlarm

theorem reenterListen_roleSound (hfive : s.panel.reset.fiveSecs = false) : RoleSound (reenterListen s) :=
  (((beginListen_roleReady hfive).kept (.of_aside (replaceDeclare_aside _))).kept
    (.of_aside (declarationCheck_aside _))).recompute.endListenOnAlarm

theorem leaveMute_roleSound (hfive : s.panel.reset.fiveSecs = false) : RoleSound (leaveMute s) := by
  have hended : (endCond (plainCond .stationConflict) s).panel.reset.fiveSecs = false := by
    obtain ⟨-, -, -, -, -, -, -, -, hpanel, -⟩ := lessReports_eq (endCond_lessReports s (plainCond .stationConflict))
    rw [hpanel, hfive]
  unfold leaveMute
  dsimp only
  split
  · exact reenterListen_roleSound hended
  · refine (RoleSound.kept (RoleReady.recompute ?_) (completeListening_roleKept _)).kept (startTests_roleKept _)
    refine RoleReady.kept (RoleReady.kept ?_ (.of_aside (startStagger_aside _))) (.of_aside (replaceDeclare_aside _))
    exact roleReady_of_applies hended rfl

theorem RoleSound.evidence (h : RoleSound s) : RoleSound (evidence s) := by
  cases ha : s.ctl.mode.applies with
  | false => rwa [evidence_idle ha]
  | true =>
    rcases evidence_cases ha with ⟨o, -, e⟩ | ⟨-, e⟩
    · have hready : RoleReady (muteEntered o s) := roleReady_of_applies h.five rfl
      rw [e, enterMute_eq]
      exact (hready.kept (.of_lessReports (muteReported_lessReports o s))).recompute.kept (startTests_roleKept _)
    · rw [e]
      exact h.kept ⟨rfl, rfl, rfl, fun _ => rfl, fun _ => ⟨rfl, rfl, rfl, fun _ _ => rfl⟩⟩

theorem enterLockout_roleKept (h : s.ctl.mode.applies = false) : RoleKept s (enterLockout s) :=
  ((setMode_roleKept .lockout (by rw [h]; rfl)).trans (.of_lessReports (raise_lessReports _ _))).trans
    (.of_aside (startStagger_aside _))

theorem sampleStraps_roleKept (p : StrapPins) (h : s.ctl.mode.applies = false) : RoleKept s (sampleStraps p s) := by
  have hsampled (x : Option Straps) : RoleKept s (s.withCtl { s.ctl with straps := x }) :=
    ⟨rfl, rfl, rfl, fun _ => rfl, fun ha => absurd ha (by simp [h])⟩
  exact (hsampled _).trans (.ite (fun _ => enterLockout_roleKept h) fun _ => setMode_roleKept .config h.symm)

theorem coldReset_roleSound (p : StrapPins) (s : State) : RoleSound (coldReset p s) := by
  have hrest : RoleAtRest (coldState p s) := by
    refine ⟨rfl, rfl, rfl, rfl, fun c => ?_⟩
    exact congrArg Channel.target (mapVec_getElem
      (fun x : Channel => { Channel.reset with inA := x.inA.cold, inB := x.inB.cold }) s.chans c.val c.isLt)
  exact (RoleSound.mk ⟨rfl, fun _ => hrest⟩ nofun).kept (sampleStraps_roleKept p rfl)

/-! ### A warm-reset release (R173) -/

theorem resumeBlocks_roleSound (ha : s.ctl.mode.applies = true) (hfive : s.panel.reset.fiveSecs = false) :
    RoleSound (resumeBlocks s) := by
  have hshell := resumeBlocks_shell s
  rw [resumeBlocks_eq, resumeContain_shell, recompute_shell] at hshell
  rw [resumeBlocks_eq]
  exact (roleReady_of_shell hshell ha hfive).recompute.kept (resumeContain_roleKept _)

theorem warmReset_roleLaw (h : RoleLaw s) (hfive : s.panel.reset.fiveSecs = false) : RoleLaw (warmReset s) := by
  have hreleased : RoleKept s (releaseReset s) :=
    ⟨rfl, hfive.symm, rfl, fun _ => rfl, fun _ => ⟨rfl, rfl, rfl, fun _ _ => rfl⟩⟩
  have hsound : RoleSound (releaseReset s) := (roleSound_of_roleLaw h hfive).kept hreleased
  have hactive : RoleSound (resumeActive (releaseReset s)) := by
    rw [resumeActive_released]
    have hresumed := resumeBlocks_roleSound (s := releasedActive s) rfl rfl
    exact ((hresumed.kept (.of_lessSequencing (resumeSequencers_lessSequencing _ _))).kept
      (completeListening_roleKept _)).kept (startTests_roleKept _)
  unfold warmReset
  dsimp only
  refine RoleSound.law ?_
  split
  · next hm => exact hsound.kept (sampleStraps_roleKept _ (by rw [hm]; rfl))
  · exact hsound
  · rw [resumeListen_released]
    exact (resumeBlocks_roleSound (s := releasedListen s) rfl rfl).endListenOnAlarm
  · exact hactive
  · exact hactive
  · exact (hsound.kept (.of_lessReports (raise_lessReports _ _))).kept (.of_aside (startStagger_aside _))

/-! ### Every command -/

/-- The hold of RESET reaches 5 s in reset alone (R156). -/
theorem fiveSecs_of_awake (hmode : ModeLaw s) (hr : s.inReset = false) : s.panel.reset.fiveSecs = false := by
  obtain ⟨-, -, -, -, -, -, -, -, -, -, hfive⟩ := hmode
  cases h : s.panel.reset.fiveSecs with
  | false => rfl
  | true => rw [hfive h] at hr; cases hr

/-- The work of a node outside reset keeps the law where it keeps it short of 5 s. -/
theorem RoleLaw.outside {f : State → State} (h : RoleLaw s)
    (hfive : s.inReset = false → s.panel.reset.fiveSecs = false)
    (hf : s.inReset = false → RoleSound s → RoleSound (f s)) : RoleLaw (s.outside f) := by
  cases hr : s.inReset with
  | true => rwa [outside_of_inReset hr]
  | false =>
    rw [outside_of_not_inReset hr]
    exact (hf hr (roleSound_of_roleLaw h (hfive hr))).law

theorem RoleLaw.outside_kept {f : State → State} (h : RoleLaw s) (hf : RoleKept s (f s)) : RoleLaw (s.outside f) := by
  unfold State.outside
  split
  · exact h
  · exact h.kept hf

/-- An accepted frame keeps the law where its blocks do (R146, R147). -/
theorem acceptFrame_roleLaw {own : Bool} {f : Frame} {blocks : State → State} (h : RoleLaw s) (hmode : ModeLaw s)
    (hb : ∀ u, RoleSound u → RoleSound (blocks u)) : RoleLaw (acceptFrame own f blocks s) := by
  cases hh : s.hears with
  | false =>
    unfold acceptFrame
    rwa [State.accepts_eq, if_neg (by simp [hh])]
  | true =>
    have hr : s.inReset = false := by
      unfold State.hears at hh
      simpa using (Bool.and_eq_true_iff.mp hh).1
    rw [acceptFrame_eq own f blocks hh]
    have hblocks := hb _ ((roleSound_of_roleLaw h (fiveSecs_of_awake hmode hr)).kept (.of_aside (frameIn_aside own s)))
    have hconflict : RoleSound (detectConflict own f (blocks (frameIn own s))) := by
      unfold detectConflict
      split
      · exact hblocks.evidence
      · exact hblocks
    exact ((hconflict.kept (startTests_roleKept _)).kept (.of_aside (settleRaises_aside _ _))).law

theorem configRead_roleSound (b : ConfigBytes) (h : RoleSound s) (hm : s.ctl.mode = .config) :
    RoleSound (configRead b s) := by
  unfold configRead
  split
  · exact enterListen_roleSound h.five
  · exact h.kept (enterLockout_roleKept (by rw [hm]; rfl))

theorem alarmEvent_roleSound (active : Bool) (h : RoleSound s) : RoleSound (alarmEvent active s) := by
  have hnotice : RoleSound (statusNotice s) := h.kept (.of_lessReports (statusNotice_lessReports s))
  have hchecked : RoleSound (declarationCheck (statusNotice s)) := hnotice.kept (.of_aside (declarationCheck_aside _))
  unfold alarmEvent
  dsimp only
  split
  · split
    · exact enterActive_roleSound hchecked.five
    · exact hchecked
  · exact hnotice

/-- Own claim's acceptance and a peer's claim move the start logic alone (R76, R77). -/
theorem claimBlocks_roleSound (own : Bool) (n : Nat) (h : RoleSound s) :
    RoleSound ((if own then ownClaim else whenApplied (peerClaim n)) s) := by
  cases own with
  | true => exact h.kept (.of_lessSequencing (ownClaim_lessSequencing s))
  | false => exact h.whenApplied fun _ => h.kept (.of_lessSequencing (peerClaim_lessSequencing s n))

/-- The hold of 5 s switches FIRE-MODE off and leaves the rest of the resolver (R156). -/
theorem resetHold5s_roleLaw (h : RoleLaw s) (x : ResetLine) (hx : x.fiveSecs = true) :
    RoleLaw ((allOutputsOff s).withPanel { s.panel with reset := x }) := by
  obtain ⟨happlied, hrest, -⟩ := h
  have htarget (c : ChannelNo) : ((stopSequencers s).ch c).target = (s.ch c).target :=
    (congrArg Channel.target (ch_mapVec (fun x => { x with seq := .stopped, output := false }) s c)).trans rfl
  have hnew (c : ChannelNo) :
      newTarget ((allOutputsOff s).withPanel { s.panel with reset := x }) c = newTarget s c := by
    have hoff : (((allOutputsOff s).withPanel { s.panel with reset := x }).ch c).target = (s.ch c).target := htarget c
    unfold newTarget
    rw [hoff]
    rfl
  refine ⟨fun ha => ?_, fun ha => ?_, fun _ => rfl⟩
  · obtain ⟨hrole, hassist, htargets, -⟩ := happlied ha
    refine ⟨hrole, hassist, fun c => ?_, fun hfive => absurd hfive (by change x.fiveSecs ≠ false; simp [hx])⟩
    exact (htarget c).trans ((htargets c).trans (hnew c).symm)
  · obtain ⟨hover, hzone, hassist, -, hoff⟩ := hrest ha
    exact ⟨hover, hzone, hassist, rfl, fun c => (htarget c).trans (hoff c)⟩

/-- Time moves timers and lines alone. -/
theorem passMs_roleKept (s : State) : RoleKept s (passMs s) := by
  obtain ⟨hrole, -⟩ := passMs_rest s
  have htarget (c : ChannelNo) : ((passMs s).ch c).target = (s.ch c).target := by rw [passMs_ch]
  have hfive : (passMs s).panel.reset.fiveSecs = s.panel.reset.fiveSecs := by
    rw [passMs_panel]
    exact (congrArg ResetLine.fiveSecs (ResetLine.tick_eq s.panel.reset)).trans rfl
  cases hr : s.inReset with
  | true =>
    have e := passMs_inReset hr
    refine ⟨by rw [e], hfive, hrole, htarget, fun _ => ⟨by rw [e], by rw [e], by rw [e], fun z _ => ?_⟩⟩
    rw [e]
    rfl
  | false =>
    have e := passMs_outside hr
    refine ⟨by rw [e], hfive, hrole, htarget, fun _ => ⟨by rw [e], by rw [e], by rw [e], fun z _ => ?_⟩⟩
    rw [passMs_peer hr]
    rfl

theorem exec_roleLaw {i : Instr} (hmode : ModeLaw s) (h : RoleLaw s) (e : exec i s = .next t) : RoleLaw t := by
  have hfive := fiveSecs_of_awake hmode
  cases i with
  | powerUp p => cases e; exact (coldReset_roleSound p s).law
  | coldReset p => cases e; exact (coldReset_roleSound p s).law
  | resetHeld =>
    cases e
    refine h.outside hfive fun _ hs => hs.kept ?_
    exact ⟨rfl, hs.five.symm, rfl, fun _ => rfl, fun _ => ⟨rfl, rfl, rfl, fun _ _ => rfl⟩⟩
  | resetHold5s =>
    cases e
    exact holds_ite (resetHold5s_roleLaw h _ rfl) h
  | warmReset =>
    cases e
    split
    · next hheld => exact (warmReset_roleLaw h hheld.2).kept (.of_aside (settleRaises_aside _ _))
    · exact h
  | configReadDone b =>
    cases e
    refine h.outside hfive fun _ hs => ?_
    split
    · next hm => exact (configRead_roleSound b hs hm).kept (.of_aside (settleRaises_aside _ _))
    · exact hs
  | listenTimerExpiry =>
    cases e
    exact h.outside hfive fun _ hs => holds_ite ((enterActive_roleSound hs.five).kept (.of_aside (settleRaises_aside _ _))) hs
  | muteQuietTimerExpiry =>
    cases e
    exact h.outside hfive fun _ hs => holds_ite ((leaveMute_roleSound hs.five).kept (.of_aside (settleRaises_aside _ _))) hs
  | lineIdle levels =>
    cases e; exact h.outside_kept (.ite (fun _ => .of_aside (.withLink s _)) fun _ => .refl s)
  | attemptStart =>
    cases e
    refine h.outside_kept (.ite (fun _ => ?_) fun _ => .refl s)
    split
    · exact .of_aside <| sendKind_aside _ s
    · exact .refl s
  | arbitrationLost bit => cases e; exact h.outside_kept (stopSending_roleKept bit s)
  | duplicateKeyStop bit =>
    cases e
    exact h.outside hfive fun _ hs => holds_ite (hs.kept (stopSending_roleKept bit s)).evidence hs
  | failedAttempt =>
    cases e
    refine h.outside_kept (.ite (fun _ => ?_) fun _ => .refl s)
    exact (RoleKept.of_aside (failed_aside s)).trans (startTests_roleKept _)
  | retryWaitEnd b =>
    cases e; exact h.outside_kept (.ite (fun _ => .of_aside (.withLink s _)) fun _ => .refl s)
  | clearAccepted z w => cases e; exact acceptFrame_roleLaw h hmode fun u hu => hu.whenApplied fun _ => hu.applyClear
  | overrideAccepted z w =>
    cases e; exact acceptFrame_roleLaw h hmode fun u hu => hu.whenApplied fun ha => hu.applyOverride w ha
  | fireDeclareAccepted z ws =>
    cases e; exact acceptFrame_roleLaw h hmode fun u hu => hu.whenApplied fun _ => hu.applyDeclare _ z ws
  | startClaimAccepted urgent z w => cases e; exact acceptFrame_roleLaw h hmode fun u hu => claimBlocks_roleSound _ _ hu
  | statusAccepted z w1 w2 w3 w4 =>
    cases e; exact acceptFrame_roleLaw h hmode fun u hu => hu.applyStatus _ z w1 w2 w3
  | otherFrameAccepted cls z ws => cases e; exact acceptFrame_roleLaw h hmode fun u hu => hu
  | isolatedDeclarationTimerExpiry =>
    cases e; exact h.outside hfive fun _ hs => holds_ite (hs.registerEvent _) hs
  | alarmChange active =>
    cases e
    refine holds_ite h (RoleLaw.kept ?_ (.of_aside (settleRaises_aside _ _)))
    exact RoleLaw.outside (h.kept (.of_aside (.withPanel rfl))) hfive fun _ hs => alarmEvent_roleSound active hs
  | panelResetPulse =>
    cases e
    refine holds_ite h (RoleLaw.outside_kept (h.kept (.of_aside (.withPanel rfl))) ?_)
    exact .ite (fun _ => .of_aside (.withLink _ _)) fun _ => .refl _
  | ackPulse b =>
    cases e
    exact holds_ite h (RoleLaw.outside_kept (h.kept (.of_aside (.withPanel rfl)))
      (.of_lessReports (acknowledge_lessReports _ b)))
  | statusPeriodTimerExpiry =>
    cases e
    refine h.outside_kept (.ite (fun _ => ?_) fun _ => .refl s)
    exact .of_aside ((Aside.withStatus s _).trans (.of_lessReports (queueStatus_lessReports _)))
  | spacingTimerExpiry z => cases e; exact h.outside_kept (setPeer_roleKept fun _ => rfl)
  | silenceTimerExpiry z =>
    cases e; exact h.outside hfive fun _ hs => (hs.silenceExpiry z.toNat).kept (.of_aside (settleRaises_aside _ _))
  | holdOffExpiry => cases e; exact h.outside_kept (.ite (fun _ => .of_lessSequencing (by simp)) fun _ => .refl s)
  | provingTimerExpiry c => cases e; exact h.outside_kept (.of_lessSequencing (provingExpiry_lessSequencing s c))
  | runDownTimerExpiry c => cases e; exact h.outside_kept (.of_lessSequencing (by simp))
  | travelTimerExpiry c => cases e; exact h.outside_kept (.of_lessSequencing (by simp))
  | provingSwitchChange c made =>
    cases e; exact holds_ite h ((h.kept (storeInput_roleKept .a made s)).outside_kept (inputEvent_roleKept .a made _))
  | limitChange c i made =>
    cases e; exact holds_ite h ((h.kept (storeInput_roleKept i made s)).outside_kept (inputEvent_roleKept i made _))
  | graceTimerExpiry => cases e; exact h.outside_kept (graceExpiry_roleKept s)
  | conversionADone a =>
    cases e
    refine h.outside_kept ?_
    split
    · exact .same rfl rfl rfl rfl (fun _ => rfl) rfl
    · exact .refl s
  | pairComplete b =>
    cases e
    refine h.outside_kept ?_
    split
    · next p a _ =>
      have hpair : RoleKept s (pairEvent p a b (setScan (scanFrom s (p.val + 1)) s)) :=
        .trans (t := setScan (scanFrom s (p.val + 1)) s) (.same rfl rfl rfl rfl (fun _ => rfl) rfl)
          (pairEvent_roleKept p a b _)
      exact .ite (fun _ => hpair.trans (.of_aside (settleRaises_aside _ _))) fun _ => hpair
    · exact .refl s
  | supplySample k =>
    cases e
    refine h.outside_kept ?_
    split
    · exact .trans (t := setScan (scanFrom s 0) s) (.same rfl rfl rfl rfl (fun _ => rfl) rfl) (supplyEvent_roleKept _ _)
    · exact .refl s
  | pulseLineReturnInactive line => cases e; cases line <;> exact h.kept (.of_aside (.withPanel rfl))

end Sys2Proof.Machine

open Sys2Proof Sys2Proof.Machine in
/-- Settles O6: a recompute brings a node to the law, and what is done without one leaves all that the law reads. -/
theorem stepKeepsRoleLaw : Obligations.StepKeepsRoleLaw := by
  intro s t hmode h e
  rcases step_cases e with ⟨i, rest, hi⟩ | rfl
  · exact exec_roleLaw (s := s.withPending rest) hmode h hi
  · exact h.kept (passMs_roleKept s)
end

section
/-! Containment state and grace timer along every step: O10 (R109 to R117). -/

namespace Sys2Proof.Machine

variable {s t u : State} {r : Prop}

/-! ### The law, with the start of a stopped grace timer still to come or not -/

/-- The containment state goes with the role and the boundary test (R110, R111). -/
def ContainStateLaw (s : State) (st : ContainState) : Prop :=
  match st with
  | .notApplicable => s.role.role.extract = false
  | .unsupervised => s.role.role.extract = true ∧ boundarySet s = []
  | .achieved => s.role.role.extract = true ∧ boundaryTest s = true
  | .pending => s.role.role.extract = true ∧ boundarySet s ≠ [] ∧ boundaryTest s = false
  | .notAchieved => s.role.role.extract = true ∧ boundarySet s ≠ [] ∧ boundaryTest s = false

/-- The monitor's law; where the sequencers have just started, `r` says whether a PENDING grace has started too (R112). -/
structure ContainHeld (r : Prop) (s : State) : Prop where
  state : ContainStateLaw s s.contain.state
  stops : s.contain.grace.isSome = true → s.contain.state = .pending ∧ s.sequencing = true
  runs  : r → s.contain.state = .pending → s.sequencing = true → s.contain.grace.isSome = true
  most  : AtMost (graceTime s) s.contain.grace
  idle  : s.ctl.mode.applies = false → s.contain = State.reset.contain

theorem containLaw_iff : ContainLaw s ↔ ContainHeld True s := by
  have hstate : ContainLaw s ↔ ContainStateLaw s s.contain.state
      ∧ (s.contain.grace.isSome = true ↔ s.contain.state = .pending ∧ s.sequencing = true)
      ∧ AtMost (graceTime s) s.contain.grace ∧ (s.ctl.mode.applies = false → s.contain = State.reset.contain) := by
    unfold ContainLaw ContainStateLaw
    cases s.contain.state <;> rfl
  rw [hstate]
  constructor
  · rintro ⟨hlaw, hgrace, hmost, hidle⟩
    exact ⟨hlaw, hgrace.mp, fun _ hp hq => hgrace.mpr ⟨hp, hq⟩, hmost, hidle⟩
  · rintro ⟨hlaw, hstops, hruns, hmost, hidle⟩
    exact ⟨hlaw, ⟨hstops, fun ⟨hp, hq⟩ => hruns trivial hp hq⟩, hmost, hidle⟩

/-- Nothing that the monitor's law reads has moved. -/
structure ContainKept (s t : State) : Prop where
  contain    : t.contain = s.contain
  extract    : t.role.role.extract = s.role.role.extract
  sequencing : t.sequencing = s.sequencing
  applies    : t.ctl.mode.applies = false → s.ctl.mode.applies = false
  boundary   : s.ctl.mode.applies = true → t.ctl.config = s.ctl.config
    ∧ ∀ p : PressureNo, (s.prCfg p).role = .boundary → (t.pressure p).proven = (s.pressure p).proven

namespace ContainKept

theorem refl (s : State) : ContainKept s s := ⟨rfl, rfl, rfl, id, fun _ => ⟨rfl, fun _ _ => rfl⟩⟩

theorem same (hctl : t.ctl = s.ctl) (hrole : t.role.role = s.role.role) (hmeas : t.meas.channels = s.meas.channels)
    (hcontain : t.contain = s.contain) : ContainKept s t :=
  ⟨hcontain, by rw [hrole], by unfold State.sequencing; rw [hctl], fun h => by rwa [← hctl],
    fun _ => ⟨by rw [hctl], fun p _ => by unfold State.pressure; rw [hmeas]⟩⟩

theorem trans (h : ContainKept s t) (k : ContainKept t u) : ContainKept s u where
  contain := k.contain.trans h.contain
  extract := k.extract.trans h.extract
  sequencing := k.sequencing.trans h.sequencing
  applies ha := h.applies (k.applies ha)
  boundary ha := by
    obtain ⟨hconfig, hproven⟩ := h.boundary ha
    have happlies : t.ctl.mode.applies = true := by
      cases ht : t.ctl.mode.applies with
      | true => rfl
      | false => rw [h.applies ht] at ha; cases ha
    obtain ⟨kconfig, kproven⟩ := k.boundary happlies
    have hcfg : t.prCfg = s.prCfg := by unfold State.prCfg State.cfg; rw [hconfig]
    exact ⟨kconfig.trans hconfig, fun p hp => (kproven p (by rwa [hcfg])).trans (hproven p hp)⟩

theorem ite {p : Prop} [Decidable p] (h : p → ContainKept s t) (k : ¬p → ContainKept s u) :
    ContainKept s (if p then t else u) := by
  split
  · next hp => exact h hp
  · next hp => exact k hp

theorem of_aside (h : Aside s t) : ContainKept s t := same h.ctl (by rw [h.role]) (by rw [h.meas]) h.contain

theorem of_lessSequencing (h : t.lessSequencing = s.lessSequencing) : ContainKept s t := by
  obtain ⟨hctl, -, hrole, hmeas, hcontain, -⟩ := lessSequencing_eq h
  exact same hctl (by rw [hrole]) (by rw [hmeas]) hcontain

theorem of_lessReports (h : t.lessReports = s.lessReports) : ContainKept s t :=
  of_lessSequencing (lessSequencing_of_lessReports h)

end ContainKept

theorem boundarySet_congr (h : t.ctl.config = s.ctl.config) : boundarySet t = boundarySet s := by
  unfold boundarySet State.prCfg State.cfg
  rw [h]

theorem boundaryTest_congr (h : t.ctl.config = s.ctl.config)
    (hp : ∀ p : PressureNo, (s.prCfg p).role = .boundary → (t.pressure p).proven = (s.pressure p).proven) :
    boundaryTest t = boundaryTest s := by
  have hall : (boundarySet s).all (fun p => (t.pressure p).proven) = (boundarySet s).all (fun p => (s.pressure p).proven) := by
    rw [Bool.eq_iff_iff, List.all_eq_true, List.all_eq_true]
    refine forall_congr' fun p => imp_congr_right fun hmem => ?_
    rw [hp p (of_decide_eq_true (List.mem_filter.mp hmem).2)]
  unfold boundaryTest
  rw [boundarySet_congr h, hall]

theorem ContainStateLaw.congr {st : ContainState} (h : ContainStateLaw s st)
    (hextract : t.role.role.extract = s.role.role.extract) (hset : boundarySet t = boundarySet s)
    (htest : boundaryTest t = boundaryTest s) : ContainStateLaw t st := by
  unfold ContainStateLaw at h ⊢
  rwa [hextract, hset, htest]

/-- The cold-reset values go with every configuration. -/
theorem containHeld_of_reset (h : s.contain = State.reset.contain) (hextract : s.role.role.extract = false) (r : Prop) :
    ContainHeld r s := by
  have hnone : s.contain.grace = none := by rw [h]; rfl
  have hstate : s.contain.state = .notApplicable := by rw [h]; rfl
  exact ⟨by rw [hstate]; exact hextract, fun k => absurd k (by simp [hnone]), fun _ k => absurd k (by simp [hstate]),
    by simp [AtMost, hnone], fun _ => h⟩

/-- Outside LISTEN, ACTIVE and MUTE the role is none of the extract roles (R109). -/
theorem ContainHeld.at_rest (h : ContainHeld r s) (ha : s.ctl.mode.applies = false) :
    s.contain = State.reset.contain ∧ s.role.role.extract = false := by
  have hreset := h.idle ha
  have hstate := h.state
  rw [hreset] at hstate
  exact ⟨hreset, hstate⟩

theorem ContainHeld.kept (h : ContainHeld r s) (k : ContainKept s t) : ContainHeld r t := by
  cases ha : s.ctl.mode.applies with
  | false =>
    obtain ⟨hreset, hextract⟩ := h.at_rest ha
    exact containHeld_of_reset (k.contain.trans hreset) (k.extract.trans hextract) r
  | true =>
    obtain ⟨hconfig, hproven⟩ := k.boundary ha
    refine ⟨?_, ?_, ?_, ?_, fun hidle => absurd (k.applies hidle) (by simp [ha])⟩
    · rw [k.contain]
      exact h.state.congr k.extract (boundarySet_congr hconfig) (boundaryTest_congr hconfig hproven)
    · rw [k.contain, k.sequencing]; exact h.stops
    · rw [k.contain, k.sequencing]; exact h.runs
    · rw [k.contain, graceTime_congr hconfig]; exact h.most

/-! ### A recompute (R111) -/

/-- The entry derivation's state and timer (R111, R112). -/
def containEntered (s : State) : Containment :=
  if boundarySet s = [] then { state := .unsupervised, grace := none }
  else if boundaryTest s then { state := .achieved, grace := none }
  else { state := .pending, grace := pendingGrace s }

/-- State and timer after a recompute (R111). -/
def containRecomputed (s : State) : Containment :=
  if deriveRole s = s.role.role then s.contain
  else if (deriveRole s).extract then (if s.role.role.extract then s.contain else containEntered s)
  else { state := .notApplicable, grace := none }

theorem containEntered_congr (hctl : t.ctl = s.ctl) (hmeas : t.meas = s.meas) : containEntered t = containEntered s := by
  have hconfig : t.ctl.config = s.ctl.config := by rw [hctl]
  have hproven (p : PressureNo) : (t.pressure p).proven = (s.pressure p).proven := by unfold State.pressure; rw [hmeas]
  unfold containEntered
  rw [boundarySet_congr hconfig, boundaryTest_congr hconfig fun p _ => hproven p, pendingGrace_congr hctl]

theorem containRole_contain (old new : ZoneRole) (s : State) : (containRole old new s).contain
    = if new.extract then (if old.extract then s.contain else containEntered s)
      else { state := .notApplicable, grace := none } := by
  have hset (st : ContainState) (g : Option Nat) : (setContain st g s).contain = { state := st, grace := g } :=
    (setContain_keeps s st g).1
  unfold containRole deriveContain containEntered
  split
  · split
    · rfl
    · split
      · exact hset _ _
      · split
        · exact hset _ _
        · exact hset _ _
  · exact hset _ _

theorem noticed_contain (changed : List ChannelNo) (b : Bool) (old new : ZoneRole) (s : State) :
    (noticed changed b old new s).contain = if b then (containRole old new s).contain else s.contain := by
  have hkept {v w : State} (h : w.lessSequencing = v.lessSequencing) : w.contain = v.contain := by
    obtain ⟨-, -, -, -, hcontain, -⟩ := lessSequencing_eq h
    exact hcontain
  have hnotice := lessReports_eq (statusNotice_lessReports s)
  obtain ⟨hctl, -, -, -, -, hmeas, hcontain, -⟩ := hnotice
  unfold noticed
  rw [foldl_keeps _ State.contain _ fun s c => hkept (fanNotice_lessSequencing s _ _ c),
    foldl_keeps _ State.contain _ fun s c => hkept (damperTarget_lessSequencing s c)]
  cases b with
  | false => rfl
  | true =>
    simp only [if_true]
    rw [containRole_contain, containRole_contain, hcontain, containEntered_congr hctl hmeas]

theorem retargeted_rest (s : State) :
    (retargeted s).contain = s.contain ∧ (retargeted s).ctl = s.ctl ∧ (retargeted s).meas = s.meas := by
  have hkept (v : State) : v.contain = s.contain ∧ v.ctl = s.ctl ∧ v.meas = s.meas → ∀ c,
      (replaceTarget c (newTarget v c) v).contain = s.contain ∧ (replaceTarget c (newTarget v c) v).ctl = s.ctl
        ∧ (replaceTarget c (newTarget v c) v).meas = s.meas := fun h _ => h
  exact foldl_preserves _ (fun v => v.contain = s.contain ∧ v.ctl = s.ctl ∧ v.meas = s.meas) _
    (fun v c h => hkept v h c) _ ⟨rfl, rfl, rfl⟩

theorem recompute_contain (ha : s.ctl.mode.applies = true) : (recompute s).contain = containRecomputed s := by
  obtain ⟨hcontain, hctl, hmeas⟩ := retargeted_rest (derived s)
  rw [recompute_eq ha, startTests_contain, noticed_contain, containRole_contain, hcontain,
    containEntered_congr (s := s) hctl hmeas]
  unfold containRecomputed
  by_cases h : deriveRole s = s.role.role
  · rw [if_pos h, decide_eq_false (by simp [h])]
    rfl
  · rw [if_neg h, decide_eq_true h]
    rfl

/-- State and timer that the entry derivation gives are lawful in an extract role (R110 to R112). -/
theorem containEntered_held (hextract : s.role.role.extract = true) (ha : s.ctl.mode.applies = true) (r : Prop) :
    ContainHeld r (s.withContain (containEntered s)) := by
  have hidle : (s.withContain (containEntered s)).ctl.mode.applies = false →
      (s.withContain (containEntered s)).contain = State.reset.contain := fun h => absurd (h.symm.trans ha) (by decide)
  unfold containEntered at hidle ⊢
  by_cases hset : boundarySet s = []
  · rw [if_pos hset] at hidle ⊢
    exact ⟨⟨hextract, hset⟩, nofun, nofun, atMost_none _, hidle⟩
  · rw [if_neg hset] at hidle ⊢
    cases htest : boundaryTest s with
    | true => exact ⟨⟨hextract, htest⟩, nofun, nofun, atMost_none _, by simpa [htest] using hidle⟩
    | false =>
      refine ⟨⟨hextract, hset, htest⟩, fun h => ⟨rfl, ?_⟩, fun _ _ h => ?_, ?_, by simpa [htest] using hidle⟩
      · change (pendingGrace s).isSome = true at h
        unfold pendingGrace at h
        split at h
        · next hrun => exact hrun
        · cases h
      · change (pendingGrace s).isSome = true
        unfold pendingGrace
        rw [if_pos (show s.sequencing = true from h)]
        rfl
      · change AtMost (graceTime s) (pendingGrace s)
        unfold pendingGrace
        split <;> simp [AtMost]

theorem notApplicable_held (hextract : s.role.role.extract = false) (r : Prop) :
    ContainHeld r (s.withContain { state := .notApplicable, grace := none }) :=
  containHeld_of_reset (s := s.withContain _) rfl hextract r

/-- A recompute keeps the law: a role that leaves the extract roles, or enters them, sets state and timer anew (R111). -/
theorem ContainHeld.recompute (h : ContainHeld r s) : ContainHeld r (Machine.recompute s) := by
  cases ha : s.ctl.mode.applies with
  | false => rwa [recompute_idle s ha]
  | true =>
    obtain ⟨hctl, -, -, hmeas, -⟩ := lessRoles_eq (recompute_lessRoles s)
    have hrole : (Machine.recompute s).role.role = deriveRole s := by rw [recompute_role s ha]
    have hkept : ContainKept ((derived s).withContain (containRecomputed s)) (Machine.recompute s) :=
      .same hctl hrole (by rw [hmeas]; rfl) (recompute_contain ha)
    refine ContainHeld.kept ?_ hkept
    unfold containRecomputed
    by_cases hsame : deriveRole s = s.role.role
    · rw [if_pos hsame]
      exact h.kept (.same rfl hsame rfl rfl)
    · rw [if_neg hsame]
      cases hnew : (deriveRole s).extract with
      | false => exact notApplicable_held (s := derived s) hnew r
      | true =>
        cases hold : s.role.role.extract with
        | true => exact h.kept ⟨rfl, hnew.trans hold.symm, rfl, id, fun _ => ⟨rfl, fun _ _ => rfl⟩⟩
        | false => exact containEntered_held (s := derived s) hnew ha r

/-! ### Modes (R112, R163 to R173) -/

/-- A change of mode that leaves LISTEN, ACTIVE and MUTE to none, and the sequencers as they are. -/
theorem setMode_containKept (m : Mode) (x : ModeCtl) (happlies : m.applies = false → s.ctl.mode.applies = false)
    (hrun : (s.withCtl { x with mode := m }).sequencing = s.sequencing)
    (hconfig : s.ctl.mode.applies = true → x.config = s.ctl.config) : ContainKept s (setMode m (s.withCtl x)) :=
  have hset : ContainKept s (s.withCtl { x with mode := m }) :=
    ⟨rfl, rfl, hrun, happlies, fun ha => ⟨hconfig ha, fun _ _ => rfl⟩⟩
  ⟨hset.contain, hset.extract, hset.sequencing, hset.applies, hset.boundary⟩

theorem startTests_containKept (s : State) : ContainKept s (startTests s) := .of_lessSequencing (startTests_lessSequencing s)

theorem completeListening_containKept (s : State) : ContainKept s (completeListening s) :=
  .trans (t := s.withPeers { s.peers with listened := true })
    (.same rfl rfl rfl rfl) (.of_lessReports (completeListening_lessReports s))

/-- With the sequencers running, a PENDING grace that is stopped starts (R112). -/
theorem ContainHeld.graceStart (h : ContainHeld r s) (hrun : s.sequencing = true) : ContainHeld True (graceStart s) := by
  unfold Machine.graceStart
  split
  · next hstopped =>
    obtain ⟨hpending, -⟩ := hstopped
    refine ⟨h.state, fun _ => ⟨hpending, hrun⟩, fun _ _ _ => rfl, atMost_some.mpr le_rfl,
      fun ha => ?_⟩
    have hreset := h.idle ha
    rw [hreset] at hpending
    cases hpending
  · next hstarted =>
    refine ⟨h.state, h.stops, fun _ hpending _ => ?_, h.most, h.idle⟩
    exact Option.isSome_iff_ne_none.mpr fun hnone => hstarted ⟨hpending, hnone⟩

/-- The entry to ACTIVE from LISTEN, where the sequencers did not run (R170). -/
theorem ContainHeld.enterActive (h : ContainHeld r s) (hm : s.ctl.mode = .listen) : ContainHeld True (enterActive s) := by
  have hidle : s.sequencing = false := by unfold State.sequencing; rw [hm]
  have hgrace : s.contain.grace = none := by
    refine Option.eq_none_iff_forall_ne_some.mpr fun x hx => ?_
    have := (h.stops (by rw [hx]; rfl)).2
    rw [hidle] at this
    cases this
  have hentered : ContainHeld False (setMode .active (s.withCtl { s.ctl with listenTimer := none })) :=
    ⟨h.state, fun k => absurd k (by change s.contain.grace.isSome ≠ true; simp [hgrace]), nofun, h.most,
      fun k => nomatch (show true = false from k)⟩
  have hstarted := hentered.recompute.kept (.of_lessSequencing (startSequencers_lessSequencing _))
  have hrun : (startSequencers (Machine.recompute (setMode .active
      (s.withCtl { s.ctl with listenTimer := none })))).sequencing = true := by
    obtain ⟨hctl, -⟩ := lessRoles_eq ((lessRoles_of_lessSequencing (startSequencers_lessSequencing _)).trans
      (recompute_lessRoles (setMode .active (s.withCtl { s.ctl with listenTimer := none }))))
    unfold State.sequencing
    rw [hctl]
    rfl
  exact ((hstarted.graceStart hrun).kept (completeListening_containKept _)).kept (startTests_containKept _)

/-- The monitor's law, in full. -/
abbrev ContainSound (s : State) : Prop := ContainHeld True s

theorem ContainHeld.endListenOnAlarm (h : ContainSound s) (hm : s.ctl.mode = .listen) :
    ContainSound (endListenOnAlarm s) := by
  unfold Machine.endListenOnAlarm
  split
  · exact h.enterActive hm
  · exact h

/-- A recompute at an entry to LISTEN, and its end on ALARM (R169). -/
theorem ContainHeld.listened (h : ContainSound s) (hm : s.ctl.mode = .listen) :
    ContainSound (Machine.endListenOnAlarm (Machine.recompute (declarationCheck s))) := by
  have hchecked := (h.kept (.of_aside (declarationCheck_aside s))).recompute
  refine hchecked.endListenOnAlarm ?_
  obtain ⟨hctl, -⟩ := lessRoles_eq (recompute_lessRoles (declarationCheck s))
  rw [hctl, (declarationCheck_aside s).ctl, hm]

theorem beginListen_containKept (hrun : s.sequencing = false) : ContainKept s (beginListen s) :=
  have hset := setMode_containKept .listen
    { s.ctl with listenTimer := some listenTime, quietTimer := none, origin := none } nofun hrun.symm fun _ => rfl
  hset.trans (.of_aside (startStagger_aside _))

theorem ContainHeld.enterListen (h : ContainSound s) (hrun : s.sequencing = false) : ContainSound (enterListen s) := by
  have hbegun := h.kept (beginListen_containKept hrun)
  have hscan : ContainSound (setScan (scanFrom (beginListen s) 0) (beginListen s)) := hbegun.kept (.same rfl rfl rfl rfl)
  exact hscan.listened (beginListen_mode s)

theorem ContainHeld.reenterListen (h : ContainSound s) (hrun : s.sequencing = false) : ContainSound (reenterListen s) := by
  have hplaced := (h.kept (beginListen_containKept hrun)).kept (.of_aside (replaceDeclare_aside _))
  exact hplaced.listened (by rw [(replaceDeclare_aside _).ctl, beginListen_mode])

/-- MUTE ends in the mode it was entered from, where the sequencers run as they did (R171). -/
theorem ContainHeld.leaveMute (h : ContainSound s) (hm : s.ctl.mode = .mute) (horigin : s.ctl.origin.isSome = true) :
    ContainSound (leaveMute s) := by
  have hended : ContainSound (endCond (plainCond .stationConflict) s) := h.kept (.of_lessReports (endCond_lessReports s _))
  obtain ⟨hctl, -⟩ := lessReports_eq (endCond_lessReports s (plainCond .stationConflict))
  have hsequencing : (endCond (plainCond .stationConflict) s).sequencing = (s.ctl.origin == some .active) := by
    unfold State.sequencing
    rw [hctl, hm]
  unfold Machine.leaveMute
  dsimp only
  split
  · next ho => exact hended.reenterListen (by rw [hsequencing, ho]; rfl)
  · next ho =>
    have hrun : (endCond (plainCond .stationConflict) s).sequencing = true := by
      rw [hsequencing]
      cases hx : s.ctl.origin with
      | none => rw [hx] at horigin; cases horigin
      | some o =>
        cases o with
        | listen => exact absurd hx ho
        | active => rfl
    refine ((ContainHeld.recompute ?_).kept (completeListening_containKept _)).kept (startTests_containKept _)
    refine ContainHeld.kept (ContainHeld.kept ?_ (.of_aside (startStagger_aside _))) (.of_aside (replaceDeclare_aside _))
    exact hended.kept (setMode_containKept .active _ nofun hrun.symm fun _ => rfl)

/-- The entry to MUTE leaves the sequencers running, or stopped, as they were (R171). -/
theorem muteEntered_containKept (o : Origin) (s : State) (hrun : (o == .active) = s.sequencing) :
    ContainKept s (muteEntered o s) := by
  refine ⟨rfl, rfl, ?_, nofun, fun _ => ⟨rfl, fun _ _ => rfl⟩⟩
  rw [← hrun]
  cases o <;> rfl

theorem ContainHeld.evidence (h : ContainSound s) : ContainSound (evidence s) := by
  have hmute (o : Origin) (hrun : (o == .active) = s.sequencing) : ContainSound (enterMute o s) := by
    rw [enterMute_eq]
    have hreported := (h.kept (muteEntered_containKept o s hrun)).kept (.of_lessReports (muteReported_lessReports o s))
    exact hreported.recompute.kept (startTests_containKept _)
  unfold Machine.evidence
  cases hm : s.ctl.mode with
  | listen => exact hmute .listen (by unfold State.sequencing; rw [hm]; rfl)
  | active => exact hmute .active (by unfold State.sequencing; rw [hm]; rfl)
  | mute => exact h.kept ⟨rfl, rfl, rfl, id, fun _ => ⟨rfl, fun _ _ => rfl⟩⟩
  | start | config | lockout => exact h

/-- Outside LISTEN, ACTIVE and MUTE a node with the same role and monitor is lawful whatever else it is. -/
theorem ContainHeld.rested (h : ContainSound s) (ha : s.ctl.mode.applies = false) (hcontain : t.contain = s.contain)
    (hrole : t.role = s.role) : ContainSound t := by
  obtain ⟨hreset, hextract⟩ := h.at_rest ha
  exact containHeld_of_reset (hcontain.trans hreset) (by rw [hrole, hextract]) True

theorem enterLockout_rest (s : State) : (enterLockout s).contain = s.contain ∧ (enterLockout s).role = s.role := by
  have haside : Aside (setMode .lockout s) (enterLockout s) :=
    .trans (.of_lessReports (raise_lessReports _ _)) (startStagger_aside _)
  exact ⟨haside.contain, haside.role⟩

theorem ContainHeld.enterLockout (h : ContainSound s) (ha : s.ctl.mode.applies = false) : ContainSound (enterLockout s) := by
  obtain ⟨hcontain, hrole⟩ := enterLockout_rest s
  exact h.rested ha hcontain hrole

theorem ContainHeld.sampleStraps (h : ContainSound s) (p : StrapPins) (ha : s.ctl.mode.applies = false) :
    ContainSound (sampleStraps p s) := by
  unfold Machine.sampleStraps
  dsimp only
  split
  · obtain ⟨hcontain, hrole⟩ := enterLockout_rest (s.withCtl
      { s.ctl with straps := some { station := p.station.toNat, missLimit := missLimitOf p.miss, rate := p.rate } })
    exact h.rested ha hcontain hrole
  · exact h.rested ha rfl rfl

/-! ### A warm-reset release (R117, R173) -/

/-- With every comparator at its reset value a boundary set that is not empty fails its test (R110). -/
theorem boundaryTest_of_reset (h : s.meas.channels = Vector.replicate 4 .reset) : boundaryTest s = false := by
  have hproven (p : PressureNo) : (s.pressure p).proven = false := by
    unfold State.pressure
    rw [h, Vector.getElem_replicate]
    rfl
  unfold boundaryTest
  cases hset : boundarySet s with
  | nil => rfl
  | cons p l => simp [hproven]

theorem resumeContain_sound (ha : s.ctl.mode.applies = true) (hmeas : s.meas.channels = Vector.replicate 4 .reset) :
    ContainSound (resumeContain s) := by
  have hentered : (resumeContain s).contain
      = if s.role.role.extract then containEntered s else { state := .notApplicable, grace := none } := by
    rw [resumeContain_contain]
    unfold containResumed containEntered
    rw [boundaryTest_of_reset hmeas]
    cases s.role.role.extract with
    | false => rfl
    | true => by_cases hset : boundarySet s = [] <;> simp [hset]
  obtain ⟨hctl, -, -, hmeas', -⟩ := lessRoles_eq (resumeContain_lessRoles s)
  have hkept : ContainKept (s.withContain (resumeContain s).contain) (resumeContain s) :=
    .same hctl (by rw [(resumeContain_roleKept s).role]; rfl) (by rw [hmeas']; rfl) rfl
  refine ContainHeld.kept ?_ hkept
  rw [hentered]
  cases hextract : s.role.role.extract with
  | false => exact notApplicable_held hextract True
  | true => exact containEntered_held hextract ha True

theorem resumeBlocks_containSound (ha : s.ctl.mode.applies = true) : ContainSound (resumeBlocks s) := by
  have hshell := resumeBlocks_shell s
  rw [resumeBlocks_eq, resumeContain_shell] at hshell
  obtain ⟨hctl, hmeas, -⟩ := shell_eq hshell
  rw [resumeBlocks_eq]
  exact resumeContain_sound (by rw [hctl]; exact ha) (by rw [hmeas])

theorem ContainHeld.warmReset (h : ContainSound s) : ContainSound (warmReset s) := by
  have hreleased : ContainSound (releaseReset s) := h.kept (.same rfl rfl rfl rfl)
  have hactive : ContainSound (resumeActive (releaseReset s)) := by
    rw [resumeActive_released]
    have hresumed := resumeBlocks_containSound (s := releasedActive s) rfl
    exact ((hresumed.kept (.of_lessSequencing (resumeSequencers_lessSequencing _ _))).kept
      (completeListening_containKept _)).kept (startTests_containKept _)
  unfold Machine.warmReset
  dsimp only
  split
  · next hm => exact hreleased.sampleStraps _ (by rw [hm]; rfl)
  · exact hreleased
  · rw [resumeListen_released]
    refine (resumeBlocks_containSound (s := releasedListen s) rfl).endListenOnAlarm ?_
    obtain ⟨hctl, -⟩ := shell_eq (resumeBlocks_shell (releasedListen s))
    rw [hctl]
    rfl
  · exact hactive
  · exact hactive
  · exact (hreleased.kept (.of_lessReports (raise_lessReports _ _))).kept (.of_aside (startStagger_aside _))

/-! ### The monitor's own events (R113, R114) -/

/-- The state after a comparator's change goes with the new test (R113). -/
theorem comparatorMove_stateLaw (h : ContainStateLaw s s.contain.state) (hcontain : t.contain = s.contain)
    (hextract : t.role.role.extract = s.role.role.extract) (hset : boundarySet t = boundarySet s) :
    ContainStateLaw t (comparatorMove (boundaryTest t) t.contain).state := by
  have hset_of_test : boundaryTest s = true → boundarySet s ≠ [] := fun htest hnil => by simp [boundaryTest, hnil] at htest
  unfold comparatorMove
  rw [hcontain]
  unfold ContainStateLaw at h ⊢
  rw [hextract, hset]
  cases hst : s.contain.state <;> simp only [hst] at h ⊢
  case notApplicable => exact h
  case unsupervised => exact h
  case achieved =>
    obtain ⟨he, htest⟩ := h
    cases ht : boundaryTest t <;> simp [hst, he, hset_of_test htest]
  case pending | notAchieved =>
    obtain ⟨he, hne, -⟩ := h
    cases ht : boundaryTest t <;> simp [hst, he, hne]

/-- A comparator's change leaves state and timer, or moves to a state without a timer (R113). -/
theorem comparatorMove_cases (b : Bool) (x : Containment) :
    comparatorMove b x = x ∨ ∃ st, st ≠ .pending ∧ comparatorMove b x = { state := st, grace := none } := by
  unfold comparatorMove
  cases x.state with
  | pending | notAchieved => cases b with
    | true => exact .inr ⟨.achieved, nofun, rfl⟩
    | false => exact .inl rfl
  | achieved => cases b with
    | true => exact .inl rfl
    | false => exact .inr ⟨.notAchieved, nofun, rfl⟩
  | notApplicable | unsupervised => exact .inl rfl

/-- The node takes a lawful state without a timer. -/
theorem ContainHeld.untimed {st : ContainState} (h : ContainStateLaw s st) (hst : st ≠ .pending)
    (ha : s.ctl.mode.applies = true) : ContainSound (s.withContain { state := st, grace := none }) :=
  ⟨h, nofun, fun _ hp => absurd hp hst, atMost_none _, fun hidle => absurd (hidle.symm.trans ha) nofun⟩

/-- A comparator's change, already made, brings the state to what the new test says (R113). -/
theorem ContainHeld.comparator (h : ContainSound s) (hcontain : t.contain = s.contain) (hrole : t.role = s.role)
    (hctl : t.ctl = s.ctl) : ContainSound (containComparator t) := by
  cases ha : s.ctl.mode.applies with
  | false =>
    have hreset := h.idle ha
    have hsame : containComparator t = t := by unfold containComparator; rw [hcontain, hreset]; rfl
    rw [hsame]
    exact h.rested ha hcontain hrole
  | true =>
  obtain ⟨ctl, -, -, meas, -⟩ := lessRoles_eq (containComparator_lessRoles t)
  have hkept : ContainKept (t.withContain (comparatorMove (boundaryTest t) t.contain)) (containComparator t) :=
    .same ctl (by rw [(containComparator_roleKept t).role]; rfl) (by rw [meas]; rfl) (containComparator_contain t)
  have hconfig : t.ctl.config = s.ctl.config := by rw [hctl]
  have hsequencing : t.sequencing = s.sequencing := by unfold State.sequencing; rw [hctl]
  have hlaw := comparatorMove_stateLaw h.state hcontain (by rw [hrole]) (boundarySet_congr hconfig)
  refine ContainHeld.kept ?_ hkept
  rcases comparatorMove_cases (boundaryTest t) t.contain with e | ⟨st, hst, e⟩
  · rw [e] at hlaw ⊢
    have happlies : t.ctl.mode.applies = true := by rw [hctl, ha]
    refine ⟨hlaw, ?_, ?_, ?_, fun hidle => absurd (hidle.symm.trans happlies) nofun⟩
    · change t.contain.grace.isSome = true → t.contain.state = .pending ∧ t.sequencing = true
      rw [hcontain, hsequencing]
      exact h.stops
    · change True → t.contain.state = .pending → t.sequencing = true → t.contain.grace.isSome = true
      rw [hcontain, hsequencing]
      exact h.runs
    · change AtMost (graceTime t) t.contain.grace
      rw [hcontain, graceTime_congr hconfig]
      exact h.most
  · rw [e] at hlaw ⊢
    exact .untimed hlaw hst (by rw [hctl, ha])

/-- The grace timer expires (R114). -/
theorem ContainHeld.graceExpiry (h : ContainSound s) : ContainSound (graceExpiry s) := by
  unfold Machine.graceExpiry
  split
  · split
    · next hp =>
      have hstate := h.state
      rw [hp] at hstate
      have ha : s.ctl.mode.applies = true := by
        cases ha : s.ctl.mode.applies with
        | true => rfl
        | false => rw [h.idle ha] at hp; cases hp
      exact (ContainHeld.untimed (st := .notAchieved) hstate nofun ha).kept
        (.of_lessReports (setContain_lessReports s .notAchieved none))
    · exact h
  · exact h

/-- A pair moves its own channel; a changed comparator moves the monitor where its role is BOUNDARY (R94, R101). -/
theorem ContainHeld.pairEvent (h : ContainSound s) (p : PressureNo) (a b : Code) :
    ContainSound (pairEvent p a b s) := by
  have hset (x : PressureState) (hx : x.proven = (s.pressure p).proven ∨ (s.prCfg p).role ≠ .boundary) :
      ContainKept s (s.setPressure p x) := by
    refine ⟨rfl, rfl, rfl, id, fun _ => ⟨rfl, fun q hq => ?_⟩⟩
    rw [State.pressure_setPressure]
    split
    · next hpq => subst hpq; exact hx.resolve_right fun hne => hne hq
    · rfl
  have hfault (u : State) (c : Prop) [Decidable c] (f : Bool) : Aside u (if c then u else followLatch (sensorFault p) f u) :=
    .ite (fun _ => .refl u) fun _ => .of_lessReports (followLatch_lessReports u _ f)
  unfold Machine.pairEvent
  dsimp only
  split
  · next hsame => exact (h.kept (hset _ (.inl hsame))).kept (.of_aside (hfault _ _ _))
  · have haside := hfault (s.setPressure p (applyPair (s.prCfg p) a b (s.pressure p)))
      ((applyPair (s.prCfg p) a b (s.pressure p)).fault = (s.pressure p).fault)
      (applyPair (s.prCfg p) a b (s.pressure p)).fault
    generalize (if (applyPair (s.prCfg p) a b (s.pressure p)).fault = (s.pressure p).fault then
      s.setPressure p (applyPair (s.prCfg p) a b (s.pressure p)) else _) = u at haside ⊢
    have hcfg : u.prCfg p = s.prCfg p := by unfold State.prCfg State.cfg; rw [haside.ctl]; rfl
    unfold passComparator
    rw [hcfg]
    cases hrole : (s.prCfg p).role with
    | boundary => exact h.comparator haside.contain haside.role haside.ctl
    | unused => exact (h.kept (hset _ (.inr (by simp [hrole])))).kept (.of_aside haside)
    | proving =>
      refine ((h.kept (hset _ (.inr (by simp [hrole])))).kept (.of_aside haside)).kept (.of_lessSequencing ?_)
      refine foldl_keeps _ State.lessSequencing _ (fun s c => ?_) allChannels
      split <;> simp

/-! ### Every command -/

theorem withReg_containKept (new : IncidentRegister) : ContainKept s (s.withReg new) := .same rfl rfl rfl rfl

theorem setPeer_containKept (z : Nat) (x : Peer) : ContainKept s (s.setPeer z x) := by
  unfold State.setPeer
  split
  · exact .same rfl rfl rfl rfl
  · exact .refl s

theorem storeRegister_containKept (new : IncidentRegister) : ContainKept s (storeRegister new s) :=
  (withReg_containKept new).trans (.of_lessReports (storeRegister_lessReports s new))

theorem ContainHeld.registerEvent (h : ContainSound s) (new : IncidentRegister) : ContainSound (registerEvent new s) := by
  have hstored := h.kept (storeRegister_containKept new)
  unfold Machine.registerEvent
  dsimp only
  split
  · exact hstored
  · exact hstored.recompute

theorem ContainHeld.applyDeclare (h : ContainSound s) (own : Bool) (z : Station) (ws : List Word) :
    ContainSound (applyDeclare own z ws s) := by
  unfold Machine.applyDeclare
  cases own with
  | true => exact (h.kept (withReg_containKept (ownDeclared s.reg))).registerEvent _
  | false => exact h.registerEvent _

theorem ContainHeld.applyOverride (h : ContainSound s) (w : Word) : ContainSound (applyOverride w s) := by
  unfold Machine.applyOverride
  split
  · have hmoved : ContainSound (s.withRole { s.role with override := overrideMode w }) := h.kept (.same rfl rfl rfl rfl)
    exact (hmoved.kept (.of_lessReports (statusNotice_lessReports _))).recompute
  · exact h

theorem ContainHeld.applyStatus (h : ContainSound s) (own : Bool) (z : Station) (w1 w2 w3 : Word) :
    ContainSound (applyStatus own z w1 w2 w3 s) := by
  have hstore (r : StatusRecord) : ContainKept s (storeStatus z.toNat r s) :=
    .trans (t := if z.toNat = 0 ∨ z.toNat = s.station then s
        else s.setPeer z.toNat (heardPeer s.silence r (s.peer z.toNat)))
      (.ite (fun _ => .refl s) fun _ => setPeer_containKept _ _) (.of_lessReports (storeStatus_lessReports s _ r))
  have hstored : ContainSound (statusStored own z w1 s) := by
    unfold statusStored
    cases own with
    | true => exact h.kept (.of_aside (ownStatusAccepted_aside s))
    | false => exact holds_whenApplied h (h.kept (hstore _))
  have hviewed : ContainSound (statusViewed own z w1 w2 w3 s) :=
    holds_whenApplied hstored (holds_ite hstored (hstored.kept (storeRegister_containKept _)))
  rw [applyStatus_eq]
  exact holds_ite hviewed.recompute hviewed

theorem ContainHeld.silenceExpiry (h : ContainSound s) (z : Nat) : ContainSound (silenceExpiry z s) := by
  have hsilent := h.kept (setPeer_containKept z (silentPeer (s.peer z)))
  unfold Machine.silenceExpiry
  dsimp only
  exact holds_ite (holds_ite (hsilent.kept (.of_lessReports (raise_lessReports _ _))).recompute hsilent) h

theorem ContainHeld.acceptFrame {own : Bool} {f : Frame} {blocks : State → State} (h : ContainSound s)
    (hb : ∀ u, ContainSound u → ContainSound (blocks u)) : ContainSound (acceptFrame own f blocks s) := by
  cases hh : s.hears with
  | false =>
    unfold Machine.acceptFrame
    rwa [State.accepts_eq, if_neg (by simp [hh])]
  | true =>
    have hblocks := hb _ (h.kept (.of_aside (frameIn_aside own s)))
    rw [acceptFrame_eq own f blocks hh]
    have hconflict : ContainSound (detectConflict own f (blocks (frameIn own s))) := holds_ite hblocks.evidence hblocks
    exact (hconflict.kept (startTests_containKept _)).kept (.of_aside (settleRaises_aside _ _))

theorem ContainHeld.alarmEvent (h : ContainSound s) (active : Bool) : ContainSound (alarmEvent active s) := by
  have hnotice : ContainSound (statusNotice s) := h.kept (.of_lessReports (statusNotice_lessReports s))
  have hchecked := hnotice.kept (.of_aside (declarationCheck_aside _))
  unfold Machine.alarmEvent
  dsimp only
  split
  · split
    · next hm => exact hchecked.enterActive hm
    · exact hchecked
  · exact hnotice

theorem inputEvent_containKept (c : ChannelNo) (i : Input) (made : Bool) (s : State) :
    ContainKept s (inputEvent c i made s) := by
  unfold inputEvent
  split
  · exact .of_lessSequencing (by simp)
  · exact .ite (fun _ => .of_lessSequencing (by simp)) fun _ => .refl s
  · exact .refl s

theorem stopSending_containKept (bit : Nat) (s : State) : ContainKept s (stopSending bit s) := by
  unfold stopSending
  split
  · exact .refl s
  · exact (ContainKept.of_aside (endAttempt_aside _ _ s)).trans (startTests_containKept _)

theorem ContainHeld.configRead (h : ContainSound s) (b : ConfigBytes) (hm : s.ctl.mode = .config) :
    ContainSound (configRead b s) := by
  have ha : s.ctl.mode.applies = false := by rw [hm]; rfl
  unfold Machine.configRead
  split
  · have hread : ContainSound (s.withCtl { s.ctl with config := some (decodeConfig s.station b) }) := h.rested ha rfl rfl
    exact hread.enterListen (sequencing_of_not_applies ha)
  · exact h.enterLockout ha

/-- A running grace timer counts down (R112). -/
theorem ContainHeld.counted (h : ContainSound s) :
    ContainSound (s.withContain { s.contain with grace := countDown 1 s.contain.grace }) := by
  refine ⟨h.state, fun k => h.stops ?_, fun _ hp hq => ?_, atMost_countDown 1 h.most, fun ha => ?_⟩
  · rw [← countDown_isSome 1]
    exact k
  · exact (countDown_isSome 1 _).trans (h.runs trivial hp hq)
  · have hreset := h.idle ha
    rw [hreset]
    rfl

/-- Time moves a running grace timer alone (R112). -/
theorem ContainHeld.passMs (h : ContainSound s) : ContainSound (passMs s) := by
  obtain ⟨hrole, -, hmeas, -⟩ := passMs_rest s
  cases hr : s.inReset with
  | true =>
    have e := passMs_inReset hr
    exact h.kept (.same (by rw [e]) (by rw [hrole]) (by rw [hmeas]) (by rw [e]))
  | false =>
    have e := passMs_outside hr
    refine h.counted.kept ⟨by rw [e]; rfl, by rw [hrole]; rfl, ?_, ?_, fun _ => ⟨by rw [e]; rfl, fun p _ => ?_⟩⟩
    · unfold State.sequencing
      rw [e]
      rfl
    · rw [e]
      exact id
    · unfold State.pressure
      rw [hmeas]
      rfl

theorem coldReset_containSound (p : StrapPins) (s : State) : ContainSound (coldReset p s) :=
  ContainHeld.sampleStraps (s := coldState p s) (containHeld_of_reset (s := coldState p s) rfl rfl True) p rfl

theorem exec_containLaw {i : Instr} (hmode : ModeLaw s) (h : ContainSound s) (e : exec i s = .next t) : ContainSound t := by
  cases i with
  | powerUp p => cases e; exact coldReset_containSound p s
  | coldReset p => cases e; exact coldReset_containSound p s
  | resetHeld => cases e; exact holds_outside h (h.kept (.same rfl rfl rfl rfl))
  | resetHold5s => cases e; exact holds_ite (h.kept (.same rfl rfl rfl rfl)) h
  | warmReset => cases e; exact holds_ite (h.warmReset.kept (.of_aside (settleRaises_aside _ _))) h
  | configReadDone b =>
    cases e
    refine holds_outside h ?_
    split
    · next hm => exact (h.configRead b hm).kept (.of_aside (settleRaises_aside _ _))
    · exact h
  | listenTimerExpiry =>
    cases e
    refine holds_outside h ?_
    split
    · next hm => exact (h.enterActive hm.1).kept (.of_aside (settleRaises_aside _ _))
    · exact h
  | muteQuietTimerExpiry =>
    cases e
    obtain ⟨-, -, -, -, horigin, -⟩ := hmode
    refine holds_outside h ?_
    split
    · next hm => exact (h.leaveMute hm.1 (horigin.mpr hm.1)).kept (.of_aside (settleRaises_aside _ _))
    · exact h
  | lineIdle levels => cases e; exact holds_outside h (holds_ite (h.kept (.of_aside (.withLink s _))) h)
  | attemptStart =>
    cases e
    refine holds_outside h (holds_ite ?_ h)
    split
    · exact h.kept (.of_aside (sendKind_aside _ s))
    · exact h
  | arbitrationLost bit => cases e; exact holds_outside h (h.kept (stopSending_containKept bit s))
  | duplicateKeyStop bit =>
    cases e; exact holds_outside h (holds_ite (h.kept (stopSending_containKept bit s)).evidence h)
  | failedAttempt =>
    cases e
    exact holds_outside h (holds_ite ((h.kept (.of_aside (failed_aside s))).kept (startTests_containKept _)) h)
  | retryWaitEnd b => cases e; exact holds_outside h (holds_ite (h.kept (.of_aside (.withLink s _))) h)
  | clearAccepted z w =>
    cases e
    exact h.acceptFrame fun u hu => holds_whenApplied hu ((hu.registerEvent _).kept (.of_aside (declarationCheck_aside _)))
  | overrideAccepted z w => cases e; exact h.acceptFrame fun u hu => holds_whenApplied hu (hu.applyOverride w)
  | fireDeclareAccepted z ws => cases e; exact h.acceptFrame fun u hu => holds_whenApplied hu (hu.applyDeclare _ z ws)
  | startClaimAccepted urgent z w =>
    cases e
    refine h.acceptFrame fun u hu => ?_
    split
    · exact hu.kept (.of_lessSequencing (ownClaim_lessSequencing u))
    · exact holds_whenApplied hu (hu.kept (.of_lessSequencing (peerClaim_lessSequencing u _)))
  | statusAccepted z w1 w2 w3 w4 => cases e; exact h.acceptFrame fun u hu => hu.applyStatus _ z w1 w2 w3
  | otherFrameAccepted cls z ws => cases e; exact h.acceptFrame fun u hu => hu
  | isolatedDeclarationTimerExpiry => cases e; exact holds_outside h (holds_ite (h.registerEvent _) h)
  | alarmChange active =>
    cases e
    refine holds_ite h (ContainHeld.kept ?_ (.of_aside (settleRaises_aside _ _)))
    have htaken : ContainSound (s.withPanel { s.panel with alarm := takeLevel active }) := h.kept (.of_aside (.withPanel rfl))
    exact holds_outside htaken (htaken.alarmEvent active)
  | panelResetPulse =>
    cases e
    have htaken : ContainSound (s.withPanel { s.panel with panelReset := takePulse s.panel.panelReset }) :=
      h.kept (.of_aside (.withPanel rfl))
    exact holds_ite h (holds_outside htaken (holds_ite (htaken.kept (.of_aside (.withLink _ _))) htaken))
  | ackPulse b =>
    cases e
    have htaken : ContainSound (s.withPanel { s.panel with ack := takePulse s.panel.ack }) :=
      h.kept (.of_aside (.withPanel rfl))
    exact holds_ite h (holds_outside htaken (htaken.kept (.of_lessReports (acknowledge_lessReports _ b))))
  | statusPeriodTimerExpiry =>
    cases e
    exact holds_outside h (holds_ite (h.kept (.of_aside ((Aside.withStatus s _).trans
      (.of_lessReports (queueStatus_lessReports _))))) h)
  | spacingTimerExpiry z => cases e; exact holds_outside h (h.kept (setPeer_containKept _ _))
  | silenceTimerExpiry z =>
    cases e; exact holds_outside h ((h.silenceExpiry z.toNat).kept (.of_aside (settleRaises_aside _ _)))
  | holdOffExpiry => cases e; exact holds_outside h (holds_ite (h.kept (.of_lessSequencing (by simp))) h)
  | provingTimerExpiry c => cases e; exact holds_outside h (h.kept (.of_lessSequencing (provingExpiry_lessSequencing s c)))
  | runDownTimerExpiry c => cases e; exact holds_outside h (h.kept (.of_lessSequencing (by simp)))
  | travelTimerExpiry c => cases e; exact holds_outside h (h.kept (.of_lessSequencing (by simp)))
  | provingSwitchChange c made =>
    cases e
    have hstored : ContainSound (storeInput c .a made s) := h.kept (.same rfl rfl rfl rfl)
    exact holds_ite h (holds_outside hstored (hstored.kept (inputEvent_containKept c .a made _)))
  | limitChange c i made =>
    cases e
    have hstored : ContainSound (storeInput c i made s) := h.kept (.same rfl rfl rfl rfl)
    exact holds_ite h (holds_outside hstored (hstored.kept (inputEvent_containKept c i made _)))
  | graceTimerExpiry => cases e; exact holds_outside h h.graceExpiry
  | conversionADone a =>
    cases e
    refine holds_outside h ?_
    split
    · exact h.kept (.same rfl rfl rfl rfl)
    · exact h
  | pairComplete b =>
    cases e
    refine holds_outside h ?_
    split
    · next p a _ =>
      have hscan : ContainSound (setScan (scanFrom s (p.val + 1)) s) := h.kept (.same rfl rfl rfl rfl)
      exact holds_ite ((hscan.pairEvent p a b).kept (.of_aside (settleRaises_aside _ _))) (hscan.pairEvent p a b)
    · exact h
  | supplySample k =>
    cases e
    refine holds_outside h ?_
    split
    · have hmoved (v : Nat) (u : State) : ContainKept u (supplyEvent v u) :=
        .trans (t := u.withMeas { u.meas with supply := nextSupply u.meas.supply v }) (.same rfl rfl rfl rfl)
          (.of_lessSequencing (supplyEvent_lessSequencing u v))
      have hscan : ContainSound (setScan (scanFrom s 0) s) := h.kept (.same rfl rfl rfl rfl)
      exact hscan.kept (hmoved _ _)
    · exact h
  | pulseLineReturnInactive line => cases e; cases line <;> exact h.kept (.of_aside (.withPanel rfl))

end Sys2Proof.Machine

open Sys2Proof Sys2Proof.Machine in
/-- Settles O10: a recompute sets state and timer where the role enters or leaves the extract roles, the other events of
the monitor keep them in step with the test, and the entry to ACTIVE starts a grace that stands still. -/
theorem stepKeepsContainLaw : Obligations.StepKeepsContainLaw := by
  intro s t hmode h e
  have hs : ContainSound s := containLaw_iff.mp h
  refine containLaw_iff.mpr ?_
  rcases step_cases e with ⟨i, rest, hi⟩ | rfl
  · exact exec_containLaw (s := s.withPending rest) hmode (hs.kept (.same rfl rfl rfl rfl)) hi
  · exact hs.passMs
end

section
/-! The link, the claim record and the status composer along every step: O8 (R71 to R78, R119 to R125, R140 to R153). -/

namespace Sys2Proof.Machine

variable {s t u : State} {c : ChannelNo}

/-! ### Notices move the place of STATUS and the early mark alone (R119, R121) -/

/-- Link, start logic and Mode Controller are as they were, but for a STATUS that notices have queued or marked pending. -/
structure Notified (s t : State) : Prop where
  ctl     : t.ctl = s.ctl
  starts  : t.starts = s.starts
  link    : t.link = { s.link with queue := { s.link.queue with status := t.link.queue.status } }
  period  : t.status.period = s.status.period
  capture : t.status.captured = s.status.captured
  queued  : s.link.queue.status = true → t.link.queue.status = true
  early   : t.status.earlyPending = true → s.status.earlyPending = true ∨ s.onWire .status = true
  silent  : s.ctl.mode.sends = false → t.link.queue.status = s.link.queue.status

namespace Notified

theorem quiet (hctl : t.ctl = s.ctl) (hstarts : t.starts = s.starts) (hlink : t.link = s.link)
    (hstatus : t.status = s.status) : Notified s t :=
  ⟨hctl, hstarts, by rw [hlink], by rw [hstatus], by rw [hstatus], by rw [hlink]; exact id,
    by rw [hstatus]; exact .inl, fun _ => by rw [hlink]⟩

theorem refl (s : State) : Notified s s := quiet rfl rfl rfl rfl

theorem attempt (h : Notified s t) : t.link.attempt = s.link.attempt := by rw [h.link]

theorem onWire (h : Notified s t) (k : FrameKind) : t.onWire k = s.onWire k := by unfold State.onWire; rw [h.attempt]

theorem trans (h : Notified s t) (k : Notified t u) : Notified s u where
  ctl := k.ctl.trans h.ctl
  starts := k.starts.trans h.starts
  link := by rw [k.link, h.link]
  period := k.period.trans h.period
  capture := k.capture.trans h.capture
  queued hq := k.queued (h.queued hq)
  early he := (k.early he).elim h.early fun hw => .inr (by rwa [← h.onWire])
  silent hm := (k.silent (by rwa [h.ctl])).trans (h.silent hm)

theorem ite {p : Prop} [Decidable p] (h : p → Notified s t) (k : ¬p → Notified s u) : Notified s (if p then t else u) := by
  split
  · next hp => exact h hp
  · next hp => exact k hp

theorem foldl {α : Type} {f : State → α → State} (h : ∀ s a, Notified s (f s a)) (l : List α) (s : State) :
    Notified s (l.foldl f s) :=
  foldl_preserves s (Notified s) f (fun u a k => k.trans (h u a)) l (.refl s)

theorem queueStatus (h : s.ctl.mode.sends = true) : Notified s (queueStatus s) := by
  have hloud (hm : s.ctl.mode.sends = false) : False := by rw [h] at hm; cases hm
  unfold Machine.queueStatus
  split
  · next hw => exact ⟨rfl, rfl, rfl, rfl, rfl, id, fun _ => .inr hw, fun hm => (hloud hm).elim⟩
  · exact ⟨rfl, rfl, rfl, rfl, rfl, fun _ => rfl, .inl, fun hm => (hloud hm).elim⟩

theorem statusNotice (s : State) : Notified s (statusNotice s) := ite queueStatus fun _ => refl s

theorem raise (x : Cond) (s : State) : Notified s (raise x s) := by
  have htrouble (v : Trouble) : Notified s (s.withTrouble v) := quiet rfl rfl rfl rfl
  have hfilled (u : State) : Notified u (fillRecord x u) := .trans (t := refreshTrouble (u.withTrouble (u.trouble.filled x false)))
    (quiet rfl rfl rfl rfl) (statusNotice _)
  exact ite (fun _ => refl s) fun _ => ite (fun _ => (htrouble _).trans (hfilled _)) fun _ => htrouble _

theorem endCond (x : Cond) (s : State) : Notified s (endCond x s) :=
  ite (fun _ => quiet rfl rfl rfl rfl) fun _ => quiet rfl rfl rfl rfl

end Notified

/-- A run of reports notifies the composer and does nothing else to it. -/
theorem ReportRun.composer (h : ReportRun s t) : t.link.attempt = s.link.attempt
    ∧ (s.link.queue.status = true → t.link.queue.status = true)
    ∧ (t.status.earlyPending = true → s.status.earlyPending = true ∨ s.onWire .status = true) := by
  have hnotified {s t : State} (k : Notified s t) : t.link.attempt = s.link.attempt
      ∧ (s.link.queue.status = true → t.link.queue.status = true)
      ∧ (t.status.earlyPending = true → s.status.earlyPending = true ∨ s.onWire .status = true) :=
    ⟨k.attempt, k.queued, k.early⟩
  induction h with
  | quiet h => exact ⟨h.attempt, by rw [h.queued]; exact id, by rw [h.early]; exact .inl⟩
  | raised x _ s => exact hnotified (.raise x s)
  | ended x s => exact hnotified (.endCond x s)
  | noticed s => exact hnotified (.statusNotice s)
  | trans _ _ ih ih' =>
    obtain ⟨hattempt, hqueued, hearly⟩ := ih
    obtain ⟨hattempt', hqueued', hearly'⟩ := ih'
    refine ⟨hattempt'.trans hattempt, fun hq => hqueued' (hqueued hq), fun he => (hearly' he).elim hearly fun hw => .inr ?_⟩
    unfold State.onWire at hw ⊢
    rwa [hattempt] at hw

/-- Work that reports, and moves no claim. -/
theorem Notified.of_reports (h : t.lessRoles = s.lessRoles) (k : ReportRun s t) (hspacing : t.spacing = s.spacing) :
    Notified s t := by
  obtain ⟨hctl, -⟩ := lessRoles_eq h
  obtain ⟨-, -, -, -, -, -, -, hperiod, hcapture⟩ := lessRoles_eq_link h
  obtain ⟨-, hqueued, hearly⟩ := k.composer
  have hlink := link_of_lessRoles h
  have hclaim : t.link.queue.claim = s.link.queue.claim := congrArg Prod.snd hspacing
  rw [hclaim] at hlink
  exact ⟨hctl, starts_of_spacing hspacing, hlink, hperiod, hcapture, hqueued, hearly, fun hm => (k.silent hm).1⟩

/-! ### The law, with the waiting fan of a queued claim still to be tested -/

/-- The claim record, its frame and its attempt (R71 to R74). -/
def ClaimHeld (s : State) : Prop :=
  match s.starts.claim with
  | .absent => s.link.queue.claim = false
  | .queued =>
    s.link.queue.claim = true ∧ s.onWire .claim = false ∧ s.ctl.mode = .active ∧ s.starts.holdOff = none
  | .sending c urgent carried =>
    s.link.queue.claim = true ∧ s.ctl.mode = .active ∧ s.starts.holdOff = none
      ∧ s.link.attempt = some { kind := .claim, frame := ownFrame s (claimClass urgent) (claimPayload c carried) }

/-- A queued claim has a waiting fan and a supply that is not FAIL (R72, R75). -/
def ClaimMeant (s : State) : Prop :=
  s.starts.claim = .queued → (lowestWaiting s).isSome = true ∧ s.meas.supply ≠ .fail

/-- The law of the link outside reset, without the tests that a queued claim must stand. -/
structure LinkHeld (s : State) : Prop where
  attempt : AttemptLaw s
  line    : LineLaw s.lineWatch
  claim   : ClaimHeld s
  queue   : QueueLaw s
  count   : s.link.failCount ≤ 16 ∧ (s.link.txFail = true ↔ s.link.failCount = 16)
  capture : s.status.captured.isSome = true ↔ s.onWire .status = true
  early   : s.status.earlyPending = true → s.onWire .status = true
  period  : s.status.period.isSome = true → s.ctl.mode.sends = true
  most    : AtMost periodTime s.status.period

theorem claimLaw_iff : ClaimLaw s ↔ ClaimHeld s ∧ ClaimMeant s := by
  unfold ClaimLaw ClaimHeld ClaimMeant
  cases s.starts.claim with
  | absent | sending => simp
  | queued =>
    simp only [forall_const]
    tauto

theorem linkLaw_iff : LinkLaw s ↔ LinkHeld s ∧ ClaimMeant s ∧ (s.inReset = true → s.link = State.reset.link) := by
  unfold LinkLaw
  rw [claimLaw_iff]
  constructor
  · rintro ⟨hattempt, hline, ⟨hclaim, hmeant⟩, hqueue, hcount, hfail, hcapture, hearly, hperiod, hmost, hreset⟩
    exact ⟨⟨hattempt, hline, hclaim, hqueue, ⟨hcount, hfail⟩, hcapture, hearly, hperiod, hmost⟩, hmeant, hreset⟩
  · rintro ⟨⟨hattempt, hline, hclaim, hqueue, ⟨hcount, hfail⟩, hcapture, hearly, hperiod, hmost⟩, hmeant, hreset⟩
    exact ⟨hattempt, hline, ⟨hclaim, hmeant⟩, hqueue, hcount, hfail, hcapture, hearly, hperiod, hmost, hreset⟩

theorem station_congr (h : t.ctl = s.ctl) : t.station = s.station := by unfold State.station; rw [h]

theorem put_status_holds {q : TxQueue} {b : Bool} (k : FrameKind) (h : q.status = true → b = true)
    (hk : q.holds k = true) : ({ q with status := b } : TxQueue).holds k = true := by
  cases k with
  | status => exact h hk
  | clear | fireDeclare | claim => exact hk

theorem LinkHeld.notified (h : LinkHeld s) (k : Notified s t) : LinkHeld t := by
  have hstation := station_congr k.ctl
  have hqueue : t.link.queue = { s.link.queue with status := t.link.queue.status } := by rw [k.link]
  have hline : t.link.line = s.link.line ∧ t.link.retryWait = s.link.retryWait ∧ t.link.failCount = s.link.failCount
      ∧ t.link.txFail = s.link.txFail ∧ t.lineWatch = s.lineWatch ∧ t.link.queue.claim = s.link.queue.claim := by
    unfold State.lineWatch
    rw [k.link]
    exact ⟨rfl, rfl, rfl, rfl, rfl, rfl⟩
  obtain ⟨hline, hwait, hfail, htx, hwatch, hclaim⟩ := hline
  refine ⟨?_, by rw [hwatch]; exact h.line, ?_, ?_, by rw [hfail, htx]; exact h.count, ?_, ?_, ?_, ?_⟩
  · have hattempt := h.attempt
    unfold AttemptLaw at hattempt ⊢
    rw [k.attempt, hline, hwait, hstation, k.ctl]
    split
    · next hnone => rwa [hnone] at hattempt
    · next a hsome =>
      rw [hsome] at hattempt
      obtain ⟨hsending, hnowait, hholds, hrest⟩ := hattempt
      exact ⟨hsending, hnowait, by rw [hqueue]; exact put_status_holds _ k.queued hholds, hrest⟩
  · have hheld := h.claim
    unfold ClaimHeld ownFrame at hheld ⊢
    rwa [k.starts, hclaim, k.ctl, k.attempt, hstation, k.onWire]
  · have hlaw := h.queue
    unfold QueueLaw at hlaw ⊢
    rw [k.ctl]
    cases hm : s.ctl.mode <;> simp only [hm] at hlaw ⊢
    case listen => rw [hclaim]; exact hlaw
    case lockout => rw [hqueue]; exact hlaw
    all_goals
      rw [hqueue, k.silent (by rw [hm]; rfl), hlaw]
  · rw [k.capture, k.onWire]; exact h.capture
  · intro he
    rw [k.onWire]
    exact (k.early he).elim h.early id
  · rw [k.period, k.ctl]; exact h.period
  · rw [k.period]; exact h.most

/-! ### The queue and the start logic -/

/-- What is on the wire is queued (R149). -/
theorem LinkHeld.queued_of_onWire (h : LinkHeld s) {k : FrameKind} (hk : s.onWire k = true) :
    s.link.queue.holds k = true := by
  have hattempt := h.attempt
  unfold AttemptLaw at hattempt
  unfold State.onWire at hk
  cases ha : s.link.attempt with
  | none => rw [ha] at hk; cases hk
  | some a =>
    rw [ha] at hattempt hk
    obtain ⟨-, -, hholds, -⟩ := hattempt
    rwa [← show a.kind = k from of_decide_eq_true hk]

theorem LinkHeld.offWire (h : LinkHeld s) {k : FrameKind} (hk : s.link.queue.holds k = false) : s.onWire k = false := by
  cases hw : s.onWire k with
  | false => rfl
  | true => rw [h.queued_of_onWire hw] at hk; cases hk

theorem claimHeld_of_absent (h : s.starts.claim = .absent) : ClaimHeld s ↔ s.link.queue.claim = false := by
  unfold ClaimHeld
  rw [h]

theorem claimHeld_of_queued (h : s.starts.claim = .queued) : ClaimHeld s
    ↔ s.link.queue.claim = true ∧ s.onWire .claim = false ∧ s.ctl.mode = .active ∧ s.starts.holdOff = none := by
  unfold ClaimHeld
  rw [h]

theorem claimHeld_of_sending {u : Bool} {n : Nat} (h : s.starts.claim = .sending c u n) : ClaimHeld s
    ↔ s.link.queue.claim = true ∧ s.ctl.mode = .active ∧ s.starts.holdOff = none
      ∧ s.link.attempt = some { kind := .claim, frame := ownFrame s (claimClass u) (claimPayload c n) } := by
  unfold ClaimHeld
  rw [h]

theorem queueLaw_of_active (h : s.ctl.mode = .active) : QueueLaw s := by
  unfold QueueLaw
  rw [h]
  trivial

/-- No claim outside ACTIVE (R72, R75). -/
theorem LinkHeld.claim_absent (h : LinkHeld s) (hm : s.ctl.mode ≠ .active) : s.starts.claim = .absent := by
  cases hc : s.starts.claim with
  | absent => rfl
  | queued => exact absurd ((claimHeld_of_queued hc).mp h.claim).2.2.1 hm
  | sending => exact absurd ((claimHeld_of_sending hc).mp h.claim).2.1 hm

/-- A new queue that holds what is on the wire, with a start logic that goes with it. -/
theorem LinkHeld.requeue {q : TxQueue} {x : StartLogic} (h : LinkHeld s)
    (hwire : ∀ k, s.onWire k = true → q.holds k = true)
    (hclaim : ClaimHeld ((s.withLink { s.link with queue := q }).withStarts x))
    (hqueue : QueueLaw ((s.withLink { s.link with queue := q }).withStarts x)) :
    LinkHeld ((s.withLink { s.link with queue := q }).withStarts x) := by
  refine ⟨?_, h.line, hclaim, hqueue, h.count, h.capture, h.early, h.period, h.most⟩
  have hattempt := h.attempt
  unfold AttemptLaw at hattempt ⊢
  cases ha : s.link.attempt with
  | none =>
    rw [ha] at hattempt
    rw [show ((s.withLink { s.link with queue := q }).withStarts x).link.attempt = none from ha]
    exact hattempt
  | some a =>
    rw [ha] at hattempt
    rw [show ((s.withLink { s.link with queue := q }).withStarts x).link.attempt = some a from ha]
    obtain ⟨hsending, hnowait, -, hrest⟩ := hattempt
    exact ⟨hsending, hnowait, hwire a.kind (by simp [State.onWire, ha]), hrest⟩

/-- The start logic alone moves. -/
theorem LinkHeld.withStarts {x : StartLogic} (h : LinkHeld s) (hclaim : ClaimHeld (s.withStarts x)) :
    LinkHeld (s.withStarts x) :=
  h.requeue (q := s.link.queue) (fun _ => h.queued_of_onWire) hclaim h.queue

theorem holds_put_ne {q : TxQueue} {j k : FrameKind} {b : Bool} (h : k ≠ j) : (q.put j b).holds k = q.holds k := by
  cases j <;> cases k <;> first | rfl | exact absurd rfl h

theorem holds_put_true {q : TxQueue} {j k : FrameKind} (h : q.holds k = true) : (q.put j true).holds k = true := by
  by_cases hk : k = j
  · subst hk
    cases k <;> rfl
  · rwa [holds_put_ne hk]

/-- A queued claim leaves queue and record together (R75). -/
theorem LinkHeld.withdrawClaim (h : LinkHeld s) : LinkHeld (withdrawClaim s) := by
  unfold Machine.withdrawClaim
  cases hc : s.starts.claim with
  | absent | sending => exact h
  | queued =>
    obtain ⟨-, hwire, hactive, -⟩ := (claimHeld_of_queued hc).mp h.claim
    refine h.requeue (q := s.link.queue.put .claim false) (fun k hk => ?_) rfl ?_
    · by_cases he : k = .claim
      · rw [he, hwire] at hk
        cases hk
      · rw [holds_put_ne he]
        exact h.queued_of_onWire hk
    · exact queueLaw_of_active hactive

theorem LinkHeld.claimTest (h : LinkHeld s) : LinkHeld (claimTest s) := by
  unfold Machine.claimTest
  split
  · next hc =>
    obtain ⟨habsent, -, hstopped, -, hactive, -⟩ := hc
    have hwire : s.onWire .claim = false := h.offWire ((claimHeld_of_absent habsent).mp h.claim)
    refine h.requeue (q := s.link.queue.put .claim true) (fun k hk => holds_put_true (h.queued_of_onWire hk)) ?_ ?_
    · exact ⟨rfl, hwire, hactive, hstopped⟩
    · exact queueLaw_of_active hactive
  · exact h

/-- The hold-off may run where no claim is present (R71). -/
theorem LinkHeld.setStarts {x : StartLogic} (h : LinkHeld s) (habsent : s.starts.claim = .absent) (hx : x.claim = .absent) :
    LinkHeld (s.withStarts x) :=
  h.withStarts ((claimHeld_of_absent (s := s.withStarts x) hx).mpr ((claimHeld_of_absent habsent).mp h.claim))

theorem enterStarting_notified (c : ChannelNo) (s : State) : Notified s (enterStarting c s) :=
  .of_reports (lessRoles_of_lessSequencing (enterStarting_lessSequencing s c)) (enterStarting_reports s c)
    (enterStarting_spacing c s)

/-- An isolated start sets the hold-off, with no claim left (R75, R78). -/
theorem LinkHeld.isolatedTest (h : LinkHeld s) :
    LinkHeld (isolatedTest s) ∧ (isolatedTest s = s ∨ (isolatedTest s).starts.claim = .absent) := by
  unfold Machine.isolatedTest
  split
  · exact ⟨h, .inl rfl⟩
  · next c _ =>
    split
    · next hc =>
      obtain ⟨-, -, -, -, hunsent⟩ := hc
      have hstarted := enterStarting_notified c s
      have habsent : (Machine.withdrawClaim (enterStarting c s)).starts.claim = .absent :=
        withdrawClaim_claim_of_unsent (by rw [hstarted.starts, hunsent])
      exact ⟨(h.notified hstarted).withdrawClaim.setStarts habsent habsent, .inr habsent⟩
    · exact ⟨h, .inl rfl⟩

/-- The law in force outside reset. -/
structure LinkGood (s : State) : Prop where
  held  : LinkHeld s
  meant : ClaimMeant s

theorem claimTest_meant (h : ClaimMeant s) : ClaimMeant (claimTest s) := by
  unfold claimTest
  split
  · next hc =>
    obtain ⟨-, hwaits, -, hsupply, -⟩ := hc
    exact fun _ => ⟨hwaits, hsupply⟩
  · exact h

theorem withdrawTest_meant (s : State) : ClaimMeant (withdrawTest s) := by
  unfold withdrawTest
  split
  · exact fun hc => absurd hc (withdrawClaim_claim_ne_queued s)
  · next hkeep =>
    obtain ⟨hwaits, hsupply⟩ := not_or.mp hkeep
    exact fun _ => ⟨Option.isSome_iff_ne_none.mpr (by simpa using hwaits), hsupply⟩

/-- The start tests withdraw a claim that does not stand them, and place one that does (R72, R75, R78). -/
theorem LinkHeld.startTests (h : LinkHeld s) : LinkGood (startTests s) := by
  have hwithdraw : LinkHeld (withdrawTest s) := holds_ite h.withdrawClaim h
  obtain ⟨hheld, hcases⟩ := hwithdraw.claimTest.isolatedTest
  refine ⟨hheld, ?_⟩
  have hmeant : ClaimMeant (Machine.claimTest (withdrawTest s)) := claimTest_meant (withdrawTest_meant s)
  unfold Machine.startTests
  rcases hcases with e | habsent
  · rwa [e]
  · exact fun hc => absurd (habsent.symm.trans hc) nofun

/-! ### Work that moves no waiting fan -/

/-- Claim record and supply are as they were, and a fan waits where one did. -/
structure WaitKept (s t : State) : Prop where
  claim  : t.starts.claim = s.starts.claim
  supply : t.meas.supply = s.meas.supply
  waits  : (lowestWaiting s).isSome = true → (lowestWaiting t).isSome = true

theorem ClaimMeant.kept (h : ClaimMeant s) (k : WaitKept s t) : ClaimMeant t := by
  intro hc
  obtain ⟨hwaits, hsupply⟩ := h (k.claim.symm.trans hc)
  exact ⟨k.waits hwaits, by rwa [k.supply]⟩

theorem LinkGood.kept (h : LinkGood s) (k : Notified s t) (w : WaitKept s t) : LinkGood t :=
  ⟨h.held.notified k, h.meant.kept w⟩

theorem WaitKept.of_chans (hstarts : t.starts = s.starts) (hsupply : t.meas.supply = s.meas.supply)
    (hchans : t.chans = s.chans) : WaitKept s t :=
  ⟨by rw [hstarts], hsupply, fun h => by rwa [lowestWaiting_congr hchans]⟩

theorem WaitKept.of_lessReports (h : t.lessReports = s.lessReports) : WaitKept s t := by
  obtain ⟨-, -, -, hchans, hstarts, hmeas, -⟩ := lessReports_eq h
  exact .of_chans hstarts (by rw [hmeas]) hchans

/-! ### A recompute and the register's events -/

theorem setContain_notified (st : ContainState) (g : Option Nat) (s : State) : Notified s (setContain st g s) :=
  .of_reports (setContain_lessRoles s st g) (setContain_reports s st g) (setContain_spacing st g s)

theorem noticed_notified (changed : List ChannelNo) (b : Bool) (old new : ZoneRole) (s : State) :
    Notified s (noticed changed b old new s) := by
  have hrole : Notified s (if b then containRole old new (statusNotice s) else s) :=
    .ite (fun _ => (Notified.statusNotice s).trans
      (.of_reports (containRole_lessRoles _ _ _) (containRole_reports _ _ _) (containRole_spacing _ _ _))) fun _ => .refl s
  have hdamper (u : State) (c : ChannelNo) : Notified u (damperTarget c u) :=
    .of_reports (lessRoles_of_lessSequencing (damperTarget_lessSequencing u c)) (damperTarget_reports u c)
      (damperTarget_spacing c u)
  have hfan (u : State) (a b : Bool) (c : ChannelNo) : Notified u (fanNotice a b c u) :=
    .of_reports (lessRoles_of_lessSequencing (fanNotice_lessSequencing u a b c)) (fanNotice_reports u a b c)
      (fanNotice_spacing a b c u)
  exact (hrole.trans (.foldl hdamper changed _)).trans (.foldl (fun u c => hfan u _ _ c) allChannels _)

theorem retargeted_notified (s : State) : Notified s (retargeted s) :=
  .foldl (f := fun s c => replaceTarget c (newTarget s c) s) (fun _ _ => .quiet rfl rfl rfl rfl) _ s

/-- A recompute in LISTEN, ACTIVE and MUTE ends with the start tests (R30). -/
theorem LinkHeld.recompute (h : LinkHeld s) (ha : s.ctl.mode.applies = true) : LinkGood (recompute s) := by
  have hderived : Notified s (derived s) := .quiet rfl rfl rfl rfl
  rw [recompute_eq ha]
  exact (h.notified ((hderived.trans (retargeted_notified _)).trans (noticed_notified _ _ _ _ _))).startTests

theorem LinkGood.recompute (h : LinkGood s) : LinkGood (recompute s) := by
  cases ha : s.ctl.mode.applies with
  | true => exact h.held.recompute ha
  | false => rwa [recompute_idle s ha]

theorem storeRegister_notified (new : IncidentRegister) (s : State) : Notified s (storeRegister new s) := by
  have hreg : Notified s (s.withReg new) := .quiet rfl rfl rfl rfl
  have hview (u : State) (p : Prop) [Decidable p] : Notified u (if p then u else statusNotice u) :=
    .ite (fun _ => .refl u) fun _ => .statusNotice u
  have hlatch (x : Cond) (b : Bool) (u : State) : Notified u (followLatch x b u) :=
    .ite (fun _ => .raise x u) fun _ => .endCond x u
  exact ((hreg.trans (hview _ _)).trans (hlatch _ _ _)).trans (hlatch _ _ _)

theorem storeRegister_waitKept (new : IncidentRegister) (s : State) : WaitKept s (storeRegister new s) := by
  obtain ⟨-, -, -, hchans, hstarts, hmeas, -⟩ := lessReports_eq (storeRegister_lessReports s new)
  exact .of_chans hstarts (by rw [hmeas]; rfl) hchans

theorem LinkGood.storeRegister (h : LinkGood s) (new : IncidentRegister) : LinkGood (storeRegister new s) :=
  h.kept (storeRegister_notified new s) (storeRegister_waitKept new s)

theorem LinkHeld.registerEvent (h : LinkHeld s) (ha : s.ctl.mode.applies = true) (new : IncidentRegister) :
    LinkHeld (registerEvent new s) := by
  have hstored := storeRegister_notified new s
  unfold Machine.registerEvent
  exact holds_ite (P := LinkHeld) (h.notified hstored) ((h.notified hstored).recompute (by rw [hstored.ctl]; exact ha)).held

theorem LinkGood.registerEvent (h : LinkGood s) (new : IncidentRegister) : LinkGood (registerEvent new s) := by
  have hstored := h.storeRegister new
  unfold Machine.registerEvent
  exact holds_ite (P := LinkGood) hstored hstored.recompute

theorem put_claim_ne {q : TxQueue} {k : FrameKind} {b : Bool} (h : k ≠ .claim) : (q.put k b).claim = q.claim := by
  cases k <;> first | rfl | exact absurd rfl h

/-- A frame other than the claim enters the queue in LISTEN and ACTIVE (R10, R148, R155). -/
theorem LinkHeld.enqueue (h : LinkHeld s) {k : FrameKind} (hm : s.ctl.mode = .listen ∨ s.ctl.mode = .active)
    (hk : k ≠ .claim) : LinkHeld (s.setQueued k true) := by
  refine h.requeue (q := s.link.queue.put k true) (x := s.starts) (fun j hj => holds_put_true (h.queued_of_onWire hj)) ?_ ?_
  · have hclaim := h.claim
    unfold ClaimHeld at hclaim ⊢
    rw [show ((s.withLink { s.link with queue := s.link.queue.put k true }).withStarts s.starts).link.queue.claim
      = s.link.queue.claim from put_claim_ne hk]
    exact hclaim
  · rcases hm with hm | hm
    · have hqueue := h.queue
      unfold QueueLaw at hqueue ⊢
      rw [hm] at hqueue
      rw [show ((s.withLink { s.link with queue := s.link.queue.put k true }).withStarts s.starts).ctl.mode = .listen from hm]
      exact (put_claim_ne hk).trans hqueue
    · exact queueLaw_of_active hm

theorem LinkHeld.placeDeclare (h : LinkHeld s) : LinkHeld (placeDeclare s) := by
  unfold Machine.placeDeclare
  split
  · next hm => exact h.enqueue hm nofun
  · exact h

theorem LinkHeld.declarationCheck (h : LinkHeld s) : LinkHeld (declarationCheck s) := by
  have howed : LinkHeld (s.withReg (oweDeclaration s.reg)) := h.notified (.quiet rfl rfl rfl rfl)
  exact holds_ite (P := LinkHeld) howed.placeDeclare h

theorem placeDeclare_waitKept (s : State) : WaitKept s (placeDeclare s) :=
  holds_ite (P := WaitKept s) (.of_chans rfl rfl rfl) (.of_chans rfl rfl rfl)

theorem declarationCheck_waitKept (s : State) : WaitKept s (declarationCheck s) := by
  have hplaced := placeDeclare_waitKept (s.withReg (oweDeclaration s.reg))
  exact holds_ite (P := WaitKept s) ⟨hplaced.claim, hplaced.supply, hplaced.waits⟩ (.of_chans rfl rfl rfl)

theorem LinkGood.declarationCheck (h : LinkGood s) : LinkGood (declarationCheck s) :=
  ⟨h.held.declarationCheck, h.meant.kept (declarationCheck_waitKept s)⟩

theorem LinkGood.replaceDeclare (h : LinkGood s) : LinkGood (replaceDeclare s) :=
  holds_ite (P := LinkGood) ⟨h.held.placeDeclare, h.meant.kept (placeDeclare_waitKept s)⟩ h

/-! ### Modes (R148, R163 to R173) -/

/-- Nothing is queued, claimed, captured or on the wire (R148, R149). -/
structure LinkBlank (s : State) : Prop where
  attempt : s.link.attempt = none
  unsent  : s.link.line ≠ .sending
  line    : LineLaw s.lineWatch
  queue   : s.link.queue = .empty
  claim   : s.starts.claim = .absent
  count   : s.link.failCount ≤ 16 ∧ (s.link.txFail = true ↔ s.link.failCount = 16)
  capture : s.status.captured = none
  early   : s.status.earlyPending = false

theorem LinkBlank.moved (h : LinkBlank s) (hlink : t.link = s.link) (hclaim : t.starts.claim = s.starts.claim)
    (hcapture : t.status.captured = s.status.captured) (hearly : t.status.earlyPending = s.status.earlyPending) :
    LinkBlank t := by
  obtain ⟨hattempt, hunsent, hline, hqueue, hclaim', hcount, hcapture', hearly'⟩ := h
  have hwatch : t.lineWatch = s.lineWatch := by unfold State.lineWatch; rw [hlink]
  exact ⟨by rw [hlink, hattempt], by rw [hlink]; exact hunsent, by rw [hwatch]; exact hline, by rw [hlink, hqueue],
    hclaim.trans hclaim', by rw [hlink]; exact hcount, hcapture.trans hcapture', hearly.trans hearly'⟩

/-- A blank node is lawful in every mode, with the period timer running in a mode that sends alone. -/
theorem LinkBlank.good (h : LinkBlank s) (hperiod : s.status.period.isSome = true → s.ctl.mode.sends = true)
    (hmost : AtMost periodTime s.status.period) : LinkGood s := by
  obtain ⟨hattempt, hunsent, hline, hqueue, hclaim, hcount, hcapture, hearly⟩ := h
  have hwire (k : FrameKind) : s.onWire k = false := by simp [State.onWire, hattempt]
  refine ⟨⟨?_, hline, ?_, ?_, hcount, ?_, ?_, hperiod, hmost⟩, fun hc => absurd (hclaim.symm.trans hc) nofun⟩
  · unfold AttemptLaw
    rw [hattempt]
    exact hunsent
  · rw [claimHeld_of_absent hclaim, hqueue]
    rfl
  · unfold QueueLaw
    rw [hqueue]
    cases s.ctl.mode <;> trivial
  · simp [hcapture, hwire]
  · simp [hearly]

/-- In a mode that does not send the node is blank, and the period timer is stopped (R119, R148). -/
theorem LinkHeld.blank (h : LinkHeld s) (hm : s.ctl.mode.sends = false) : LinkBlank s ∧ s.status.period = none := by
  have habsent : s.starts.claim = .absent := h.claim_absent fun e => by rw [e] at hm; cases hm
  obtain ⟨hattempt, hline, -, hqueue, hcount, hcapture, hearly, hperiod, -⟩ := h
  have hnone : s.link.attempt = none := by
    cases ha : s.link.attempt with
    | none => rfl
    | some a =>
      rw [AttemptLaw, ha] at hattempt
      obtain ⟨-, -, -, -, -, hsends⟩ := hattempt
      rw [hm] at hsends
      cases hsends
  have hunsent : s.link.line ≠ .sending := by rwa [AttemptLaw, hnone] at hattempt
  have hempty : s.link.queue = .empty := by
    unfold QueueLaw at hqueue
    cases hmode : s.ctl.mode <;> rw [hmode] at hm hqueue <;> first | exact hqueue | cases hm
  have hwire : s.onWire .status = false := by simp [State.onWire, hnone]
  refine ⟨⟨hnone, hunsent, hline, hempty, habsent, hcount, ?_, ?_⟩, ?_⟩
  · rw [hwire] at hcapture
    simpa using hcapture
  · rw [hwire] at hearly
    simpa using hearly
  · rw [hm] at hperiod
    simpa using hperiod

/-- The period timer alone moves. -/
theorem LinkGood.withPeriod {p : Option Nat} (h : LinkGood s) (hm : s.ctl.mode.sends = true) (hp : AtMost periodTime p) :
    LinkGood (s.withStatus { s.status with period := p }) :=
  ⟨⟨h.held.attempt, h.held.line, h.held.claim, h.held.queue, h.held.count, h.held.capture, h.held.early, fun _ => hm, hp⟩,
    h.meant⟩

theorem queueStatus_linkGood (h : LinkGood s) (hm : s.ctl.mode.sends = true) : LinkGood (queueStatus s) :=
  h.kept (.queueStatus hm) (.of_lessReports (queueStatus_lessReports s))

/-- The stagger in a mode that sends (R120). -/
theorem LinkGood.startStagger (h : LinkGood s) (hm : s.ctl.mode.sends = true) (hstation : s.station ≤ 63) :
    LinkGood (startStagger s) := by
  have hmost : AtMost periodTime (some (s.station * staggerUnit)) := by
    rw [atMost_some]
    unfold periodTime staggerUnit
    omega
  exact holds_ite (P := LinkGood) (queueStatus_linkGood (h.withPeriod hm (atMost_none _)) hm) (h.withPeriod hm hmost)

theorem raise_linkGood (h : LinkGood s) (x : Cond) : LinkGood (raise x s) :=
  h.kept (.raise x s) (.of_lessReports (raise_lessReports s x))

theorem endCond_linkGood (h : LinkGood s) (x : Cond) : LinkGood (endCond x s) :=
  h.kept (.endCond x s) (.of_lessReports (endCond_lessReports s x))

theorem LinkGood.startTests (h : LinkGood s) : LinkGood (startTests s) := h.held.startTests

theorem completeListening_notified (s : State) : Notified s (completeListening s) := by
  have hpeers : Notified s (s.withPeers { s.peers with listened := true }) := .quiet rfl rfl rfl rfl
  have hsilent (u : State) : Notified u (raiseSilent u) :=
    .foldl (f := fun s z => if isSilent s z then raise (neighbourSilent z) s else s)
      (fun u z => .ite (fun _ => .raise _ u) fun _ => .refl u) _ u
  exact .ite (fun _ => .refl s) fun _ => hpeers.trans (hsilent _)

theorem startSequencers_notified (s : State) : Notified s (startSequencers s) :=
  .of_reports (lessRoles_of_lessSequencing (startSequencers_lessSequencing s)) (startSequencers_reports s)
    (startSequencers_spacing s)

theorem graceStart_notified (s : State) : Notified s (graceStart s) :=
  .ite (fun _ => .quiet rfl rfl rfl rfl) fun _ => .refl s

/-- LISTEN holds no claim, so ACTIVE begins with none; an attempt goes on (R72, R170). -/
theorem LinkHeld.activated (h : LinkHeld s) (hm : s.ctl.mode = .listen) :
    LinkHeld (setMode .active (s.withCtl { s.ctl with listenTimer := none })) := by
  have habsent := h.claim_absent (by rw [hm]; nofun)
  have hclaim := (claimHeld_of_absent habsent).mp h.claim
  have hheld (u : State) (hc : u.starts.claim = .absent) (hq : u.link.queue.claim = false) : ClaimHeld u :=
    (claimHeld_of_absent hc).mpr hq
  refine ⟨?_, h.line, hheld _ habsent hclaim, queueLaw_of_active rfl, h.count, h.capture, h.early, fun _ => rfl, h.most⟩
  have hattempt := h.attempt
  unfold AttemptLaw at hattempt ⊢
  change match s.link.attempt with | none => _ | some a => _
  cases ha : s.link.attempt with
  | none => rw [ha] at hattempt; exact hattempt
  | some a =>
    rw [ha] at hattempt
    obtain ⟨hsending, hnowait, hholds, hstation, hclass, -⟩ := hattempt
    exact ⟨hsending, hnowait, hholds, hstation, hclass, rfl⟩

theorem LinkHeld.enterActive (h : LinkHeld s) (hm : s.ctl.mode = .listen) : LinkGood (enterActive s) := by
  have hresolved := ((h.activated hm).recompute rfl).held
  have hstarted := (hresolved.notified (startSequencers_notified _)).notified (graceStart_notified _)
  exact (hstarted.notified (completeListening_notified _)).startTests

theorem LinkGood.endListenOnAlarm (h : LinkGood s) (hm : s.ctl.mode = .listen) : LinkGood (endListenOnAlarm s) :=
  holds_ite (P := LinkGood) (h.held.enterActive hm) h

/-- A recompute at an entry to LISTEN, and its end on ALARM (R169). -/
theorem LinkGood.listened (h : LinkGood s) (hm : s.ctl.mode = .listen) :
    LinkGood (Machine.endListenOnAlarm (Machine.recompute (Machine.declarationCheck s))) := by
  refine h.declarationCheck.recompute.endListenOnAlarm ?_
  obtain ⟨hctl, -⟩ := lessRoles_eq (recompute_lessRoles (Machine.declarationCheck s))
  rw [hctl, (declarationCheck_aside s).ctl, hm]

/-- A blank node whose period timer is stopped may enter any mode. -/
theorem LinkBlank.entered (h : LinkBlank s) (hperiod : s.status.period = none) (m : Mode) (x : ModeCtl) :
    LinkGood (setMode m (s.withCtl x)) := by
  have hblank : LinkBlank (setMode m (s.withCtl x)) := h.moved rfl rfl rfl rfl
  have hstopped : (setMode m (s.withCtl x)).status.period = none := hperiod
  exact hblank.good (fun hp => by rw [hstopped] at hp; cases hp) (by rw [hstopped]; exact atMost_none _)

theorem LinkBlank.beginListen (h : LinkBlank s) (hperiod : s.status.period = none) (hstation : s.station ≤ 63) :
    LinkGood (beginListen s) := by
  have hentered := h.entered hperiod .listen
    { s.ctl with listenTimer := some listenTime, quietTimer := none, origin := none }
  exact hentered.startStagger rfl hstation

theorem LinkBlank.enterListen (h : LinkBlank s) (hperiod : s.status.period = none) (hstation : s.station ≤ 63) :
    LinkGood (enterListen s) := by
  have hscan : LinkGood (setScan (scanFrom (Machine.beginListen s) 0) (Machine.beginListen s)) :=
    (h.beginListen hperiod hstation).kept (.quiet rfl rfl rfl rfl) (.of_chans rfl rfl rfl)
  exact hscan.listened (beginListen_mode s)

theorem LinkBlank.reenterListen (h : LinkBlank s) (hperiod : s.status.period = none) (hstation : s.station ≤ 63) :
    LinkGood (reenterListen s) :=
  (h.beginListen hperiod hstation).replaceDeclare.listened (by rw [(replaceDeclare_aside _).ctl, beginListen_mode])

/-- The entry to MUTE empties the queue (R148, R171). -/
theorem LinkHeld.muteEntered (h : LinkHeld s) (hattempt : s.link.attempt = none) (o : Origin) :
    LinkGood (muteEntered o s) := by
  have hunsent : s.link.line ≠ .sending := by
    have hlaw := h.attempt
    rwa [AttemptLaw, hattempt] at hlaw
  have hblank : LinkBlank (Machine.muteEntered o s) := ⟨rfl, hunsent, h.line, rfl, rfl, h.count, rfl, rfl⟩
  exact hblank.good nofun (atMost_none _)

/-- Conflict evidence, with own attempt off the wire (R136, R171). -/
theorem LinkHeld.evidence (h : LinkHeld s) (hattempt : s.link.attempt = none) : LinkHeld (evidence s) := by
  cases ha : s.ctl.mode.applies with
  | false => rwa [evidence_idle ha]
  | true =>
    rcases evidence_cases ha with ⟨o, -, e⟩ | ⟨hm, e⟩
    · rw [e, enterMute_eq]
      exact (raise_linkGood (h.muteEntered hattempt o) _).recompute.startTests.held
    · rw [e]
      obtain ⟨hblank, hperiod⟩ := h.blank (by rw [hm]; rfl)
      have hmoved : LinkBlank (s.withCtl { s.ctl with quietTimer := some quietTime }) := hblank.moved rfl rfl rfl rfl
      exact (hmoved.good h.period h.most).held

/-- Conflict evidence leads to MUTE, where no claim is held (R72, R171). -/
theorem LinkGood.evidence (h : LinkGood s) (hattempt : s.link.attempt = none) : LinkGood (evidence s) := by
  refine ⟨h.held.evidence hattempt, fun hc => ?_⟩
  cases ha : s.ctl.mode.applies with
  | false =>
    rw [evidence_idle ha] at hc ⊢
    exact h.meant hc
  | true =>
    have habsent := (h.held.evidence hattempt).claim_absent (by rw [(evidence_mute ha).1]; nofun)
    exact absurd (habsent.symm.trans hc) nofun

theorem LinkGood.leaveMute (h : LinkGood s) (hm : s.ctl.mode = .mute) (hstation : s.station ≤ 63) :
    LinkGood (leaveMute s) := by
  have hended := endCond_linkGood h (plainCond .stationConflict)
  obtain ⟨hctl, -⟩ := lessReports_eq (endCond_lessReports s (plainCond .stationConflict))
  have hstation' : (endCond (plainCond .stationConflict) s).station ≤ 63 := by rwa [station_congr hctl]
  obtain ⟨hblank, hperiod⟩ := hended.held.blank (by rw [hctl, hm]; rfl)
  unfold Machine.leaveMute
  dsimp only
  split
  · exact hblank.reenterListen hperiod hstation'
  · have hentered := hblank.entered hperiod .active
      { (endCond (plainCond .stationConflict) s).ctl with quietTimer := none, origin := none }
    have hresumed := (hentered.startStagger rfl hstation').replaceDeclare.recompute
    exact (hresumed.held.notified (completeListening_notified _)).startTests

/-- LOCKOUT is entered with nothing queued (R172). -/
theorem LinkBlank.enterLockout (h : LinkBlank s) (hperiod : s.status.period = none) (hstation : s.station ≤ 63) :
    LinkGood (enterLockout s) := by
  have hraised := raise_linkGood (h.entered hperiod .lockout s.ctl) (plainCond .configBad)
  obtain ⟨hctl, -⟩ := lessReports_eq
    (raise_lessReports (setMode .lockout (s.withCtl s.ctl)) (plainCond .configBad))
  exact hraised.startStagger (by rw [hctl]; rfl)
    (by rw [station_congr hctl]; exact hstation)

theorem LinkBlank.sampleStraps (h : LinkBlank s) (hperiod : s.status.period = none) (p : StrapPins) :
    LinkGood (sampleStraps p s) := by
  unfold Machine.sampleStraps
  dsimp only
  generalize hx : ({ s.ctl with straps := some { station := p.station.toNat, missLimit := missLimitOf p.miss,
                                                 rate := p.rate } } : ModeCtl) = x
  have hsampled : LinkBlank (s.withCtl x) := h.moved rfl rfl rfl rfl
  have hstation : (s.withCtl x).station ≤ 63 := by
    have := p.station.isLt
    subst hx
    change p.station.toNat ≤ 63
    omega
  split
  · exact hsampled.enterLockout hperiod hstation
  · exact h.entered hperiod .config x

end Sys2Proof.Machine
end

section
/-! An attempt's ends and the line along every step (R119, R140 to R152): the second part of O8. -/

namespace Sys2Proof.Machine

variable {s t u : State} {c : ChannelNo} {a : Attempt}

/-! ### The unaccepted end of an attempt (R74, R119, R124, R151) -/

/-- The node with its attempt off the wire, unaccepted, and the line as given. -/
def unaccepted (x : LineWatch) (s : State) : State :=
  { s with
    link := { s.link with attempt := none, line := x.line, run := x.run, retryWait := x.wait }
    status := s.composerIn
    starts := { s.starts with claim := s.starts.claim.requeued } }

theorem composerIn_cases (s : State) : s.composerIn.period = s.status.period
    ∧ ((s.onWire .status = false ∧ s.composerIn = s.status)
      ∨ (s.composerIn.captured = none ∧ s.composerIn.earlyPending = false)) := by
  unfold State.composerIn
  cases s.onWire .status with
  | false => exact ⟨rfl, .inl ⟨rfl, rfl⟩⟩
  | true => exact ⟨rfl, .inr ⟨rfl, rfl⟩⟩

/-- With the attempt ended, nothing is captured and nothing pends (R119, R125). -/
theorem LinkHeld.composerIn (h : LinkHeld s) : s.composerIn.captured = none ∧ s.composerIn.earlyPending = false := by
  obtain ⟨-, ⟨hwire, e⟩ | hended⟩ := composerIn_cases s
  · have hcapture := h.capture
    have hearly := h.early
    rw [hwire] at hcapture hearly
    rw [e]
    exact ⟨by simpa using hcapture, by simpa using hearly⟩
  · exact hended

theorem LinkHeld.unaccepted (h : LinkHeld s) {x : LineWatch} (hx : x.line ≠ .sending) (hline : LineLaw x) :
    LinkHeld (unaccepted x s) := by
  obtain ⟨hcaptured, hearly⟩ := h.composerIn
  obtain ⟨hperiod, -⟩ := composerIn_cases s
  have hcomposed : (Machine.unaccepted x s).status = s.composerIn := rfl
  refine ⟨hx, hline, ?_, h.queue, h.count, ?_, ?_, ?_, ?_⟩
  · cases hc : s.starts.claim with
    | absent =>
      have habsent : (Machine.unaccepted x s).starts.claim = .absent := congrArg ClaimRecord.requeued hc
      exact (claimHeld_of_absent habsent).mpr ((claimHeld_of_absent hc).mp h.claim)
    | queued =>
      obtain ⟨hqueued, -, hactive, hstopped⟩ := (claimHeld_of_queued hc).mp h.claim
      have hclaim : (Machine.unaccepted x s).starts.claim = .queued := congrArg ClaimRecord.requeued hc
      exact (claimHeld_of_queued hclaim).mpr ⟨hqueued, rfl, hactive, hstopped⟩
    | sending d b n =>
      obtain ⟨hqueued, hactive, hstopped, -⟩ := (claimHeld_of_sending hc).mp h.claim
      have hclaim : (Machine.unaccepted x s).starts.claim = .queued := congrArg ClaimRecord.requeued hc
      exact (claimHeld_of_queued hclaim).mpr ⟨hqueued, rfl, hactive, hstopped⟩
  · rw [hcomposed, hcaptured]
    exact ⟨nofun, nofun⟩
  · rw [hcomposed, hearly]
    nofun
  · rw [hcomposed, hperiod]
    exact h.period
  · rw [hcomposed, hperiod]
    exact h.most

/-- What a station hears is never its own sending. -/
theorem LineWatch.bit_unsent (x : LineWatch) (b : Bool) (h : x.line ≠ .sending) : (x.bit b).line ≠ .sending := by
  have hquiet : (x.quiet b).line ≠ .sending := by
    unfold LineWatch.quiet
    split
    · change (if idleRun ≤ min waitRun (x.run + 1) then Line.idle else x.line) ≠ .sending
      split
      · nofun
      · exact h
    · split
      · nofun
      · exact h
  unfold LineWatch.bit
  cases hl : x.line with
  | receiving intake =>
    dsimp only
    cases (intake.bit b).has <;> nofun
  | ackSlot | errorSlot => nofun
  | awaitingIdle | idle | closed => exact hquiet
  | sending => exact absurd hl h

theorem LineWatch.foldl_unsent (levels : List Bool) : ∀ x : LineWatch, x.line ≠ .sending →
    (levels.foldl LineWatch.bit x).line ≠ .sending := by
  induction levels with
  | nil => exact fun _ h => h
  | cons b levels ih => exact fun x h => ih _ (x.bit_unsent b h)

theorem Frame.heardUntil_unsent (f : Frame) (n : Nat) : (f.heardUntil n).line ≠ .sending :=
  LineWatch.foldl_unsent _ _ nofun

/-- A lawful line without a retry wait. -/
theorem LineLaw.unwaited {x : LineWatch} (h : LineLaw x) : LineLaw { x with wait := false } := ⟨h.1, nofun⟩

theorem LinkHeld.retryWait (h : LinkHeld s) (ha : s.link.attempt = some a) : s.link.retryWait = false := by
  have hattempt := h.attempt
  rw [AttemptLaw, ha] at hattempt
  obtain ⟨-, hwait, -⟩ := hattempt
  exact hwait

theorem composerAfter_eq (ha : s.link.attempt = some a) : composerAfter a s = s.composerIn := by
  simp [composerAfter, State.composerIn, State.onWire, ha]

theorem startTests_attempt (s : State) : (startTests s).link.attempt = s.link.attempt := by rw [startTests_link]

/-- A station that stops sending is a receiver, and its start tests are made (R74, R143, R144). -/
theorem LinkHeld.stopSending (h : LinkHeld s) (bit : Nat) : LinkHeld (stopSending bit s)
    ∧ (Machine.stopSending bit s).link.attempt = none ∧ (s.link.attempt.isSome = true → ClaimMeant (Machine.stopSending bit s)) := by
  cases ha : s.link.attempt with
  | none =>
    have e : Machine.stopSending bit s = s := by unfold Machine.stopSending; rw [ha]
    rw [e]
    exact ⟨h, ha, nofun⟩
  | some a =>
    have hstopped : stopped bit a s = Machine.unaccepted { a.frame.heardUntil bit with wait := false } s := by
      unfold stopped Machine.unaccepted
      rw [composerAfter_eq ha, ← h.retryWait ha]
    have hgood := (h.unaccepted (x := { a.frame.heardUntil bit with wait := false }) (a.frame.heardUntil_unsent bit)
      (a.frame.heardUntil_law bit).unwaited).startTests
    rw [stopSending_eq ha, hstopped]
    exact ⟨hgood.held, (startTests_attempt _).trans rfl, fun _ => hgood.meant⟩

/-! ### Failures count (R146, R152) -/

theorem LinkHeld.countFailure (h : LinkHeld s) : LinkHeld (countFailure s) := by
  obtain ⟨hmost, hfail⟩ := h.count
  have hcounted {n : Nat} {b : Bool} (hn : n ≤ 16 ∧ (b = true ↔ n = 16)) :
      LinkHeld (s.withLink { s.link with failCount := n, txFail := b }) :=
    ⟨h.attempt, h.line, h.claim, h.queue, hn, h.capture, h.early, h.period, h.most⟩
  unfold Machine.countFailure
  split
  · next hlow => exact hcounted (b := s.link.txFail) ⟨by omega, by rw [hfail]; omega⟩
  · exact (hcounted ⟨le_rfl, by simp⟩).notified (.raise _ _)

theorem LinkHeld.failed (h : LinkHeld s) (ha : s.link.attempt = some a) :
    LinkGood (Machine.startTests (Machine.countFailure (Machine.failed a s))) := by
  have hfailed : Machine.failed a s = Machine.unaccepted { line := .closed, run := 0, wait := true } s := by
    unfold Machine.failed Machine.unaccepted
    rw [composerAfter_eq ha]
  rw [hfailed]
  exact (h.unaccepted (x := { line := .closed, run := 0, wait := true }) nofun
    ⟨by decide, fun _ => ⟨.inr rfl, by decide⟩⟩).countFailure.startTests

/-! ### The line (R140, R151) -/

theorem LinkGood.withLine (h : LinkGood s) {x : LineWatch} (ha : s.link.attempt = none) (hx : x.line ≠ .sending)
    (hline : LineLaw x) : LinkGood (s.withLink { s.link with line := x.line, run := x.run, retryWait := x.wait }) := by
  refine ⟨⟨?_, hline, h.held.claim, h.held.queue, h.held.count, h.held.capture, h.held.early, h.held.period, h.held.most⟩,
    h.meant⟩
  have hnone : (s.withLink { s.link with line := x.line, run := x.run, retryWait := x.wait }).link.attempt = none := ha
  rw [AttemptLaw, hnone]
  exact hx

theorem LinkHeld.unsent (h : LinkHeld s) (ha : s.link.attempt = none) : s.link.line ≠ .sending := by
  have hattempt := h.attempt
  rwa [AttemptLaw, ha] at hattempt

theorem LinkGood.judgeLine (h : LinkGood s) (ha : s.link.attempt = none) (levels : List Bool) :
    LinkGood (judgeLine levels s) :=
  h.withLine ha (LineWatch.foldl_unsent levels s.lineWatch (h.held.unsent ha)) (LineWatch.foldl_law levels _ h.held.line)

theorem LinkGood.retryWaitEnd (h : LinkGood s) (hwait : s.link.retryWait = true) (b : Bool) :
    LinkGood (s.withLink (if b then { s.link with retryWait := false, line := .receiving .start, run := 0 }
      else { s.link with retryWait := false, line := .idle, run := waitRun })) := by
  have hnone : s.link.attempt = none := by
    cases ha : s.link.attempt with
    | none => rfl
    | some a => rw [h.held.retryWait ha] at hwait; cases hwait
  cases b with
  | true => exact h.withLine (x := { line := .receiving .start, run := 0, wait := false }) hnone nofun ⟨by decide, nofun⟩
  | false => exact h.withLine (x := { line := .idle, run := waitRun, wait := false }) hnone nofun ⟨by decide, nofun⟩

/-! ### The start of an attempt (R73, R122, R149) -/

/-- A queued frame of own station and of a class of its kind goes on the wire. -/
theorem LinkHeld.sent {k : FrameKind} {f : Frame} (h : LinkHeld s) (hm : s.ctl.mode.sends = true)
    (ha : s.link.attempt = none) (hwait : s.link.retryWait = false) (hq : s.link.queue.holds k = true)
    (hf : f.station = BitVec.ofNat 6 s.station ∧ kindHasClass k f.cls = true) (hlink : t.link = (sendFrame k f s).link)
    (hctl : t.ctl = s.ctl) (hperiod : t.status.period = s.status.period) (hclaim : ClaimHeld t)
    (hcapture : t.status.captured.isSome = true ↔ k = .status)
    (hearly : t.status.earlyPending = s.status.earlyPending) : LinkHeld t := by
  have hattempt : t.link.attempt = some { kind := k, frame := f } := by rw [hlink]; rfl
  have hwire (j : FrameKind) : t.onWire j = decide (k = j) := by simp [State.onWire, hattempt]
  have hpend : s.status.earlyPending = false := by
    have hpend := h.early
    simpa [State.onWire, ha] using hpend
  refine ⟨?_, ?_, hclaim, ?_, by rw [hlink]; exact h.count, ?_, ?_, ?_, by rw [hperiod]; exact h.most⟩
  · rw [AttemptLaw, hattempt, station_congr hctl, hlink, hctl]
    exact ⟨rfl, hwait, hq, hf.1, hf.2, hm⟩
  · have hwatch : t.lineWatch = { line := .sending, run := 0, wait := false } := by
      unfold State.lineWatch
      rw [hlink, ← hwait]
      rfl
    rw [hwatch]
    exact ⟨rfl, nofun⟩
  · have hqueue := h.queue
    unfold QueueLaw at hqueue ⊢
    rw [hctl, hlink]
    exact hqueue
  · rw [hwire]
    simpa using hcapture
  · rw [hearly, hpend]
    nofun
  · rw [hperiod, hctl]
    exact h.period

/-- With another frame than the claim on the wire, or none, an unsent claim record stands as it was. -/
theorem LinkHeld.claim_unsent (h : LinkHeld s) (ha : s.link.attempt = none) (hqueue : t.link.queue.claim = s.link.queue.claim)
    (hwire : t.onWire .claim = false) (hctl : t.ctl = s.ctl) (hstarts : t.starts = s.starts) : ClaimHeld t := by
  have hclaim := h.claim
  cases hc : s.starts.claim with
  | absent =>
    exact (claimHeld_of_absent (by rw [hstarts, hc])).mpr (hqueue.trans ((claimHeld_of_absent hc).mp hclaim))
  | queued =>
    obtain ⟨hqueued, -, hactive, hstopped⟩ := (claimHeld_of_queued hc).mp hclaim
    exact (claimHeld_of_queued (by rw [hstarts, hc])).mpr
      ⟨hqueue.trans hqueued, hwire, by rw [hctl, hactive], by rw [hstarts, hstopped]⟩
  | sending =>
    obtain ⟨-, -, -, hsent⟩ := (claimHeld_of_sending hc).mp hclaim
    rw [ha] at hsent
    cases hsent

theorem LinkHeld.captured_none (h : LinkHeld s) (ha : s.link.attempt = none) : s.status.captured = none := by
  have hcapture := h.capture
  simpa [State.onWire, ha] using hcapture

theorem holds_of_lowest {q : TxQueue} {k : FrameKind} (h : q.lowest = some k) : q.holds k = true := by
  unfold TxQueue.lowest at h
  split at h
  · next hq => cases h; exact hq
  · split at h
    · next hq => cases h; exact hq
    · split at h
      · next hq => cases h; exact hq
      · split at h
        · next hq => cases h; exact hq
        · cases h

/-- The queued frame of lowest class goes on the wire; a claim names the waiting fan (R73, R149). -/
theorem LinkGood.sendKind (h : LinkGood s) {k : FrameKind} (hm : s.ctl.mode.sends = true) (ha : s.link.attempt = none)
    (hwait : s.link.retryWait = false) (hk : s.link.queue.lowest = some k) : LinkGood (sendKind k s) := by
  have hq : s.link.queue.holds k = true := holds_of_lowest hk
  have hcaptured : s.status.captured.isSome = true ↔ False := by simp [h.held.captured_none ha]
  cases k with
  | clear =>
    exact ⟨h.held.sent (f := ownFrame s 0 clearPayload) hm ha hwait hq ⟨rfl, rfl⟩ rfl rfl rfl
      (h.held.claim_unsent ha rfl rfl rfl rfl) (hcaptured.trans ⟨nofun, nofun⟩) rfl, h.meant⟩
  | fireDeclare =>
    exact ⟨h.held.sent (f := ownFrame s 2 (declarePayload s.cfg.neighbours)) hm ha hwait hq ⟨rfl, rfl⟩ rfl rfl rfl
      (h.held.claim_unsent ha rfl rfl rfl rfl) (hcaptured.trans ⟨nofun, nofun⟩) rfl, h.meant⟩
  | status =>
    exact ⟨h.held.sent (f := ownFrame s 5 (statusPayload (statusContent s))) hm ha hwait hq ⟨rfl, rfl⟩ rfl rfl rfl
      (h.held.claim_unsent ha rfl rfl rfl rfl) ⟨fun _ => rfl, fun _ => rfl⟩ rfl, h.meant⟩
  | claim =>
    have hclaim := h.held.claim
    cases hc : s.starts.claim with
    | absent =>
      have hnone : s.link.queue.claim = false := (claimHeld_of_absent hc).mp hclaim
      rw [show s.link.queue.claim = true from hq] at hnone
      cases hnone
    | sending =>
      obtain ⟨-, -, -, hsent⟩ := (claimHeld_of_sending hc).mp hclaim
      rw [ha] at hsent
      cases hsent
    | queued =>
      obtain ⟨-, -, hactive, hstopped⟩ := (claimHeld_of_queued hc).mp hclaim
      obtain ⟨hwaits, -⟩ := h.meant hc
      obtain ⟨d, hd⟩ := Option.isSome_iff_exists.mp hwaits
      have e : Machine.sendKind .claim s = _ := sendClaim_eq hd
      have hclass : kindHasClass .claim (claimClass s.role.role.extract) = true := by cases s.role.role.extract <;> rfl
      rw [e]
      refine ⟨h.held.sent (f := ownFrame s (claimClass s.role.role.extract) (claimPayload d (carriedHoldOff s d))) hm ha hwait hq
        ⟨rfl, hclass⟩ rfl rfl rfl ?_ (hcaptured.trans ⟨nofun, nofun⟩) rfl, nofun⟩
      exact ⟨hq, hactive, hstopped, rfl⟩

end Sys2Proof.Machine
end

section
/-! Accepted frames along every step (R16, R32, R76, R77, R127, R146 to R152): the third part of O8. -/

namespace Sys2Proof.Machine

variable {s t u : State} {a : Attempt} {f : Frame}

/-! ### A node with nothing on the wire -/

/-- The law of the link with no own attempt in progress. -/
structure LinkIdle (s : State) : Prop where
  held : LinkHeld s
  idle : s.link.attempt = none

theorem LinkIdle.notified (h : LinkIdle s) (k : Notified s t) : LinkIdle t := ⟨h.held.notified k, k.attempt.trans h.idle⟩

theorem attempt_of_lessRoles (h : t.lessRoles = s.lessRoles) : t.link.attempt = s.link.attempt := by
  obtain ⟨-, hattempt, -⟩ := lessRoles_eq_link h
  exact hattempt

theorem LinkIdle.recompute (h : LinkIdle s) : LinkIdle (recompute s) := by
  refine ⟨?_, (attempt_of_lessRoles (recompute_lessRoles s)).trans h.idle⟩
  cases ha : s.ctl.mode.applies with
  | true => exact (h.held.recompute ha).held
  | false =>
    rw [recompute_idle s ha]
    exact h.held

theorem LinkIdle.registerEvent (h : LinkIdle s) (new : IncidentRegister) : LinkIdle (registerEvent new s) := by
  have hstored := h.notified (storeRegister_notified new s)
  unfold Machine.registerEvent
  exact holds_ite (P := LinkIdle) hstored hstored.recompute

theorem placeDeclare_attempt (s : State) : (placeDeclare s).link.attempt = s.link.attempt :=
  holds_ite (P := fun u => u.link.attempt = s.link.attempt) rfl rfl

theorem LinkIdle.declarationCheck (h : LinkIdle s) : LinkIdle (declarationCheck s) := by
  refine ⟨h.held.declarationCheck, ?_⟩
  unfold Machine.declarationCheck
  split
  · exact (placeDeclare_attempt _).trans h.idle
  · exact h.idle

theorem LinkIdle.applyOverride (h : LinkIdle s) (w : Word) : LinkIdle (applyOverride w s) := by
  have hnoticed : Notified s (statusNotice (s.withRole { s.role with override := overrideMode w })) :=
    .trans (t := s.withRole { s.role with override := overrideMode w }) (.quiet rfl rfl rfl rfl) (.statusNotice _)
  unfold Machine.applyOverride
  exact holds_ite (P := LinkIdle) (h.notified hnoticed).recompute h

theorem LinkIdle.applyDeclare (h : LinkIdle s) (own : Bool) (z : Station) (ws : List Word) :
    LinkIdle (applyDeclare own z ws s) := by
  have hdeclared : LinkIdle (s.withReg (ownDeclared s.reg)) := h.notified (.quiet rfl rfl rfl rfl)
  rw [applyDeclare_eq]
  cases own with
  | true => exact hdeclared.registerEvent _
  | false => exact h.registerEvent _

theorem setPeer_notified (z : Nat) (x : Peer) (s : State) : Notified s (s.setPeer z x) := by
  unfold State.setPeer
  split
  · exact .quiet rfl rfl rfl rfl
  · exact .refl s

theorem storeStatus_notified (z : Nat) (r : StatusRecord) (s : State) : Notified s (storeStatus z r s) :=
  .ite (fun _ => .refl s) fun _ => .ite (fun _ => (setPeer_notified _ _ s).trans (.endCond _ _)) fun _ => setPeer_notified _ _ s

/-- A STATUS after its own part, own or another's (R16, R127). -/
theorem LinkIdle.viewed {own : Bool} {z : Station} {w1 : Word} (h : LinkIdle (statusStored own z w1 s)) (w2 w3 : Word) :
    LinkIdle (applyStatus own z w1 w2 w3 s) := by
  have hviewed : LinkIdle (statusViewed own z w1 w2 w3 s) :=
    holds_whenApplied h (holds_ite (P := LinkIdle) h (h.notified (storeRegister_notified _ _)))
  rw [applyStatus_eq]
  exact holds_ite (P := LinkIdle) hviewed.recompute hviewed

theorem LinkIdle.applyStatus (h : LinkIdle s) (z : Station) (w1 w2 w3 : Word) : LinkIdle (applyStatus false z w1 w2 w3 s) :=
  .viewed (own := false) (holds_whenApplied (P := LinkIdle) h (h.notified (storeStatus_notified _ _ s))) w2 w3

/-! ### Own attempt off the wire before the blocks (R149, R151, R152) -/

/-- Another station's frame: own attempt, if any, ends unaccepted. -/
theorem LinkGood.otherFrameIn (h : LinkGood s) : LinkIdle (otherFrameIn s) := by
  have e : Machine.otherFrameIn s = Machine.unaccepted { line := .closed, run := 0, wait := false } s :=
    otherFrameIn_eq (claimLaw_iff.mpr ⟨h.held.claim, h.meant⟩)
  rw [e]
  exact ⟨h.held.unaccepted (x := { line := .closed, run := 0, wait := false }) nofun ⟨by decide, nofun⟩, rfl⟩

theorem put_put_empty {q : TxQueue} {k : FrameKind} (h : q.put .status false = .empty) :
    (q.put k false).put .status false = .empty := by
  obtain ⟨clear, declare, claim, status⟩ := q
  cases h
  cases k <;> rfl

theorem put_empty (k : FrameKind) : TxQueue.empty.put k false = .empty := by cases k <;> rfl

theorem put_claim_false {q : TxQueue} {k : FrameKind} (h : q.claim = false) : (q.put k false).claim = false := by
  cases k with
  | claim => rfl
  | clear | fireDeclare | status => exact h

/-- A frame that leaves the queue breaks no rule of it. -/
theorem QueueLaw.dequeued (h : QueueLaw s) (k : FrameKind) (hctl : t.ctl = s.ctl)
    (hqueue : t.link.queue = s.link.queue.put k false) : QueueLaw t := by
  unfold QueueLaw at h ⊢
  rw [hctl, hqueue]
  cases hm : s.ctl.mode with
  | active => trivial
  | listen => rw [hm] at h; exact put_claim_false h
  | lockout => rw [hm] at h; exact put_put_empty h
  | start | config | mute =>
    rw [hm] at h
    change s.link.queue = .empty at h
    change s.link.queue.put k false = .empty
    rw [h, put_empty]

theorem lineLaw_closed (w : Bool) : LineLaw { line := .closed, run := 0, wait := w } :=
  ⟨Nat.zero_lt_succ 9, fun _ => ⟨.inr rfl, Nat.zero_lt_succ 29⟩⟩

/-- Own frame is accepted: it is off the wire and out of the queue, and no failure counts. -/
theorem LinkHeld.frameOut (h : LinkHeld s) (hlink : t.link = (frameOut a s).link) (hctl : t.ctl = s.ctl) (hclaim : ClaimHeld t)
    (hcapture : t.status.captured = none) (hearly : t.status.earlyPending = false)
    (hperiod : t.status.period.isSome = true → s.ctl.mode.sends = true) (hmost : AtMost periodTime t.status.period) :
    LinkIdle t := by
  have hnone : t.link.attempt = none := by rw [hlink]; rfl
  have hwire : t.onWire .status = false := by simp [State.onWire, hnone]
  refine ⟨⟨?_, ?_, hclaim, h.queue.dequeued a.kind hctl (by rw [hlink]; rfl), ?_, ?_, ?_, ?_, hmost⟩, hnone⟩
  · rw [AttemptLaw, hnone, hlink]
    exact Line.noConfusion
  · unfold State.lineWatch
    rw [hlink]
    exact lineLaw_closed s.link.retryWait
  · rw [hlink]
    exact ⟨Nat.zero_le _, nofun, nofun⟩
  · rw [hcapture, hwire]
    exact ⟨nofun, nofun⟩
  · rw [hearly]
    nofun
  · rw [hctl]
    exact hperiod

/-! ### Own frames at their blocks (R14, R76, R77, R124) -/

theorem LinkHeld.claim_of_kind (h : LinkHeld s) (ha : s.link.attempt = some a) (hk : a.kind ≠ .claim)
    (hctl : t.ctl = s.ctl) (hnone : t.link.attempt = none) (hqueue : t.link.queue.claim = s.link.queue.claim)
    (hstarts : t.starts = s.starts) : ClaimHeld t := by
  have hclaim := h.claim
  cases hc : s.starts.claim with
  | absent => exact (claimHeld_of_absent (by rw [hstarts, hc])).mpr (hqueue.trans ((claimHeld_of_absent hc).mp hclaim))
  | queued =>
    obtain ⟨hqueued, -, hactive, hstopped⟩ := (claimHeld_of_queued hc).mp hclaim
    exact (claimHeld_of_queued (by rw [hstarts, hc])).mpr
      ⟨hqueue.trans hqueued, by simp [State.onWire, hnone], by rw [hctl, hactive], by rw [hstarts, hstopped]⟩
  | sending =>
    obtain ⟨-, -, -, hsent⟩ := (claimHeld_of_sending hc).mp hclaim
    rw [ha] at hsent
    cases hsent
    exact absurd rfl hk

theorem LinkHeld.sends (h : LinkHeld s) (ha : s.link.attempt = some a) : s.ctl.mode.sends = true := by
  have hattempt := h.attempt
  rw [AttemptLaw, ha] at hattempt
  obtain ⟨-, -, -, -, -, hsends⟩ := hattempt
  exact hsends

/-- Own CLEAR or own FIRE-DECLARE leaves the wire and the queue. -/
theorem LinkHeld.ownFrameOut (h : LinkHeld s) (ha : s.link.attempt = some a) (hc : a.kind ≠ .claim) (hk : a.kind ≠ .status) :
    LinkIdle (ownFrameOut s) := by
  have hwire : s.onWire .status = false := by simp [State.onWire, ha, hk]
  have hcapture := h.capture
  have hearly := h.early
  rw [hwire] at hcapture hearly
  have hout : LinkIdle (Machine.frameOut a s) := by
    have hcaptured : s.status.captured = none := by simpa using hcapture
    have hnotearly : s.status.earlyPending = false := by simpa using hearly
    refine h.frameOut rfl rfl ?_ hcaptured hnotearly h.period h.most
    exact h.claim_of_kind ha hc rfl rfl (put_claim_ne hc) rfl
  rw [ownFrameOut_eq ha]
  exact hout.notified (.endCond _ _)

/-- Own STATUS leaves the wire and the queue; the period restarts, and a pending STATUS is queued (R119, R124). -/
theorem LinkHeld.ownStatus (h : LinkHeld s) (ha : s.link.attempt = some a) (hk : a.kind = .status) :
    LinkIdle (ownStatusAccepted (Machine.ownFrameOut s)) := by
  have hsends := h.sends ha
  have hc : a.kind ≠ .claim := by rw [hk]; nofun
  have hended : endCond (plainCond .txFail) (Machine.frameOut a s)
      = { s with link := (Machine.frameOut a s).link, trouble := (endCond (plainCond .txFail) s).trouble } :=
    endCond_withLink _ _ s
  have hout : LinkIdle (composed (endCond (plainCond .txFail) (Machine.frameOut a s))) := by
    rw [hended]
    refine h.frameOut rfl rfl ?_ rfl rfl (fun _ => hsends) (atMost_some.mpr le_rfl)
    exact h.claim_of_kind ha hc rfl rfl (put_claim_ne hc) rfl
  rw [ownFrameOut_eq ha, ownStatusAccepted_eq]
  refine holds_ite (P := LinkIdle) (hout.notified (.queueStatus ?_)) hout
  rw [hended]
  exact hsends

/-- Own claim leaves the wire, the queue and the record; its hold-off runs (R76, R77). -/
theorem LinkHeld.ownClaim (h : LinkHeld s) (ha : s.link.attempt = some a) (hk : a.kind = .claim) :
    LinkIdle (ownClaim (Machine.ownFrameOut s)) := by
  have hclaim := h.claim
  cases hc : s.starts.claim with
  | absent =>
    have hqueued := h.queued_of_onWire (k := .claim) (by simp [State.onWire, ha, hk])
    have hnone : s.link.queue.claim = false := (claimHeld_of_absent hc).mp hclaim
    rw [show s.link.queue.claim = true from hqueued] at hnone
    cases hnone
  | queued =>
    obtain ⟨-, hwire, -⟩ := (claimHeld_of_queued hc).mp hclaim
    simp [State.onWire, ha, hk] at hwire
  | sending c v n =>
    obtain ⟨-, -, -, hsent⟩ := (claimHeld_of_sending hc).mp hclaim
    obtain rfl : a = _ := Option.some.inj (ha.symm.trans hsent)
    rw [ownClaim_ownFrameOut hsent hc, claimUsed_keeps]
    have hcapture := h.capture
    have hearly := h.early
    have hwire : s.onWire .status = false := by simp [State.onWire, ha]
    rw [hwire] at hcapture hearly
    have hcaptured : s.status.captured = none := by simpa using hcapture
    have hnotearly : s.status.earlyPending = false := by simpa using hearly
    exact h.frameOut (a := { kind := .claim, frame := ownFrame s (claimClass v) (claimPayload c n) }) rfl rfl
      ((claimHeld_of_absent rfl).mpr rfl) hcaptured hnotearly h.period h.most

/-- A peer's claim sets the hold-off, and own claim is withdrawn (R76). -/
theorem LinkGood.peerClaim (h : LinkGood s) (n : Nat) : LinkIdle (peerClaim n (Machine.otherFrameIn s)) := by
  have hlaw : ClaimLaw s := claimLaw_iff.mpr ⟨h.held.claim, h.meant⟩
  obtain ⟨hheld, hidle⟩ := h.otherFrameIn
  rw [otherFrameIn_eq hlaw] at hheld hidle
  rw [peerClaim_otherFrameIn hlaw]
  refine ⟨hheld.requeue (q := { s.link.queue with claim := false })
    (x := { holdOff := some (max (s.starts.holdOff.getD 0) (max 1 (min 60 n) * 500)), claim := .absent })
    (fun k hk => ?_) ((claimHeld_of_absent rfl).mpr rfl) ?_, rfl⟩
  · cases hk
  · exact h.held.queue.dequeued .claim rfl rfl

/-! ### Acceptance (R146, R147) -/

theorem settleRaises_linkGood (h : LinkGood t) (s : State) : LinkGood (settleRaises s t) := by
  have hreports := settleRaises_lessReports (s := s) t
  obtain ⟨hctl, -, -, -, hstarts, -⟩ := lessReports_eq hreports
  exact h.kept (.quiet hctl hstarts (settleRaises_link s t) (settleRaises_reportKept s t).composer) (.of_lessReports hreports)

/-- After the blocks: the conflict detector and the start tests (R136). -/
theorem LinkIdle.frameClosed (h : LinkIdle t) (own : Bool) (f : Frame) (s : State) : LinkGood (frameClosed own f s t) := by
  unfold Machine.frameClosed
  refine settleRaises_linkGood (LinkHeld.startTests ?_) s
  rcases detectConflict_cases own f t with e | ⟨-, -, e⟩ <;> rw [e]
  · exact h.held
  · exact h.held.evidence h.idle

theorem LinkGood.acceptFrame {own : Bool} {f : Frame} {blocks : State → State} (h : LinkGood s)
    (hb : LinkIdle (blocks (frameIn own s))) : LinkGood (acceptFrame own f blocks s) := by
  cases hh : s.hears with
  | false =>
    unfold Machine.acceptFrame
    rwa [State.accepts_eq, if_neg (by simp [hh])]
  | true =>
    rw [acceptFrame_eq own f blocks hh]
    exact hb.frameClosed own f s

/-- The kind of own attempt whose frame is accepted. -/
theorem LinkHeld.own_kind (h : LinkHeld s) (hf : isOwnFrame f s = true) :
    ∃ a, s.link.attempt = some a ∧ kindHasClass a.kind f.cls = true := by
  obtain ⟨a, ha, hclass, -⟩ := attempt_of_isOwnFrame h.attempt hf
  exact ⟨a, ha, hclass⟩

/-- A frame that a node may send and that every block acts on alike, own or another's. -/
theorem LinkGood.commonFrame {blocks : State → State} (h : LinkGood s) (hb : ∀ u, LinkIdle u → LinkIdle (blocks u))
    (hf : ∀ k : FrameKind, kindHasClass k f.cls = true → k ≠ .claim ∧ k ≠ .status) :
    LinkGood (Machine.acceptFrame (isOwnFrame f s) f blocks s) := by
  refine h.acceptFrame (hb _ ?_)
  cases hown : isOwnFrame f s with
  | false => exact h.otherFrameIn
  | true =>
    obtain ⟨a, ha, hclass⟩ := h.held.own_kind hown
    obtain ⟨hclaim, hstatus⟩ := hf a.kind hclass
    exact h.held.ownFrameOut ha hclaim hstatus

theorem LinkGood.claimFrame (h : LinkGood s) (urgent : Bool) (z : Station) (w : Word) (n : Nat) :
    LinkGood (Machine.acceptFrame (isOwnFrame { cls := claimClass urgent, station := z, words := [w] } s)
      { cls := claimClass urgent, station := z, words := [w] }
      (if isOwnFrame { cls := claimClass urgent, station := z, words := [w] } s then ownClaim
        else whenApplied (Machine.peerClaim n)) s) := by
  refine h.acceptFrame ?_
  cases hown : isOwnFrame { cls := claimClass urgent, station := z, words := [w] } s with
  | false => exact holds_whenApplied (P := LinkIdle) h.otherFrameIn (h.peerClaim n)
  | true =>
    obtain ⟨a, ha, hclass⟩ := h.held.own_kind hown
    refine h.held.ownClaim ha ?_
    cases hk : a.kind <;> rw [hk] at hclass <;> cases urgent <;> first | rfl | cases hclass

theorem LinkGood.statusFrame (h : LinkGood s) (z : Station) (w1 w2 w3 w4 : Word) :
    LinkGood (Machine.acceptFrame (isOwnFrame { cls := 5, station := z, words := [w1, w2, w3, w4] } s)
      { cls := 5, station := z, words := [w1, w2, w3, w4] }
      (applyStatus (isOwnFrame { cls := 5, station := z, words := [w1, w2, w3, w4] } s) z w1 w2 w3) s) := by
  refine h.acceptFrame ?_
  cases hown : isOwnFrame { cls := 5, station := z, words := [w1, w2, w3, w4] } s with
  | false => exact h.otherFrameIn.applyStatus z w1 w2 w3
  | true =>
    obtain ⟨a, ha, hclass⟩ := h.held.own_kind hown
    refine LinkIdle.viewed (own := true) (h.held.ownStatus ha ?_) w2 w3
    cases hk : a.kind <;> rw [hk] at hclass <;> first | rfl | cases hclass

end Sys2Proof.Machine
end

section
/-! The events of channels, pressure, panel and timers at the link and the start logic (R12, R58, R79, R94, R103, R114,
R120, R129, R154): the fourth part of O8. -/

namespace Sys2Proof.Machine

variable {s t u : State} {c : ChannelNo}

/-! ### Work that moves no waiting fan -/

theorem WaitKept.of_waits (hclaim : t.starts.claim = s.starts.claim) (hsupply : t.meas.supply = s.meas.supply)
    (hwaits : ∀ d, waitsForSlot s d = true → waitsForSlot t d = true) : WaitKept s t := by
  refine ⟨hclaim, hsupply, fun h => ?_⟩
  obtain ⟨d, hd⟩ := Option.isSome_iff_exists.mp h
  exact Option.isSome_iff_ne_none.mpr (lowestWaiting_ne_none (hwaits d (lowestWaiting_spec hd).1))

theorem WaitKept.refl (s : State) : WaitKept s s := .of_chans rfl rfl rfl

theorem WaitKept.trans (h : WaitKept s t) (k : WaitKept t u) : WaitKept s u :=
  ⟨k.claim.trans h.claim, k.supply.trans h.supply, fun hw => k.waits (h.waits hw)⟩

theorem WaitKept.foldl {α : Type} {f : State → α → State} (h : ∀ s a, WaitKept s (f s a)) (l : List α) (s : State) :
    WaitKept s (l.foldl f s) :=
  foldl_preserves s (WaitKept s) f (fun u a k => k.trans (h u a)) l (.refl s)

/-- The link is told, and a fan waits where one did. -/
structure LinkKept (s t : State) : Prop where
  told  : Notified s t
  waits : WaitKept s t

namespace LinkKept

theorem refl (s : State) : LinkKept s s := ⟨.refl s, .refl s⟩

theorem trans (h : LinkKept s t) (k : LinkKept t u) : LinkKept s u := ⟨h.told.trans k.told, h.waits.trans k.waits⟩

theorem ite {p : Prop} [Decidable p] (h : LinkKept s t) (k : LinkKept s u) : LinkKept s (if p then t else u) :=
  holds_ite (P := LinkKept s) h k

theorem raise (x : Cond) (s : State) : LinkKept s (raise x s) := ⟨.raise x s, .of_lessReports (raise_lessReports s x)⟩

theorem endCond (x : Cond) (s : State) : LinkKept s (endCond x s) := ⟨.endCond x s, .of_lessReports (endCond_lessReports s x)⟩

theorem statusNotice (s : State) : LinkKept s (statusNotice s) :=
  ⟨.statusNotice s, .of_lessReports (statusNotice_lessReports s)⟩

theorem quiet (hctl : t.ctl = s.ctl) (hstarts : t.starts = s.starts) (hlink : t.link = s.link)
    (hstatus : t.status = s.status) (hmeas : t.meas.supply = s.meas.supply) (hchans : t.chans = s.chans) : LinkKept s t :=
  ⟨.quiet hctl hstarts hlink hstatus, .of_chans hstarts hmeas hchans⟩

end LinkKept

theorem LinkGood.linkKept (h : LinkGood s) (k : LinkKept s t) : LinkGood t := h.kept k.told k.waits

/-! ### Sequencers -/

theorem setSeq_notified (c : ChannelNo) (q : Sequencer) (s : State) : Notified s (setSeq c q s) :=
  .of_reports (lessRoles_of_lessSequencing (setSeq_lessSequencing s c q)) (setSeq_reports s c q) (setSeq_spacing c q s)

theorem waitsForSlot_congr {d : ChannelNo} (h : (t.ch d).seq = (s.ch d).seq) : waitsForSlot t d = waitsForSlot s d := by
  unfold waitsForSlot
  rw [h]

theorem setSeq_supply (c : ChannelNo) (q : Sequencer) (s : State) : (setSeq c q s).meas = s.meas := by
  obtain ⟨-, -, -, hmeas, -⟩ := lessSequencing_eq (setSeq_lessSequencing s c q)
  exact hmeas

/-- Another channel than the waiting fan moves. -/
theorem setSeq_linkKept (q : Sequencer) (hc : waitsForSlot s c = false) : LinkKept s (setSeq c q s) := by
  refine ⟨setSeq_notified c q s, .of_waits (by rw [setSeq_starts]) (by rw [setSeq_supply]) fun d hd => ?_⟩
  have hne : c ≠ d := fun e => by rw [e, hd] at hc; cases hc
  rwa [waitsForSlot_congr (s := s) (by rw [setSeq_ch, if_neg hne])]

theorem provingEvent_linkKept (proven : Bool) (c : ChannelNo) (s : State) : LinkKept s (provingEvent proven c s) := by
  have hmoved {st : FanState} {p r : Option Nat} (h : (s.ch c).seq = .fan st p r) (hst : st ≠ .awaitingSlot) (q : Sequencer) :
      LinkKept s (setSeq c q s) := by
    refine setSeq_linkKept q ?_
    unfold waitsForSlot
    rw [h]
    cases st <;> first | rfl | exact absurd rfl hst
  unfold provingEvent
  split
  · next h => exact hmoved h nofun _
  · next h => exact hmoved h nofun _
  · next h => exact hmoved h nofun _
  · next h => exact .ite (hmoved h nofun _) (hmoved h nofun _)
  · exact .refl s

theorem provingExpiry_linkKept (c : ChannelNo) (s : State) : LinkKept s (provingExpiry c s) := by
  unfold provingExpiry
  split
  · next h =>
    have hwaits : waitsForSlot s c = false := by unfold waitsForSlot; rw [h]
    exact .ite (.refl s) (.ite (setSeq_linkKept _ hwaits) (setSeq_linkKept _ hwaits))
  · exact .refl s

theorem setTravel_notified (c : ChannelNo) (q : Sequencer) (s : State) : Notified s (setTravel c q s) :=
  .of_reports (lessRoles_of_lessSequencing (setTravel_lessSequencing s c q)) (setTravel_reports s c q) (setTravel_spacing c q s)

theorem travelExpiry_notified (c : ChannelNo) (s : State) : Notified s (travelExpiry c s) := by
  unfold travelExpiry
  split
  · exact .ite (fun _ => .refl s) fun _ => setTravel_notified _ _ s
  · exact .refl s

theorem runDownExpiry_notified (c : ChannelNo) (s : State) : Notified s (runDownExpiry c s) := by
  unfold runDownExpiry
  split
  · exact .of_reports (lessRoles_of_lessSequencing (enterStopped_lessSequencing s c)) (enterStopped_reports s c)
      (enterStopped_spacing c s)
  · exact .refl s

theorem limitEvent_notified (c : ChannelNo) (s : State) : Notified s (limitEvent c s) := by
  have hmoved (p : Prop) [Decidable p] (q : Sequencer) : Notified s (if p then setTravel c q s else s) :=
    .ite (fun _ => setTravel_notified c q s) fun _ => .refl s
  have hkept (p : Prop) [Decidable p] (q : Sequencer) : Notified s (if p then s else setTravel c q s) :=
    .ite (fun _ => .refl s) fun _ => setTravel_notified c q s
  unfold limitEvent
  dsimp only
  split
  · refine .ite (fun _ => setTravel_notified c _ s) fun _ => ?_
    split
    · exact setTravel_notified c _ s
    · exact hkept _ _
    · exact hkept _ _
    · exact hmoved _ _
    · exact hmoved _ _
    · exact hmoved _ _
  · exact .refl s

theorem LinkGood.inputEvent (h : LinkGood s) (c : ChannelNo) (i : Input) (made : Bool) : LinkGood (inputEvent c i made s) := by
  unfold Machine.inputEvent
  split
  · exact (h.held.notified (limitEvent_notified c s)).startTests
  · exact holds_ite (P := LinkGood) (h.linkKept (provingEvent_linkKept made c s)) h
  · exact h

theorem storeInput_linkKept (c : ChannelNo) (i : Input) (made : Bool) (s : State) : LinkKept s (storeInput c i made s) := by
  refine ⟨.quiet rfl rfl rfl rfl, .of_waits rfl rfl fun d hd => ?_⟩
  rwa [waitsForSlot_congr (storeInput_seq c d i made s)]

/-! ### Containment, pressure and supply -/

theorem swapCond_linkKept (x y : Option Cond) (s : State) : LinkKept s (swapCond x y s) := by
  have hended (u : State) : LinkKept u (endOpt x u) := by
    cases x with
    | none => exact .refl u
    | some c => exact .endCond c u
  have hraised (u : State) : LinkKept u (raiseOpt y u) := by
    cases y with
    | none => exact .refl u
    | some c => exact .raise c u
  exact .ite (.refl s) ((hended s).trans (hraised _))

theorem setContain_linkKept (st : ContainState) (g : Option Nat) (s : State) : LinkKept s (setContain st g s) := by
  have hset : LinkKept s (s.withContain { state := st, grace := g }) := .quiet rfl rfl rfl rfl rfl rfl
  exact .ite hset ((hset.trans (.statusNotice _)).trans (swapCond_linkKept _ _ _))

theorem containComparator_linkKept (s : State) : LinkKept s (containComparator s) := by
  unfold containComparator
  cases s.contain.state with
  | pending | notAchieved => exact .ite (setContain_linkKept _ _ s) (.refl s)
  | achieved => exact .ite (.refl s) (setContain_linkKept _ _ s)
  | notApplicable | unsupervised => exact .refl s

theorem graceExpiry_linkKept (s : State) : LinkKept s (graceExpiry s) := by
  unfold graceExpiry
  split
  · exact .ite (setContain_linkKept _ _ s) (.refl s)
  · exact .refl s

theorem resumeContain_linkKept (s : State) : LinkKept s (resumeContain s) :=
  .ite (.ite (setContain_linkKept _ _ s) (setContain_linkKept _ _ s)) (setContain_linkKept _ _ s)

theorem followLatch_linkKept (x : Cond) (b : Bool) (s : State) : LinkKept s (followLatch x b s) :=
  .ite (.raise x s) (.endCond x s)

theorem passComparator_linkKept (p : PressureNo) (proven : Bool) (s : State) : LinkKept s (passComparator p proven s) := by
  have hall (l : List ChannelNo) : LinkKept s
      (l.foldl (fun s c => if (s.chCfg c).proving = some p then provingEvent proven c s else s) s) :=
    foldl_preserves s (LinkKept s) _ (fun u c k => k.trans (.ite (provingEvent_linkKept proven c u) (.refl u))) l (.refl s)
  unfold passComparator
  cases (s.prCfg p).role with
  | proving => exact hall allChannels
  | boundary => exact containComparator_linkKept s
  | unused => exact .refl s

theorem pairEvent_linkKept (p : PressureNo) (a b : Code) (s : State) : LinkKept s (pairEvent p a b s) := by
  have hstored (x : PressureState) : LinkKept s (s.setPressure p x) := .quiet rfl rfl rfl rfl rfl rfl
  have hfault (q : Prop) [Decidable q] (x : PressureState) (v : Bool) :
      LinkKept s (if q then s.setPressure p x else followLatch (sensorFault p) v (s.setPressure p x)) :=
    .ite (hstored x) ((hstored x).trans (followLatch_linkKept _ _ _))
  exact .ite (hfault _ _ _) ((hfault _ _ _).trans (passComparator_linkKept _ _ _))

theorem followSupply_linkKept (x : Supply) (s : State) : LinkKept s (followSupply x s) := by
  cases x with
  | normal => exact (LinkKept.endCond _ s).trans (.endCond _ _)
  | low => exact (LinkKept.endCond _ s).trans (.raise _ _)
  | fail => exact (LinkKept.raise _ s).trans (.raise _ _)

theorem LinkGood.supplyEvent (h : LinkGood s) (v : Nat) : LinkGood (supplyEvent v s) := by
  have hmoved (x : Supply) : Notified s (followSupply x (s.withMeas { s.meas with supply := x })) :=
    .trans (t := s.withMeas { s.meas with supply := x }) (.quiet rfl rfl rfl rfl) (followSupply_linkKept x _).told
  exact holds_ite (P := LinkGood) h (h.held.notified (hmoved _)).startTests

/-! ### Panel and peers -/

theorem LinkGood.alarmEvent (h : LinkGood s) (active : Bool) : LinkGood (alarmEvent active s) := by
  have hnoticed : LinkGood (Machine.statusNotice s) := h.linkKept (.statusNotice s)
  unfold Machine.alarmEvent
  dsimp only
  split
  · split
    · next hm => exact hnoticed.declarationCheck.held.enterActive hm
    · exact hnoticed.declarationCheck
  · exact hnoticed

theorem setPeer_linkKept (z : Nat) (x : Peer) (s : State) : LinkKept s (s.setPeer z x) := by
  unfold State.setPeer
  split
  · exact .quiet rfl rfl rfl rfl rfl rfl
  · exact .refl s

theorem LinkGood.silenceExpiry (h : LinkGood s) (z : Nat) : LinkGood (silenceExpiry z s) := by
  have hsilent : LinkGood (s.setPeer z (silentPeer (s.peer z))) := h.linkKept (setPeer_linkKept z _ s)
  exact holds_ite (P := LinkGood)
    (holds_ite (P := LinkGood) (hsilent.linkKept (.raise (neighbourSilent z) _)).recompute hsilent) h

theorem acknowledge_linkKept (b : Bool) (s : State) : LinkKept s (acknowledge b s) := by
  unfold acknowledge
  split
  · exact .refl s
  · exact .trans (t := refreshTrouble (s.withTrouble (s.trouble.refilled b))) (.quiet rfl rfl rfl rfl rfl rfl)
      (.statusNotice _)

/-! ### The link's own timers (R71, R120) -/

/-- The period timer has run out (R120). -/
theorem LinkGood.periodExpiry (h : LinkGood s) (hp : s.status.period.isSome = true) :
    LinkGood (queueStatus (s.withStatus { s.status with period := none })) := by
  have hm := h.held.period hp
  exact queueStatus_linkGood (h.withPeriod hm (atMost_none _)) hm

/-- The hold-off does not run while a claim is present (R71). -/
theorem LinkHeld.absent_of_holdOff (h : LinkHeld s) (hrun : s.starts.holdOff.isSome = true) : s.starts.claim = .absent := by
  have hclaim := h.claim
  cases hc : s.starts.claim with
  | absent => rfl
  | queued =>
    obtain ⟨-, -, -, hstopped⟩ := (claimHeld_of_queued hc).mp hclaim
    rw [hstopped] at hrun
    cases hrun
  | sending =>
    obtain ⟨-, -, hstopped, -⟩ := (claimHeld_of_sending hc).mp hclaim
    rw [hstopped] at hrun
    cases hrun

theorem LinkGood.holdOffExpiry (h : LinkGood s) (hrun : s.starts.holdOff.isSome = true) :
    LinkGood (Machine.startTests (s.withStarts { s.starts with holdOff := none })) := by
  have habsent := h.held.absent_of_holdOff hrun
  exact (h.held.setStarts (x := { s.starts with holdOff := none }) habsent habsent).startTests

/-! ### Time (R71, R120) -/

/-- The timers alone move, and none that stood still runs. -/
theorem LinkGood.counted (h : LinkGood s) (hlink : t.link = s.link) (hmode : t.ctl.mode = s.ctl.mode)
    (hstation : t.station = s.station) (hclaim : t.starts.claim = s.starts.claim)
    (hholdOff : s.starts.holdOff = none → t.starts.holdOff = none) (hcapture : t.status.captured = s.status.captured)
    (hearly : t.status.earlyPending = s.status.earlyPending) (hruns : t.status.period.isSome = s.status.period.isSome)
    (hmost : AtMost periodTime t.status.period) (hwaits : WaitKept s t) : LinkGood t := by
  have hwatch : t.lineWatch = s.lineWatch := by unfold State.lineWatch; rw [hlink]
  have hwire (k : FrameKind) : t.onWire k = s.onWire k := by unfold State.onWire; rw [hlink]
  refine ⟨⟨?_, by rw [hwatch]; exact h.held.line, ?_, ?_, by rw [hlink]; exact h.held.count, ?_, ?_, ?_, hmost⟩,
    h.meant.kept hwaits⟩
  · have hattempt := h.held.attempt
    unfold AttemptLaw at hattempt ⊢
    rwa [hlink, hstation, hmode]
  · have hheld := h.held.claim
    cases hc : s.starts.claim with
    | absent =>
      refine (claimHeld_of_absent (hclaim.trans hc)).mpr ?_
      rw [hlink]
      exact (claimHeld_of_absent hc).mp hheld
    | queued =>
      obtain ⟨hqueued, hoff, hactive, hstopped⟩ := (claimHeld_of_queued hc).mp hheld
      exact (claimHeld_of_queued (hclaim.trans hc)).mpr
        ⟨by rw [hlink, hqueued], by rw [hwire, hoff], by rw [hmode, hactive], hholdOff hstopped⟩
    | sending c v n =>
      obtain ⟨hqueued, hactive, hstopped, hsent⟩ := (claimHeld_of_sending hc).mp hheld
      refine (claimHeld_of_sending (hclaim.trans hc)).mpr
        ⟨by rw [hlink, hqueued], by rw [hmode, hactive], hholdOff hstopped, ?_⟩
      unfold ownFrame at hsent ⊢
      rw [hlink, hstation, hsent]
  · have hqueue := h.held.queue
    unfold QueueLaw at hqueue ⊢
    rwa [hlink, hmode]
  · rw [hcapture, hwire]; exact h.held.capture
  · rw [hearly, hwire]; exact h.held.early
  · rw [hruns, hmode]; exact h.held.period

theorem waitsForSlot_tick {d : ChannelNo} {k : ChannelKind} {x : Supply} (h : (t.ch d).seq = tickSeq k x (s.ch d).seq) :
    waitsForSlot t d = waitsForSlot s d := by
  unfold waitsForSlot
  rw [h]
  cases (s.ch d).seq with
  | stopped | damper => rfl
  | fan st p r => cases st <;> rfl

theorem LinkGood.passMs (h : LinkGood s) : LinkGood (passMs s) := by
  obtain ⟨-, hlink, hmeas, -⟩ := passMs_rest s
  have hsupply : (Machine.passMs s).meas.supply = s.meas.supply := by rw [hmeas]
  cases hr : s.inReset with
  | true =>
    have e := passMs_inReset hr
    refine h.kept (.quiet (by rw [e]) (by rw [e]) hlink (by rw [e])) (.of_waits (by rw [e]) hsupply fun d hd => ?_)
    rwa [waitsForSlot_congr (s := s) (by rw [passMs_ch, hr]; rfl)]
  | false =>
    have e := passMs_outside hr
    refine h.counted hlink (by rw [e]) ?_ (by rw [e]) (fun hstopped => ?_) (by rw [e]) (by rw [e]) ?_ ?_ ?_
    · rw [e]
      rfl
    · rw [e]
      exact congrArg (countDown 1) hstopped
    · rw [e]
      exact countDown_isSome 1 _
    · rw [e]
      exact atMost_countDown 1 h.held.most
    · refine .of_waits (by rw [e]) hsupply fun d hd => ?_
      rwa [waitsForSlot_tick (s := s) (by rw [passMs_ch, hr]; rfl)]

/-! ### Resets (R153, R156, R173, R174) -/

theorem resetLink_blank {s : State} (hlink : s.link = State.reset.link) (hclaim : s.starts.claim = .absent)
    (hcapture : s.status.captured = none) (hearly : s.status.earlyPending = false) : LinkBlank s := by
  have hline : LineLaw s.lineWatch := by
    unfold State.lineWatch
    rw [hlink]
    exact ⟨Nat.zero_lt_succ 9, nofun⟩
  refine ⟨?_, ?_, hline, ?_, hclaim, ?_, hcapture, hearly⟩ <;> rw [hlink]
  · rfl
  · nofun
  · rfl
  · exact ⟨Nat.zero_le _, nofun, nofun⟩

/-- In reset the link holds its reset values, and nothing is claimed or captured. -/
theorem LinkHeld.blank_of_resetLink (h : LinkHeld s) (hlink : s.link = State.reset.link) : LinkBlank s := by
  have hclaim := h.claim
  have hempty : s.link.queue.claim = false := by rw [hlink]; rfl
  have hwire : s.onWire .status = false := by unfold State.onWire; rw [hlink]; rfl
  have hcapture := h.capture
  have hearly := h.early
  rw [hwire] at hcapture hearly
  refine resetLink_blank hlink ?_ (by simpa using hcapture) (by simpa using hearly)
  cases hc : s.starts.claim with
  | absent => rfl
  | queued =>
    obtain ⟨hqueued, -⟩ := (claimHeld_of_queued hc).mp hclaim
    rw [hempty] at hqueued
    cases hqueued
  | sending =>
    obtain ⟨hqueued, -⟩ := (claimHeld_of_sending hc).mp hclaim
    rw [hempty] at hqueued
    cases hqueued

theorem LinkGood.resetHeld (h : LinkGood s) : LinkGood (resetHeld s) ∧ (Machine.resetHeld s).link = State.reset.link :=
  ⟨(resetLink_blank (s := Machine.resetHeld s) rfl rfl rfl rfl).good h.held.period h.held.most, rfl⟩

theorem coldReset_linkGood (p : StrapPins) (s : State) : LinkGood (coldReset p s) :=
  LinkBlank.sampleStraps (s := coldState p s) (resetLink_blank rfl rfl rfl rfl) rfl p

theorem resumeConditions_linkKept (s : State) : LinkKept s (resumeConditions s) :=
  ((followSupply_linkKept _ s).trans (followLatch_linkKept _ _ _)).trans (followLatch_linkKept _ _ _)

theorem raiseSilent_linkKept (s : State) : LinkKept s (raiseSilent s) :=
  foldl_preserves s (LinkKept s) (fun s z => if isSilent s z then raise (neighbourSilent z) s else s)
    (fun u _ k => k.trans (.ite (.raise _ u) (.refl u))) _ (.refl s)

theorem LinkGood.resumeDeclaration (h : LinkGood s) : LinkGood (resumeDeclaration s) := by
  have hresumed : LinkGood (s.withReg (resumeOwed s.station s.reg)) := h.linkKept (.quiet rfl rfl rfl rfl rfl rfl)
  exact holds_ite (P := LinkGood) ⟨hresumed.held.placeDeclare, hresumed.meant.kept (placeDeclare_waitKept _)⟩ h.declarationCheck

/-- The hold-off starts where no claim is held (R87). -/
theorem LinkGood.withHoldOff (h : LinkGood s) (habsent : s.starts.claim = .absent) (x : Option Nat) :
    LinkGood (s.withStarts { s.starts with holdOff := x }) :=
  ⟨h.held.setStarts (x := { s.starts with holdOff := x }) habsent habsent, fun hc => absurd (habsent.symm.trans hc) nofun⟩

theorem LinkGood.resumed (h : LinkGood s) :
    LinkGood (resumeContain (Machine.recompute (Machine.resumeDeclaration (raiseSilent (resumeConditions s))))) :=
  ((h.linkKept (resumeConditions_linkKept s)).linkKept (raiseSilent_linkKept _)).resumeDeclaration.recompute.linkKept
    (resumeContain_linkKept _)

theorem startStagger_starts (s : State) : (startStagger s).starts = s.starts := by
  unfold startStagger
  split
  · obtain ⟨-, -, -, -, hstarts, -⟩ := lessReports_eq (queueStatus_lessReports (s.withStatus { s.status with period := none }))
    exact hstarts
  · rfl

/-- The resumption of every block into LISTEN or ACTIVE: the hold-off runs in full and no claim is held (R87, R120). -/
theorem LinkGood.resumeBlocks (h : LinkGood s) (hm : s.ctl.mode.sends = true) (hstation : s.station ≤ 63)
    (habsent : s.starts.claim = .absent) : LinkGood (resumeBlocks s) := by
  have hmeasured : LinkGood (resumePeers (resumeMeasure s)) := h.linkKept (.quiet rfl rfl rfl rfl rfl rfl)
  have hstarts : (Machine.startStagger (resumePeers (resumeMeasure s))).starts.claim = .absent := by
    rw [startStagger_starts]
    exact habsent
  exact ((hmeasured.startStagger hm hstation).withHoldOff hstarts _).resumed

theorem resumeSequencers_notified (before : Vector Channel 12) (s : State) : Notified s (resumeSequencers before s) :=
  .of_reports (lessRoles_of_lessSequencing (resumeSequencers_lessSequencing s before)) (resumeSequencers_reports s before)
    (resumeSequencers_spacing before s)

/-- A blank node in a mode that sends. -/
theorem LinkBlank.sending (h : LinkBlank s) (hm : s.ctl.mode.sends = true) (hmost : AtMost periodTime s.status.period) :
    LinkGood s := h.good (fun _ => hm) hmost

theorem LinkBlank.resumeActive (h : LinkBlank s) (hmost : AtMost periodTime s.status.period) (hstation : s.station ≤ 63) :
    LinkGood (resumeActive s) := by
  have hset : LinkBlank (setMode .active ((haltSequencers s).withCtl
      { (haltSequencers s).ctl with listenTimer := none, quietTimer := none, origin := none })) := h.moved rfl rfl rfl rfl
  have hblocks := (hset.sending rfl hmost).resumeBlocks rfl hstation h.claim
  exact ((hblocks.held.notified (resumeSequencers_notified s.chans _)).notified (completeListening_notified _)).startTests

theorem LinkBlank.resumeListen (h : LinkBlank s) (hmost : AtMost periodTime s.status.period) (hstation : s.station ≤ 63) :
    LinkGood (resumeListen s) := by
  have hset : LinkBlank (setMode .listen ((stopSequencers s).withCtl
      { (stopSequencers s).ctl with listenTimer := some listenTime, quietTimer := none, origin := none })) :=
    h.moved rfl rfl rfl rfl
  refine ((hset.sending rfl hmost).resumeBlocks rfl hstation h.claim).endListenOnAlarm ?_
  rw [resumeBlocks_ctl]
  rfl

/-- The release of a warm reset (R173). -/
theorem LinkBlank.warmReset (h : LinkBlank s) (hperiod : s.status.period.isSome = true → s.ctl.mode.sends = true)
    (hmost : AtMost periodTime s.status.period) (hstation : s.station ≤ 63) : LinkGood (warmReset s) := by
  have hreleased : LinkBlank (releaseReset s) := h.moved rfl rfl rfl rfl
  have hstopped (hm : s.ctl.mode.sends = false) : s.status.period = none := by
    rw [hm] at hperiod
    simpa using hperiod
  cases hm : s.ctl.mode with
  | start =>
    rw [warmReset_of_start hm]
    exact hreleased.sampleStraps (hstopped (by rw [hm]; rfl)) _
  | config =>
    rw [warmReset_of_config hm]
    exact hreleased.good hperiod hmost
  | listen =>
    rw [warmReset_of_listen hm]
    exact hreleased.resumeListen hmost hstation
  | active =>
    rw [warmReset_of_active (.inl hm)]
    exact hreleased.resumeActive hmost hstation
  | mute =>
    rw [warmReset_of_active (.inr hm)]
    exact hreleased.resumeActive hmost hstation
  | lockout =>
    rw [warmReset_of_lockout hm]
    have hsends : (releaseReset s).ctl.mode.sends = true := by
      change s.ctl.mode.sends = true
      rw [hm]
      rfl
    obtain ⟨hctl, -⟩ := lessReports_eq (raise_lessReports (releaseReset s) (plainCond .configBad))
    exact (raise_linkGood (hreleased.sending hsends hmost) _).startStagger (by rw [hctl]; exact hsends)
      (by rw [station_congr hctl]; exact hstation)

end Sys2Proof.Machine
end

section
/-! O8: every command and every millisecond keep the law of the link, the claim record and the status composer. -/

namespace Sys2Proof.Machine

variable {s t u : State}

theorem ModeLaw.station_le (h : ModeLaw s) : s.station ≤ 63 := by
  obtain ⟨-, -, -, -, -, -, hstraps, -⟩ := h
  cases hx : s.ctl.straps with
  | none => simp [State.station, hx]
  | some x => simpa [State.station, hx] using (hstraps x (by simp [hx])).1

theorem LinkGood.configRead (h : LinkGood s) (hmode : ModeLaw s) (b : ConfigBytes) (hm : s.ctl.mode = .config) :
    LinkGood (configRead b s) := by
  obtain ⟨hblank, hperiod⟩ := h.held.blank (by rw [hm]; rfl)
  unfold Machine.configRead
  split
  · have hread : LinkBlank (s.withCtl { s.ctl with config := some (decodeConfig s.station b) }) :=
      hblank.moved rfl rfl rfl rfl
    exact hread.enterListen hperiod hmode.station_le
  · exact hblank.enterLockout hperiod hmode.station_le

theorem LinkGood.moved (h : LinkGood s) (hctl : t.ctl = s.ctl) (hstarts : t.starts = s.starts) (hlink : t.link = s.link)
    (hstatus : t.status = s.status) (hmeas : t.meas.supply = s.meas.supply) (hchans : t.chans = s.chans) : LinkGood t :=
  h.linkKept (.quiet hctl hstarts hlink hstatus hmeas hchans)

/-- In reset no claim is held, and none can become unmeant (R153). -/
theorem LinkGood.resetHold5s (h : LinkGood s) (hlink : s.link = State.reset.link) (x : Panel) :
    LinkGood ((allOutputsOff s).withPanel x) := by
  have hmoved : LinkBlank ((allOutputsOff s).withPanel x) := (h.held.blank_of_resetLink hlink).moved rfl rfl rfl rfl
  exact hmoved.good h.held.period h.held.most

theorem exec_linkGood {i : Instr} (hmode : ModeLaw s) (h : LinkGood s) (hreset : s.inReset = true → s.link = State.reset.link)
    (e : exec i s = .next t) : LinkGood t := by
  cases i with
  | powerUp p => cases e; exact coldReset_linkGood p s
  | coldReset p => cases e; exact coldReset_linkGood p s
  | resetHeld =>
    cases e
    exact holds_outside (P := LinkGood) h (h.resetHeld.1.moved rfl rfl rfl rfl rfl rfl)
  | resetHold5s =>
    cases e
    split
    · next hr => exact h.resetHold5s (hreset hr) _
    · exact h
  | warmReset =>
    cases e
    split
    · next hr =>
      exact settleRaises_linkGood
        ((h.held.blank_of_resetLink (hreset hr.1)).warmReset h.held.period h.held.most hmode.station_le) s
    · exact h
  | configReadDone b =>
    cases e
    refine holds_outside (P := LinkGood) h ?_
    split
    · next hm => exact settleRaises_linkGood (h.configRead hmode b hm) s
    · exact h
  | listenTimerExpiry =>
    cases e
    refine holds_outside (P := LinkGood) h ?_
    split
    · next hm => exact settleRaises_linkGood (h.held.enterActive hm.1) s
    · exact h
  | muteQuietTimerExpiry =>
    cases e
    refine holds_outside (P := LinkGood) h ?_
    split
    · next hm => exact settleRaises_linkGood (h.leaveMute hm.1 hmode.station_le) s
    · exact h
  | lineIdle levels =>
    cases e
    refine holds_outside (P := LinkGood) h ?_
    split
    · next hm => exact h.judgeLine hm.2 levels
    · exact h
  | attemptStart =>
    cases e
    refine holds_outside (P := LinkGood) h ?_
    split
    · next hstart =>
      split
      · next k hk =>
        simp only [mayStart, Bool.and_eq_true, Bool.not_eq_true', Option.isNone_iff_eq_none] at hstart
        obtain ⟨⟨⟨-, hattempt⟩, hwait⟩, hsends⟩ := hstart
        exact h.sendKind hsends hattempt hwait hk
      · exact h
    · exact h
  | arbitrationLost bit =>
    cases e
    refine holds_outside (P := LinkGood) h ?_
    cases ha : s.link.attempt with
    | none =>
      have hidle : stopSending bit s = s := by unfold stopSending; rw [ha]
      rwa [hidle]
    | some a =>
      obtain ⟨hheld, -, hmeant⟩ := h.held.stopSending bit
      exact ⟨hheld, hmeant (by rw [ha]; rfl)⟩
  | duplicateKeyStop bit =>
    cases e
    refine holds_outside (P := LinkGood) h ?_
    split
    · next ha =>
      obtain ⟨hheld, hnone, hmeant⟩ := h.held.stopSending bit
      exact LinkGood.evidence ⟨hheld, hmeant ha⟩ hnone
    · exact h
  | failedAttempt =>
    cases hr : s.inReset with
    | true =>
      cases e
      rwa [outside_of_inReset hr]
    | false =>
      cases ha : s.link.attempt with
      | none =>
        cases e
        rw [outside_of_not_inReset hr, ha]
        exact h
      | some a =>
        obtain rfl := Host.Outcome.next.inj ((exec_failedAttempt hr ha).symm.trans e)
        exact h.held.failed ha
  | retryWaitEnd b =>
    cases e
    refine holds_outside (P := LinkGood) h ?_
    split
    · next hwait => exact h.retryWaitEnd hwait b
    · exact h
  | clearAccepted z w =>
    cases e
    refine h.commonFrame (fun u hu => holds_whenApplied (P := LinkIdle) hu (hu.registerEvent _).declarationCheck) fun k hk => ?_
    obtain rfl := clear_of_class hk
    exact ⟨nofun, nofun⟩
  | overrideAccepted z w =>
    cases e
    exact h.acceptFrame (holds_whenApplied (P := LinkIdle) h.otherFrameIn (h.otherFrameIn.applyOverride w))
  | fireDeclareAccepted z ws =>
    cases e
    refine h.commonFrame (fun u hu => holds_whenApplied (P := LinkIdle) hu (hu.applyDeclare _ z ws)) fun k hk => ?_
    obtain rfl := kind_of_class hk
    exact ⟨nofun, nofun⟩
  | startClaimAccepted urgent z w => cases e; exact h.claimFrame urgent z w _
  | statusAccepted z w1 w2 w3 w4 => cases e; exact h.statusFrame z w1 w2 w3 w4
  | otherFrameAccepted cls z ws => cases e; exact h.acceptFrame h.otherFrameIn
  | isolatedDeclarationTimerExpiry =>
    cases e; exact holds_outside (P := LinkGood) h (holds_ite (P := LinkGood) (h.registerEvent _) h)
  | alarmChange active =>
    cases e
    have htaken : LinkGood (s.withPanel { s.panel with alarm := takeLevel active }) := h.moved rfl rfl rfl rfl rfl rfl
    refine holds_ite (P := LinkGood) h (settleRaises_linkGood ?_ s)
    exact holds_outside (P := LinkGood) htaken (htaken.alarmEvent active)
  | panelResetPulse =>
    cases e
    have htaken : LinkGood (s.withPanel { s.panel with panelReset := takePulse s.panel.panelReset }) :=
      h.moved rfl rfl rfl rfl rfl rfl
    refine holds_ite (P := LinkGood) h (holds_outside (P := LinkGood) htaken ?_)
    split
    · next hm => exact ⟨htaken.held.enqueue hm nofun, htaken.meant.kept (.of_chans rfl rfl rfl)⟩
    · exact htaken
  | ackPulse b =>
    cases e
    have htaken : LinkGood (s.withPanel { s.panel with ack := takePulse s.panel.ack }) := h.moved rfl rfl rfl rfl rfl rfl
    exact holds_ite (P := LinkGood) h (holds_outside (P := LinkGood) htaken (htaken.linkKept (acknowledge_linkKept b _)))
  | statusPeriodTimerExpiry =>
    cases e
    refine holds_outside (P := LinkGood) h ?_
    split
    · next hp => exact h.periodExpiry hp
    · exact h
  | spacingTimerExpiry z => cases e; exact holds_outside (P := LinkGood) h (h.linkKept (setPeer_linkKept _ _ s))
  | silenceTimerExpiry z =>
    cases e; exact holds_outside (P := LinkGood) h (settleRaises_linkGood (h.silenceExpiry z.toNat) s)
  | holdOffExpiry =>
    cases e
    refine holds_outside (P := LinkGood) h ?_
    split
    · next hrun => exact h.holdOffExpiry hrun
    · exact h
  | provingTimerExpiry c => cases e; exact holds_outside (P := LinkGood) h (h.linkKept (provingExpiry_linkKept c s))
  | runDownTimerExpiry c =>
    cases e; exact holds_outside (P := LinkGood) h (h.held.notified (runDownExpiry_notified c s)).startTests
  | travelTimerExpiry c =>
    cases e; exact holds_outside (P := LinkGood) h (h.held.notified (travelExpiry_notified c s)).startTests
  | provingSwitchChange c made =>
    cases e
    have hstored := h.linkKept (storeInput_linkKept c .a made s)
    exact holds_ite (P := LinkGood) h (holds_outside (P := LinkGood) hstored (hstored.inputEvent c .a made))
  | limitChange c i made =>
    cases e
    have hstored := h.linkKept (storeInput_linkKept c i made s)
    exact holds_ite (P := LinkGood) h (holds_outside (P := LinkGood) hstored (hstored.inputEvent c i made))
  | graceTimerExpiry => cases e; exact holds_outside (P := LinkGood) h (h.linkKept (graceExpiry_linkKept s))
  | conversionADone a =>
    cases e
    refine holds_outside (P := LinkGood) h ?_
    split
    · exact h.moved rfl rfl rfl rfl rfl rfl
    · exact h
  | pairComplete b =>
    cases e
    refine holds_outside (P := LinkGood) h ?_
    split
    · next p a _ =>
      have hscan : LinkGood (setScan (scanFrom s (p.val + 1)) s) := h.moved rfl rfl rfl rfl rfl rfl
      have hpair := hscan.linkKept (pairEvent_linkKept p a b _)
      exact holds_ite (P := LinkGood) (settleRaises_linkGood hpair s) hpair
    · exact h
  | supplySample k =>
    cases e
    refine holds_outside (P := LinkGood) h ?_
    split
    · have hscan : LinkGood (setScan (scanFrom s 0) s) := h.moved rfl rfl rfl rfl rfl rfl
      exact hscan.supplyEvent _
    · exact h
  | pulseLineReturnInactive line => cases e; cases line <;> exact h.moved rfl rfl rfl rfl rfl rfl

/-! ### The link in reset (R153) -/

/-- RESET_HELD alone takes the line as held (R156). -/
theorem exec_held {i : Instr} (hi : i ≠ .resetHeld) (e : exec i s = .next t) : t.inReset = true → s.inReset = true := by
  have hframe {own : Bool} {f : Frame} {blocks : State → State} (hb : ∀ u, RegisterRun u (blocks u)) :
      (acceptFrame own f blocks s).inReset = true → s.inReset = true := (acceptFrame_run s own f hb).held
  have hrun {f : State → State} (hf : RegisterRun s (f s)) : (s.outside f).inReset = true → s.inReset = true :=
    (RegisterRun.outside hf).held
  by_cases hq : quiet i = true
  · rw [(exec_quiet hq e).held]
    exact id
  cases i with
  | powerUp p | coldReset p =>
    cases e
    exact fun hr => absurd (hr.symm.trans (coldReset_held p s)) nofun
  | resetHeld => exact absurd rfl hi
  | warmReset =>
    cases e
    split
    · exact (RegisterRun.settled (warmReset_run s)).held
    · exact id
  | configReadDone b =>
    cases e
    refine hrun ?_
    split
    · next hm => exact .settled (configRead_run s b (by rw [hm]; rfl))
    · exact .refl s
  | listenTimerExpiry => cases e; exact hrun (.ite (.settled (enterActive_run s)) (.refl s))
  | muteQuietTimerExpiry => cases e; exact hrun (.ite (.settled (leaveMute_run s)) (.refl s))
  | duplicateKeyStop bit =>
    cases e
    exact hrun (.ite (.after (evidence_run _) (.of_ownKept (stopSending_ownKept s bit))) (.refl s))
  | clearAccepted z w => cases e; exact hframe fun u => .whenApplied (applyClear_run u)
  | overrideAccepted z w => cases e; exact hframe fun u => .whenApplied fun _ => .of_ownKept (applyOverride_ownKept u w)
  | fireDeclareAccepted z ws => cases e; exact hframe fun u => .whenApplied (applyDeclare_run u _ z ws)
  | startClaimAccepted urgent z w =>
    cases e
    refine hframe fun u => ?_
    split
    · exact .of_ownKept (.of_lessSequencing (ownClaim_lessSequencing u))
    · exact .whenApplied fun _ => .of_ownKept (.of_lessSequencing (peerClaim_lessSequencing u _))
  | statusAccepted z w1 w2 w3 w4 => cases e; exact hframe fun u => applyStatus_run u _ z w1 w2 w3
  | otherFrameAccepted cls z ws => cases e; exact hframe fun u => .refl u
  | isolatedDeclarationTimerExpiry =>
    cases e
    have hevent (new : IncidentRegister) : (registerEvent new s).inReset = s.inReset := by
      obtain ⟨-, -, -, -, -, hpanel, -⟩ := lessRoles_eq (registerEvent_lessRoles s new)
      unfold State.inReset
      rw [hpanel]
      rfl
    exact holds_outside (P := fun u => u.inReset = true → s.inReset = true) id
      (holds_ite (P := fun u => u.inReset = true → s.inReset = true) (by rw [hevent]; exact id) id)
  | alarmChange active =>
    cases e
    refine RegisterRun.held (.ite (.refl s) (.settled ?_))
    exact .after (.outside (alarmEvent_run _ active)) (.moved rfl rfl id id)
  | _ => exact absurd rfl hq

/-- In reset no command moves the link, but for the release (R153). -/
theorem exec_link_inReset {i : Instr} (hr : s.inReset = true) (e : exec i s = .next t) (ht : t.inReset = true) :
    t.link = s.link := by
  have hidle (u : State) (f : State → State) (hu : u.inReset = true) (hlink : u.link = s.link) : (u.outside f).link = s.link := by
    rw [outside_of_inReset hu, hlink]
  cases hback : heldBack i with
  | true =>
    obtain rfl := Host.Outcome.next.inj ((exec_heldBack hback hr).symm.trans e)
    rfl
  | false =>
    cases i with
    | powerUp p | coldReset p => cases e; exact absurd (ht.symm.trans (coldReset_held p s)) nofun
    | resetHold5s => cases e; exact holds_ite (P := fun u => u.link = s.link) rfl rfl
    | warmReset =>
      cases e
      split at ht
      · rw [(settleRaises_ownKept s _).held] at ht
        exact absurd (ht.symm.trans (warmReset_held s)) nofun
      · next hf => rw [if_neg hf]
    | alarmChange active =>
      cases e
      exact holds_ite (P := fun u => u.link = s.link) rfl ((settleRaises_link s _).trans
        (hidle (s.withPanel { s.panel with alarm := takeLevel active }) _ hr rfl))
    | panelResetPulse =>
      cases e
      exact holds_ite (P := fun u => u.link = s.link) rfl
        (hidle (s.withPanel { s.panel with panelReset := takePulse s.panel.panelReset }) _ hr rfl)
    | ackPulse b =>
      cases e
      exact holds_ite (P := fun u => u.link = s.link) rfl
        (hidle (s.withPanel { s.panel with ack := takePulse s.panel.ack }) _ hr rfl)
    | pulseLineReturnInactive line => cases e; cases line <;> rfl
    | provingSwitchChange c made =>
      cases e
      exact holds_ite (P := fun u => u.link = s.link) rfl (hidle (storeInput c .a made s) _ hr rfl)
    | limitChange c i made =>
      cases e
      exact holds_ite (P := fun u => u.link = s.link) rfl (hidle (storeInput c i made s) _ hr rfl)
    | _ => cases hback

/-- A node in reset has the link at its reset values (R153). -/
theorem exec_resetLink {i : Instr} (h : LinkGood s) (hreset : s.inReset = true → s.link = State.reset.link)
    (e : exec i s = .next t) (ht : t.inReset = true) : t.link = State.reset.link := by
  by_cases hi : i = .resetHeld
  · subst hi
    cases e
    cases hr : s.inReset with
    | true =>
      rw [outside_of_inReset hr]
      exact hreset hr
    | false =>
      rw [outside_of_not_inReset hr]
      exact h.resetHeld.2
  · have hr := exec_held hi e ht
    rw [exec_link_inReset hr e ht, hreset hr]

end Sys2Proof.Machine

open Sys2Proof Sys2Proof.Machine in
/-- Settles O8: notices move STATUS alone, the start tests leave no claim unmeant, an attempt ends with its captures
discarded, and the entries to the modes that do not send leave a blank link. -/
theorem stepKeepsLinkLaw : Obligations.StepKeepsLinkLaw := by
  intro s t hmode h e
  obtain ⟨hheld, hmeant, hreset⟩ := linkLaw_iff.mp h
  rcases step_cases e with ⟨i, rest, hi⟩ | rfl
  · have hgood : LinkGood (s.withPending rest) := LinkGood.moved ⟨hheld, hmeant⟩ rfl rfl rfl rfl rfl rfl
    obtain ⟨hheld', hmeant'⟩ := exec_linkGood (s := s.withPending rest) hmode hgood hreset hi
    refine linkLaw_iff.mpr ⟨hheld', hmeant', fun ht => ?_⟩
    exact exec_resetLink hgood hreset hi ht
  · obtain ⟨hheld', hmeant'⟩ := LinkGood.passMs ⟨hheld, hmeant⟩
    obtain ⟨-, hlink, -⟩ := passMs_rest s
    refine linkLaw_iff.mpr ⟨hheld', hmeant', fun ht => ?_⟩
    rw [hlink]
    exact hreset (by rwa [passMs_held] at ht)
end

section
/-! The state tables of the sequencers with some channels still to be told of a change: the layer under O7 (R46 to R48, R59,
R64, R65, R67, R70). -/

namespace Sys2Proof.Machine

variable {s t u : State} {c d e : ChannelNo} {i j p q : ChannelNo → Prop} {idle told : Prop}

/-! ### What the laws of a channel read -/

/-- The timers of a fan's state (R65, R79, R83). -/
def FanTimed (k : ChannelConfig) (st : FanState) (proving runDown : Option Nat) : Prop :=
  (match st with
    | .starting => proving.isSome = true ∧ AtMost (k.time1 * 1000) proving
    | _ => proving = none)
  ∧ match st with
    | .stopping => runDown.isSome = true ∧ AtMost (k.time2 * 1000) runDown
    | _ => runDown = none

/-- The target that a fan's state goes with (R65, R67). -/
def FanMeant (target : Target) : FanState → Prop
  | .stopped => target = .off
  | .stopping => True
  | _ => target = .on

/-- The interlocks of a waiting fan (R67, R70). -/
def FanPlaced (s : State) (c : ChannelNo) : FanState → Prop
  | .awaitingSlot => interlocksAtTarget s c = true
  | .blocked => interlocksAtTarget s c = false
  | .awaitingInterlock => interlocksAtTarget s c = false ∧ interlockFaulted s c = false
  | _ => True

theorem fanLaw_iff {st : FanState} {x y : Option Nat} :
    FanLaw s c st x y ↔ FanTimed (s.chCfg c) st x y ∧ FanMeant (s.ch c).target st ∧ FanPlaced s c st :=
  and_assoc.symm

/-- The law of a channel, or, where the channel is still to be told of a change of target, what the change has left of it;
`idle` allows a stopped sequencer that is still to be started. It is
irreducible so that its match on the channel's sequencer is opened by its three equations alone. -/
@[irreducible] def SettledAt (idle told : Prop) (s : State) (c : ChannelNo) : Prop :=
  match (s.ch c).seq with
  | .stopped => idle ∨ ((s.ch c).output = false ∧ (s.running = true → (s.chCfg c).kind = .unused))
  | .damper st x =>
    s.running = true ∧ (s.chCfg c).kind.isDamper = true ∧ (s.ch c).output = decide ((s.ch c).target = .on)
      ∧ (TravelLaw s c st x ∨ (told ∧ (st = .limitConflict → x = none)))
  | .fan st x y =>
    s.running = true ∧ (s.chCfg c).kind.isFan = true ∧ (s.ch c).output = st.outputOn ∧ FanTimed (s.chCfg c) st x y
      ∧ FanPlaced s c st ∧ (told ∨ FanMeant (s.ch c).target st)

/-- Every channel is settled but for those in i, which are still to be started, and those in p, which are still to be told. -/
def Settled (i p : ChannelNo → Prop) (s : State) : Prop := ∀ c : ChannelNo, SettledAt (i c) (p c) s c

theorem settledAt_stopped (h : (s.ch c).seq = .stopped) : SettledAt idle told s c
    ↔ idle ∨ ((s.ch c).output = false ∧ (s.running = true → (s.chCfg c).kind = .unused)) := by
  unfold SettledAt
  rw [h]

theorem settledAt_damper {st : TravelState} {x : Option Nat} (h : (s.ch c).seq = .damper st x) :
    SettledAt idle told s c ↔ s.running = true ∧ (s.chCfg c).kind.isDamper = true
      ∧ (s.ch c).output = decide ((s.ch c).target = .on)
      ∧ (TravelLaw s c st x ∨ (told ∧ (st = .limitConflict → x = none))) := by
  unfold SettledAt
  rw [h]

theorem settledAt_fan {st : FanState} {x y : Option Nat} (h : (s.ch c).seq = .fan st x y) :
    SettledAt idle told s c ↔ s.running = true ∧ (s.chCfg c).kind.isFan = true ∧ (s.ch c).output = st.outputOn
      ∧ FanTimed (s.chCfg c) st x y ∧ FanPlaced s c st ∧ (told ∨ FanMeant (s.ch c).target st) := by
  unfold SettledAt
  rw [h]

theorem channelsLaw_iff : ChannelsLaw s ↔ Settled (fun _ => False) (fun _ => False) s := by
  refine forall_congr' fun c => ?_
  unfold SequencerLaw
  cases h : (s.ch c).seq with
  | stopped =>
    rw [settledAt_stopped h, false_or]
    rfl
  | damper st x =>
    rw [settledAt_damper h]
    simp only [outputOf, false_and, or_false]
    tauto
  | fan st x y =>
    rw [settledAt_fan h]
    simp only [outputOf, fanLaw_iff, false_or]
    tauto

theorem SettledAt.mono {idle' told' : Prop} (h : SettledAt idle told s c) (ki : idle → idle') (kt : told → told') :
    SettledAt idle' told' s c := by
  cases hq : (s.ch c).seq with
  | stopped => exact (settledAt_stopped hq).mpr (((settledAt_stopped hq).mp h).imp_left ki)
  | damper st x =>
    obtain ⟨hrun, hkind, hout, htravel⟩ := (settledAt_damper hq).mp h
    exact (settledAt_damper hq).mpr ⟨hrun, hkind, hout, htravel.imp_right fun ⟨ht, hx⟩ => ⟨kt ht, hx⟩⟩
  | fan st x y =>
    obtain ⟨hrun, hkind, hout, htimed, hplaced, hmeant⟩ := (settledAt_fan hq).mp h
    exact (settledAt_fan hq).mpr ⟨hrun, hkind, hout, htimed, hplaced, hmeant.imp_left kt⟩

theorem Settled.mono (h : Settled i p s) (ki : ∀ c, i c → j c) (kp : ∀ c, p c → q c) : Settled j q s :=
  fun c => (h c).mono (ki c) (kp c)

theorem Settled.but (h : Settled i p s) (hd : c ≠ d) : SettledAt (i d ∧ d ≠ c) (p d ∧ d ≠ c) s d :=
  (h d).mono (fun hi => ⟨hi, hd.symm⟩) fun hp => ⟨hp, hd.symm⟩

/-! ### What the channels stand on -/

/-- Configuration, the running of the sequencers and the reset are as they were. -/
structure SameGround (s t : State) : Prop where
  config  : t.ctl.config = s.ctl.config
  running : t.running = s.running
  reset   : t.inReset = s.inReset

namespace SameGround

theorem refl (s : State) : SameGround s s := ⟨rfl, rfl, rfl⟩

theorem trans (h : SameGround s t) (k : SameGround t u) : SameGround s u :=
  ⟨k.config.trans h.config, k.running.trans h.running, k.reset.trans h.reset⟩

theorem of_ctl (hctl : t.ctl = s.ctl) (hreset : t.panel.reset = s.panel.reset) : SameGround s t := by
  refine ⟨by rw [hctl], ?_, ?_⟩
  · unfold State.running State.sequencing
    rw [hctl, hreset]
  · unfold State.inReset
    rw [hreset]

theorem of_lessSequencing (h : t.lessSequencing = s.lessSequencing) : SameGround s t := by
  obtain ⟨hctl, -, -, -, -, -, hpanel, -⟩ := lessSequencing_eq h
  exact of_ctl hctl (by rw [hpanel])

theorem chCfg (h : SameGround s t) (c : ChannelNo) : t.chCfg c = s.chCfg c := chCfg_congr h.config c

end SameGround

theorem TravelLaw.congr {st : TravelState} {x : Option Nat} (h : TravelLaw s c st x) (hconfig : t.ctl.config = s.ctl.config)
    (hreset : t.inReset = s.inReset) (htarget : (t.ch c).target = (s.ch c).target) (hA : (t.ch c).inA = (s.ch c).inA)
    (hB : (t.ch c).inB = (s.ch c).inB) : TravelLaw t c st x := by
  unfold TravelLaw travelTime Channel.ownLimit Channel.openLimit Channel.closedLimit at h ⊢
  dsimp only at h ⊢
  rwa [hreset, chCfg_congr hconfig, htarget, hA, hB]

theorem FanPlaced.congr {st : FanState} (h : FanPlaced s c st) (hat : interlocksAtTarget t c = interlocksAtTarget s c)
    (hfault : interlockFaulted t c = interlockFaulted s c) : FanPlaced t c st := by
  unfold FanPlaced at h ⊢
  rwa [hat, hfault]

/-- A channel that is as it was, on the same ground, with interlocks that stand as they did. -/
theorem SettledAt.congr (h : SettledAt idle told s c) (k : SameGround s t) (hch : t.ch c = s.ch c)
    (hplaced : ∀ st x y, (s.ch c).seq = .fan st x y → FanPlaced s c st → FanPlaced t c st) : SettledAt idle told t c := by
  cases hq : (s.ch c).seq with
  | stopped =>
    rw [settledAt_stopped (by rw [hch, hq]), hch, k.running, k.chCfg]
    exact (settledAt_stopped hq).mp h
  | damper st x =>
    rw [settledAt_damper (by rw [hch, hq]), hch, k.running, k.chCfg]
    obtain ⟨hrun, hkind, hout, htravel⟩ := (settledAt_damper hq).mp h
    exact ⟨hrun, hkind, hout, htravel.imp_left fun hlaw => hlaw.congr k.config k.reset (by rw [hch]) (by rw [hch]) (by rw [hch])⟩
  | fan st x y =>
    rw [settledAt_fan (by rw [hch, hq]), hch, k.running, k.chCfg]
    obtain ⟨hrun, hkind, hout, htimed, hstands, hmeant⟩ := (settledAt_fan hq).mp h
    exact ⟨hrun, hkind, hout, htimed, hplaced st x y hq hstands, hmeant⟩

/-- A channel that is no fan reads no interlocks. -/
theorem SettledAt.congr_of_no_fan (h : SettledAt idle told s c) (k : SameGround s t) (hch : t.ch c = s.ch c)
    (hno : (s.ch c).seq.fanState = none) : SettledAt idle told t c :=
  h.congr k hch fun _ _ _ hfan _ => absurd ((congrArg Sequencer.fanState hfan).symm.trans hno) nofun

theorem SettledAt.congr_fan {st : FanState} {x y : Option Nat} (h : SettledAt idle told s c) (k : SameGround s t)
    (hch : t.ch c = s.ch c) (hq : (s.ch c).seq = .fan st x y) (hplaced : FanPlaced s c st → FanPlaced t c st) :
    SettledAt idle told t c :=
  h.congr k hch fun _ _ _ hfan => (Sequencer.fan.inj (hq.symm.trans hfan)).1 ▸ hplaced

/-- A fan among the waiting states, its interlocks evaluated anew (R68 to R70). -/
theorem SettledAt.reevaluated {st st' : FanState} {x y : Option Nat} (h : SettledAt idle told s c)
    (k : SameGround s t) (hq : (s.ch c).seq = .fan st x y)
    (hch : t.ch c = { s.ch c with seq := .fan st' none none, output := st'.outputOn }) (htimed : FanTimed (s.chCfg c) st' none none)
    (hplaced : FanPlaced t c st') (hmeant : FanMeant (s.ch c).target st → FanMeant (s.ch c).target st') :
    SettledAt idle told t c := by
  obtain ⟨hrun, hkind, -, -, -, hold⟩ := (settledAt_fan hq).mp h
  rw [settledAt_fan (by rw [hch]), hch, k.running, k.chCfg]
  exact ⟨hrun, hkind, rfl, htimed, hplaced, hold.imp_right hmeant⟩

theorem SamePositions.placed {st : FanState} (h : SamePositions s t) (k : FanPlaced s c st) : FanPlaced t c st :=
  k.congr (h.atTarget c) (h.faulted c)

/-- Work that moves no channel. -/
theorem Settled.kept (h : Settled i p s) (k : SameGround s t) (hch : ∀ c, t.ch c = s.ch c) : Settled i p t :=
  fun c => (h c).congr k (hch c) fun _ _ _ _ => SamePositions.placed ⟨k.config, fun x => by rw [hch]⟩

/-! ### A fan takes a state -/

theorem setSeq_ground (c : ChannelNo) (x : Sequencer) (s : State) : SameGround s (setSeq c x s) :=
  .of_lessSequencing (setSeq_lessSequencing s c x)

theorem Settled.setFan {st : FanState} {x y : Option Nat} (h : Settled i p s) (hno : (s.ch c).seq.travelState = none)
    (hrun : s.running = true) (hkind : (s.chCfg c).kind.isFan = true) (htimed : FanTimed (s.chCfg c) st x y)
    (hplaced : FanPlaced s c st) (hmeant : FanMeant (s.ch c).target st) :
    Settled (fun d => i d ∧ d ≠ c) (fun d => p d ∧ d ≠ c) (setSeq c (.fan st x y) s) := by
  have hground := setSeq_ground c (.fan st x y) s
  have hsame : SamePositions s (setSeq c (.fan st x y) s) := .setSeq_fan hno
  intro d
  by_cases hd : c = d
  · subst hd
    have hch : (setSeq c (.fan st x y) s).ch c = { s.ch c with seq := .fan st x y, output := st.outputOn } := by
      rw [setSeq_ch, if_pos rfl]
      rfl
    rw [settledAt_fan (by rw [hch]), hch, hground.running, hground.chCfg]
    exact ⟨hrun, hkind, rfl, htimed, hsame.placed hplaced, .inr hmeant⟩
  · refine (h.but hd).congr hground ?_ fun _ _ _ _ => hsame.placed
    rw [setSeq_ch, if_neg hd]

/-! ### A damper or curtain takes a state, and the fans that name it are told (R59, R67 to R70) -/

theorem setTravel_notice (st : TravelState) (x : Option Nat) (hno : (s.ch c).seq.fanState = none) :
    setTravel c (.damper st x) s = if (s.ch c).seq.travelState = some st then setSeq c (.damper st x) s
      else interlockNotice c (setSeq c (.damper st x) s) := by
  cases hq : (s.ch c).seq with
  | stopped =>
    unfold setTravel
    rw [hq]
    rfl
  | damper st' y =>
    rw [setTravel_eq hq]
    simp only [Sequencer.travelState, Option.some.injEq]
  | fan => rw [hq] at hno; cases hno

theorem interlocks_congr (hconfig : t.ctl.config = s.ctl.config)
    (h : ∀ d ∈ (s.chCfg c).interlocks, (t.ch d).seq.travelState = (s.ch d).seq.travelState) :
    interlocksAtTarget t c = interlocksAtTarget s c ∧ interlockFaulted t c = interlockFaulted s c := by
  unfold interlocksAtTarget interlockFaulted
  rw [chCfg_congr hconfig]
  constructor
  · rw [Bool.eq_iff_iff, List.all_eq_true, List.all_eq_true]
    exact forall₂_congr fun d hd => by rw [atTargetPosition_eq, atTargetPosition_eq, h d hd]
  · rw [Bool.eq_iff_iff, List.any_eq_true, List.any_eq_true]
    exact exists_congr fun d => and_congr_right fun hd => by rw [faulted_eq, faulted_eq, h d hd]

theorem evaluateStopped_placed (s : State) (c : ChannelNo) : FanPlaced s c (evaluateStopped s c) := by
  unfold evaluateStopped
  cases hf : interlockFaulted s c with
  | true =>
    rw [if_pos rfl]
    unfold interlockFaulted at hf
    change interlocksAtTarget s c = false
    obtain ⟨d, hd, hfault⟩ := List.any_eq_true.mp hf
    unfold interlocksAtTarget
    rw [List.all_eq_false]
    refine ⟨d, hd, ?_⟩
    rw [faulted_eq, decide_eq_true_iff] at hfault
    rw [atTargetPosition_eq, decide_eq_true_iff]
    rcases hfault with e | e <;> rw [e] <;> decide
  | false =>
    rw [if_neg nofun]
    cases ha : interlocksAtTarget s c with
    | true => exact ha
    | false => exact ⟨ha, hf⟩

/-- The three waiting states (R67). -/
def FanState.waits (st : FanState) : Prop := st = .awaitingInterlock ∨ st = .awaitingSlot ∨ st = .blocked

theorem evaluateStopped_waits (s : State) (c : ChannelNo) : (evaluateStopped s c).waits := by
  unfold evaluateStopped FanState.waits
  split
  · exact .inr (.inr rfl)
  · split
    · exact .inr (.inl rfl)
    · exact .inl rfl

/-- What a notice of a changed interlock makes of a fan's state. -/
theorem interlockEvent_next (d c : ChannelNo) (s : State) {st : FanState} {x y : Option Nat}
    (h : (s.ch c).seq = .fan st x y) (hd : d ∈ (s.chCfg c).interlocks) :
    (interlockEvent d s c = s ∧ FanPlaced s c st)
      ∨ (st.waits ∧ ∃ st', st'.waits ∧ FanPlaced s c st' ∧ interlockEvent d s c = setSeq c (fanIn st') s) := by
  unfold interlockEvent
  rw [if_pos hd, h]
  cases st with
  | awaitingInterlock =>
    exact .inr ⟨.inl rfl, _, evaluateStopped_waits s c, evaluateStopped_placed s c, rfl⟩
  | awaitingSlot =>
    exact .inr ⟨.inr (.inl rfl), _, evaluateStopped_waits s c, evaluateStopped_placed s c, rfl⟩
  | blocked =>
    cases hat : interlocksAtTarget s c with
    | true =>
      refine .inr ⟨.inr (.inr rfl), .awaitingSlot, .inr (.inl rfl), hat, ?_⟩
      rfl
    | false =>
      exact .inl ⟨rfl, hat⟩
  | stopped | starting | running | proveFail | runLost | stopping | failedOff => exact .inl ⟨rfl, trivial⟩

theorem FanState.waits.meant {st st' : FanState} {x : Target} (h : st.waits) (h' : st'.waits) (k : FanMeant x st) :
    FanMeant x st' := by
  rcases h with rfl | rfl | rfl <;> rcases h' with rfl | rfl | rfl <;> exact k

theorem FanState.waits.timed {st : FanState} (h : st.waits) (k : ChannelConfig) : FanTimed k st none none := by
  rcases h with rfl | rfl | rfl <;> exact ⟨rfl, rfl⟩

theorem FanState.waits.off {st : FanState} (h : st.waits) : st.outputOn = false := by
  rcases h with rfl | rfl | rfl <;> rfl

/-- A fan once the notice of a changed interlock has reached it. -/
theorem SettledAt.notified (h : SettledAt idle told s e) (hs : SameGround s u) (hu : u.ch e = s.ch e)
    (hpos : ∀ d, d ≠ c → (u.ch d).seq.travelState = (s.ch d).seq.travelState) :
    SettledAt idle told (interlockNotice c u) e := by
  have hnotice : SamePositions u (interlockNotice c u) := foldl_interlockEvent_positions c allChannels u
  have hground : SameGround u (interlockNotice c u) := .of_lessSequencing (interlockNotice_lessSequencing u c)
  have hch := interlockNotice_ch c e u
  cases hq : (s.ch e).seq with
  | stopped | damper =>
    have hno : (s.ch e).seq.fanState = none := by rw [hq]; rfl
    have hidle : interlockEvent c u e = u := interlockEvent_of_no_fan (by rw [hu, hno])
    rw [hidle, hu] at hch
    exact h.congr_of_no_fan (hs.trans hground) hch hno
  | fan st x y =>
    by_cases hc : c ∈ (u.chCfg e).interlocks
    · rcases interlockEvent_next c e u (by rw [hu, hq]) hc with ⟨hidle, hplaced⟩ | ⟨hwaits, st', hwaits', hplaced, hnext⟩
      · rw [hidle, hu] at hch
        exact h.congr_fan (hs.trans hground) hch hq fun _ => hnotice.placed hplaced
      · rw [hnext, setSeq_ch, if_pos rfl, hu] at hch
        exact h.reevaluated (hs.trans hground) hq hch (hwaits'.timed _) (hnotice.placed hplaced) (hwaits.meant hwaits')
    · have hidle : interlockEvent c u e = u := if_neg hc
      rw [hidle, hu] at hch
      have hsame := interlocks_congr (s := s) (t := u) (c := e) hs.config fun d hd => hpos d fun hdc =>
        hc (by rw [hs.chCfg, ← hdc]; exact hd)
      exact h.congr_fan (hs.trans hground) hch hq fun hplaced => hnotice.placed (hplaced.congr hsame.1 hsame.2)

theorem Settled.setTravel {st : TravelState} {x : Option Nat} (h : Settled i p s) (hno : (s.ch c).seq.fanState = none)
    (hrun : s.running = true) (hkind : (s.chCfg c).kind.isDamper = true) (hlaw : TravelLaw s c st x) :
    Settled (fun d => i d ∧ d ≠ c) (fun d => p d ∧ d ≠ c) (setTravel c (.damper st x) s) := by
  have hground := setSeq_ground c (.damper st x) s
  have hself : (setSeq c (.damper st x) s).ch c
      = { s.ch c with seq := .damper st x, output := decide ((s.ch c).target = .on) } := by
    rw [setSeq_ch, if_pos rfl]
    rfl
  have hother {d : ChannelNo} (hd : c ≠ d) : (setSeq c (.damper st x) s).ch d = s.ch d := by rw [setSeq_ch, if_neg hd]
  have hsettled {v : State} (hv : SameGround s v) (hch : v.ch c = (setSeq c (.damper st x) s).ch c) :
      SettledAt (i c ∧ c ≠ c) (p c ∧ c ≠ c) v c := by
    rw [hself] at hch
    rw [settledAt_damper (by rw [hch]), hch, hv.running, hv.chCfg]
    exact ⟨hrun, hkind, rfl, .inl (hlaw.congr hv.config hv.reset (by rw [hch]) (by rw [hch]) (by rw [hch]))⟩
  rw [setTravel_notice st x hno]
  split
  · next hsame =>
    have hpos : SamePositions s (setSeq c (.damper st x) s) := by
      refine ⟨hground.config, fun d => ?_⟩
      by_cases hd : c = d
      · subst hd
        rw [hself, hsame]
        rfl
      · rw [hother hd]
    intro d
    by_cases hd : c = d
    · subst hd
      exact hsettled hground rfl
    · exact (h.but hd).congr hground (hother hd) fun _ _ _ _ => hpos.placed
  · intro d
    by_cases hd : c = d
    · subst hd
      refine hsettled (hground.trans (.of_lessSequencing (interlockNotice_lessSequencing _ c))) ?_
      rw [interlockNotice_ch, interlockEvent_of_no_fan (by rw [hself]; rfl)]
    · refine (h.but hd).notified hground (hother hd) fun y hy => ?_
      rw [hother fun e => hy e.symm]

end Sys2Proof.Machine
end

section
/-! The events of fans, dampers and curtains on the state tables, one recompute, and the start tests (R29, R50, R66 to R72,
R78 to R83): the second layer under O7. -/

namespace Sys2Proof.Machine

variable {s t u : State} {c d e : ChannelNo} {i j p q : ChannelNo → Prop} {idle told : Prop}

/-! ### Entering the states of a fan (R67, R79, R83) -/

/-- Work that settles channel c, unless it is one of f, and leaves the rest as settled as they were, on the same ground. -/
structure SettlesBut (f i p : ChannelNo → Prop) (c : ChannelNo) (s t : State) : Prop where
  ground  : SameGround s t
  settled : Settled (fun d => i d ∧ (d = c → f d)) (fun d => p d ∧ (d = c → f d)) t

/-- Work that settles channel c. -/
abbrev Settles : (i p : ChannelNo → Prop) → (c : ChannelNo) → (s t : State) → Prop := SettlesBut fun _ => False

/-- What each step of sequencing does to its own channel, a run over a list does to every channel of it. -/
theorem foldl_settles {f : ChannelNo → Prop} {g : State → ChannelNo → State}
    (hrest : ∀ v c, (g v c).lessSequencing = v.lessSequencing)
    (hstep : ∀ v i' p', v.lessSequencing = s.lessSequencing → (∀ d, i' d → i d) → (∀ d, p' d → p d) → Settled i' p' v →
      ∀ c, SettlesBut f i' p' c v (g v c)) (l : List ChannelNo) (h : Settled i p s) :
    Settled (fun d => i d ∧ (d ∈ l → f d)) (fun d => p d ∧ (d ∈ l → f d)) (l.foldl g s) := by
  suffices hall : ∀ (l : List ChannelNo) v i' p', v.lessSequencing = s.lessSequencing → (∀ d, i' d → i d) →
      (∀ d, p' d → p d) → Settled i' p' v →
      Settled (fun d => i' d ∧ (d ∈ l → f d)) (fun d => p' d ∧ (d ∈ l → f d)) (l.foldl g v) from
    hall l s i p rfl (fun _ => id) (fun _ => id) h
  intro l
  induction l with
  | nil => exact fun v i' p' _ _ _ hs => hs.mono (fun d hd => ⟨hd, nofun⟩) fun d hd => ⟨hd, nofun⟩
  | cons c l ih =>
    intro v i' p' hv hi hp hs
    obtain ⟨-, hsettled⟩ := hstep v i' p' hv hi hp hs c
    have hmem {d : ChannelNo} (h : d = c → f d) (k : d ∈ l → f d) : d ∈ c :: l → f d := fun hd =>
      (List.mem_cons.mp hd).elim h k
    exact (ih _ _ _ ((hrest v c).trans hv) (fun d hd => hi d hd.1) (fun d hd => hp d hd.1) hsettled).mono
      (fun d hd => ⟨hd.1.1, hmem hd.1.2 hd.2⟩) fun d hd => ⟨hd.1.1, hmem hd.1.2 hd.2⟩

theorem Settled.setFan_settles {st : FanState} {x y : Option Nat} (h : Settled i p s) (hno : (s.ch c).seq.travelState = none)
    (hrun : s.running = true) (hkind : (s.chCfg c).kind.isFan = true) (htimed : FanTimed (s.chCfg c) st x y)
    (hplaced : FanPlaced s c st) (hmeant : FanMeant (s.ch c).target st) : Settles i p c s (setSeq c (.fan st x y) s) :=
  ⟨setSeq_ground c _ s, h.setFan hno hrun hkind htimed hplaced hmeant⟩

theorem Settled.enterStopped (h : Settled i p s) (hno : (s.ch c).seq.travelState = none) (hrun : s.running = true)
    (hkind : (s.chCfg c).kind.isFan = true) : Settles i p c s (enterStopped c s) := by
  unfold Machine.enterStopped
  cases htarget : (s.ch c).target with
  | off => exact h.setFan_settles hno hrun hkind ⟨rfl, rfl⟩ trivial htarget
  | on =>
    have hwaits := evaluateStopped_waits s c
    refine h.setFan_settles hno hrun hkind (hwaits.timed _) (evaluateStopped_placed s c) ?_
    rcases hwaits with e | e | e <;> rw [e] <;> exact htarget

theorem Settled.enterStarting (h : Settled i p s) (hno : (s.ch c).seq.travelState = none) (hrun : s.running = true)
    (hkind : (s.chCfg c).kind.isFan = true) (htarget : (s.ch c).target = .on) : Settles i p c s (enterStarting c s) := by
  unfold Machine.enterStarting
  split
  · exact h.setFan_settles hno hrun hkind ⟨rfl, rfl⟩ trivial htarget
  · exact h.setFan_settles hno hrun hkind ⟨⟨rfl, atMost_some.mpr le_rfl⟩, rfl⟩ trivial htarget

theorem Settled.enterStopping (h : Settled i p s) (hno : (s.ch c).seq.travelState = none) (hrun : s.running = true)
    (hkind : (s.chCfg c).kind.isFan = true) : Settles i p c s (enterStopping c s) := by
  unfold Machine.enterStopping
  split
  · exact h.enterStopped hno hrun hkind
  · exact h.setFan_settles hno hrun hkind ⟨rfl, rfl, atMost_some.mpr le_rfl⟩ trivial trivial

/-- A channel that is settled as it stands. -/
theorem Settled.already (h : Settled i p s) (hc : SettledAt (i c ∧ c ≠ c) (p c ∧ c ≠ c) s c) : Settles i p c s s := by
  refine ⟨.refl s, fun d => ?_⟩
  by_cases hd : c = d
  · subst hd
    exact hc
  · exact h.but hd

/-- What a change of target reaches is settled (R66, R67, R83). -/
theorem Settled.fanTarget {st : FanState} {x y : Option Nat} (h : Settled i p s) (hq : (s.ch c).seq = .fan st x y) :
    Settles i p c s (fanTarget c s) := by
  obtain ⟨hrun, hkind, hout, htimed, hplaced, -⟩ := (settledAt_fan hq).mp (h c)
  have hno : (s.ch c).seq.travelState = none := by rw [hq]; rfl
  have hstopped := h.enterStopped hno hrun hkind
  have hstopping := h.enterStopping hno hrun hkind
  have hkept (hmeant : FanMeant (s.ch c).target st) : Settles i p c s s :=
    h.already ((settledAt_fan hq).mpr ⟨hrun, hkind, hout, htimed, hplaced, .inr hmeant⟩)
  unfold Machine.fanTarget
  rw [hq]
  cases st with
  | failedOff => exact hstopped
  | stopping => exact hkept trivial
  | stopped =>
    cases htarget : (s.ch c).target with
    | on => exact hstopped
    | off => exact hkept htarget
  | awaitingInterlock | blocked | awaitingSlot =>
    cases htarget : (s.ch c).target with
    | on => exact hkept htarget
    | off => exact hstopped
  | starting | running | proveFail | runLost =>
    cases htarget : (s.ch c).target with
    | on => exact hkept htarget
    | off => exact hstopping

/-- What a change of role reaches was settled, and is again (R66). -/
theorem Settled.fanRole {st : FanState} {x y : Option Nat} (h : Settled i p s) (hp : ¬p c) (hq : (s.ch c).seq = .fan st x y) :
    Settles i p c s (fanRole c s) := by
  obtain ⟨hrun, hkind, hout, htimed, hplaced, hmeant⟩ := (settledAt_fan hq).mp (h c)
  replace hmeant := hmeant.resolve_left hp
  have hno : (s.ch c).seq.travelState = none := by rw [hq]; rfl
  have hkept : Settles i p c s s :=
    h.already ((settledAt_fan hq).mpr ⟨hrun, hkind, hout, htimed, hplaced, .inr hmeant⟩)
  have hfailed (k : FailCause) (htarget : (s.ch c).target = .on) : Settles i p c s (setSeq c (fanIn (.failedOff k)) s) :=
    h.setFan_settles hno hrun hkind ⟨rfl, rfl⟩ trivial htarget
  unfold Machine.fanRole
  rw [hq]
  cases st with
  | proveFail => exact holds_ite (P := Settles i p c s) hkept (hfailed _ hmeant)
  | runLost => exact holds_ite (P := Settles i p c s) hkept (hfailed _ hmeant)
  | failedOff => exact h.enterStopped hno hrun hkind
  | stopped | awaitingInterlock | blocked | awaitingSlot | starting | running | stopping => exact hkept

/-- A fan's sequencer runs where the sequencers run, unless it is still to be started. -/
theorem SettledAt.seq_of_isFan (h : SettledAt idle told s c) (hidle : ¬idle) (hrun : s.running = true)
    (hkind : (s.chCfg c).kind.isFan = true) : ∃ st x y, (s.ch c).seq = .fan st x y := by
  cases hq : (s.ch c).seq with
  | stopped =>
    obtain ⟨-, hunused⟩ := ((settledAt_stopped hq).mp h).resolve_left hidle
    rw [hunused hrun] at hkind
    cases hkind
  | damper =>
    obtain ⟨-, hdamper, -⟩ := (settledAt_damper hq).mp h
    rw [isFan_of_isDamper hdamper] at hkind
    cases hkind
  | fan st x y => exact ⟨st, x, y, rfl⟩

theorem Settled.stopped (h : Settled i p s) (hi : ¬i c) (hq : (s.ch c).seq = .stopped) : Settles i p c s s :=
  h.already ((settledAt_stopped hq).mpr (.inr (((settledAt_stopped hq).mp (h c)).resolve_left hi)))

/-- The one notice of a recompute to a channel settles a fan whose target changed (R66). -/
theorem Settled.fanNotice {targetChanged : Bool} (h : Settled i p s) (hi : ¬i c)
    (hp : p c → targetChanged = true ∧ (s.chCfg c).kind.isFan = true) (roleChanged : Bool) :
    Settles i p c s (fanNotice targetChanged roleChanged c s) := by
  cases hq : (s.ch c).seq with
  | stopped =>
    have hidle : Machine.fanNotice targetChanged roleChanged c s = s := by
      simp [Machine.fanNotice, Machine.fanTarget, Machine.fanRole, hq]
    rw [hidle]
    exact h.stopped hi hq
  | damper st x =>
    have hidle : Machine.fanNotice targetChanged roleChanged c s = s := by
      simp [Machine.fanNotice, Machine.fanTarget, Machine.fanRole, hq]
    obtain ⟨hrun, hkind, hout, htravel⟩ := (settledAt_damper hq).mp (h c)
    have htold : ¬p c := fun hpc => by
      have hfan := (hp hpc).2
      rw [isFan_of_isDamper hkind] at hfan
      cases hfan
    rw [hidle]
    exact h.already ((settledAt_damper hq).mpr ⟨hrun, hkind, hout, .inl (htravel.resolve_right fun k => htold k.1)⟩)
  | fan st x y =>
    obtain ⟨hrun, hkind, hout, htimed, hplaced, hmeant⟩ := (settledAt_fan hq).mp (h c)
    have htarget : Settles i p c s (if targetChanged then Machine.fanTarget c s else s) := by
      cases targetChanged with
      | true => exact h.fanTarget hq
      | false =>
        have htold : ¬p c := fun hpc => nomatch (hp hpc).1
        exact h.already ((settledAt_fan hq).mpr ⟨hrun, hkind, hout, htimed, hplaced, .inr (hmeant.resolve_left htold)⟩)
    have hrole (v : State) (hv : Settles i p c s v) : Settles i p c s (if roleChanged then Machine.fanRole c v else v) := by
      obtain ⟨hground, hsettled⟩ := hv
      cases roleChanged with
      | false => exact ⟨hground, hsettled⟩
      | true =>
        obtain ⟨st', x', y', hq'⟩ := (hsettled c).seq_of_isFan (fun k => k.2 rfl) (by rw [hground.running, hrun])
          (by rw [hground.chCfg, hkind])
        obtain ⟨hground', hsettled'⟩ := hsettled.fanRole (fun k => k.2 rfl) hq'
        exact ⟨hground.trans hground', hsettled'.mono (fun d hd => hd.1) fun d hd => hd.1⟩
    exact hrole _ htarget

/-! ### Dampers and curtains (R49, R50) -/

theorem deriveTravel_law (s : State) (c : ChannelNo) :
    ∃ st x, deriveTravel s c = .damper st x ∧ TravelLaw s c st x := by
  have hfull : AtMost (travelTime s c) (some (travelTime s c)) := atMost_some.mpr le_rfl
  cases hopen : (s.ch c).openLimit with
  | true =>
    cases hclosed : (s.ch c).closedLimit with
    | true => exact ⟨.limitConflict, none, by simp [deriveTravel, hopen, hclosed], rfl, fun _ => ⟨hopen, hclosed⟩⟩
    | false =>
      cases htarget : (s.ch c).target with
      | on =>
        exact ⟨.atOpen, none, by simp [deriveTravel, Channel.ownLimit, hopen, hclosed, htarget, atTarget], htarget, rfl,
          fun _ => ⟨hopen, hclosed⟩⟩
      | off =>
        exact ⟨.closing, _, by simp [deriveTravel, Channel.ownLimit, hopen, hclosed, htarget, moving], htarget, rfl, hfull,
          fun _ => hclosed⟩
  | false =>
    cases htarget : (s.ch c).target with
    | on =>
      exact ⟨.opening, _, by simp [deriveTravel, Channel.ownLimit, hopen, htarget, moving], htarget, rfl, hfull,
        fun _ => hopen⟩
    | off =>
      cases hclosed : (s.ch c).closedLimit with
      | true =>
        exact ⟨.atClosed, none, by simp [deriveTravel, Channel.ownLimit, hopen, hclosed, htarget, atTarget], htarget, rfl,
          fun _ => ⟨hclosed, hopen⟩⟩
      | false =>
        exact ⟨.closing, _, by simp [deriveTravel, Channel.ownLimit, hopen, hclosed, htarget, moving], htarget, rfl, hfull,
          fun _ => hclosed⟩

theorem setTravel_ground (c : ChannelNo) (x : Sequencer) (s : State) : SameGround s (setTravel c x s) :=
  .of_lessSequencing (setTravel_lessSequencing s c x)

/-- The entry derivation settles a damper or curtain (R49). -/
theorem Settled.deriveTravel (h : Settled i p s) (hno : (s.ch c).seq.fanState = none) (hrun : s.running = true)
    (hkind : (s.chCfg c).kind.isDamper = true) : Settles i p c s (Machine.setTravel c (Machine.deriveTravel s c) s) := by
  obtain ⟨st, x, e, hlaw⟩ := deriveTravel_law s c
  rw [e]
  exact ⟨setTravel_ground c _ s, h.setTravel hno hrun hkind hlaw⟩

/-- A channel that is a fan may be left to be told. -/
theorem Settled.left {f : ChannelNo → Prop} (h : Settled i p s) (hc : f c) : SettlesBut f i p c s s :=
  ⟨.refl s, h.mono (fun _ hd => ⟨hd, fun e => e ▸ hc⟩) fun _ hd => ⟨hd, fun e => e ▸ hc⟩⟩

theorem SettlesBut.of_settles {f : ChannelNo → Prop} (h : Settles i p c s t) : SettlesBut f i p c s t :=
  ⟨h.ground, h.settled.mono (fun _ hd => ⟨hd.1, fun e => absurd e hd.2⟩) fun _ hd => ⟨hd.1, fun e => absurd e hd.2⟩⟩

/-- A change of target settles a damper or curtain, and leaves a fan to its own notice (R50). -/
theorem Settled.damperTarget (h : Settled i p s) (hi : ¬i c) {f : ChannelNo → Prop}
    (hf : (s.chCfg c).kind.isFan = true → f c) : SettlesBut f i p c s (damperTarget c s) := by
  cases hq : (s.ch c).seq with
  | stopped =>
    have hidle : Machine.damperTarget c s = s := by simp [Machine.damperTarget, hq]
    rw [hidle]
    exact .of_settles (h.stopped hi hq)
  | fan =>
    have hidle : Machine.damperTarget c s = s := by simp [Machine.damperTarget, hq]
    obtain ⟨-, hkind, -⟩ := (settledAt_fan hq).mp (h c)
    rw [hidle]
    exact h.left (hf hkind)
  | damper st x =>
    obtain ⟨hrun, hkind, hout, htravel⟩ := (settledAt_damper hq).mp (h c)
    have hno : (s.ch c).seq.fanState = none := by rw [hq]; rfl
    have hderived := h.deriveTravel hno hrun hkind
    refine .of_settles ?_
    unfold Machine.damperTarget
    rw [hq]
    split
    · next hst =>
      obtain ⟨rfl, rfl⟩ := Sequencer.damper.inj hst
      split
      · next hlimits =>
        have hx : x = none := htravel.elim (fun hlaw => hlaw.1) fun htold => htold.2 rfl
        refine h.already ((settledAt_damper hq).mpr ⟨hrun, hkind, hout, .inl ⟨hx, fun _ => ?_⟩⟩)
        exact Bool.and_eq_true_iff.mp hlimits
      · exact hderived
    · exact hderived
    · next hst => exact absurd rfl (hst st x)

/-! ### The replacement of targets (R40, R50) -/

theorem Settled.replaceTarget (h : Settled i p s) (c : ChannelNo) (x : Target) :
    SameGround s (replaceTarget c x s) ∧ Settled i (fun d => p d ∨ d = c) (replaceTarget c x s) := by
  have hground : SameGround s (Machine.replaceTarget c x s) := .of_ctl rfl rfl
  have hch (d : ChannelNo) : (Machine.replaceTarget c x s).ch d
      = if c = d then { s.ch c with target := x, output := outputOf x (s.ch c).seq } else s.ch d := State.ch_setCh ..
  have hpos : SamePositions s (Machine.replaceTarget c x s) := by
    refine ⟨hground.config, fun d => ?_⟩
    rw [hch]
    split
    · next hd => rw [hd]
    · rfl
  refine ⟨hground, fun d => ?_⟩
  by_cases hd : c = d
  · subst hd
    have hself := hch c
    rw [if_pos rfl] at hself
    cases hq : (s.ch c).seq with
    | stopped =>
      rw [settledAt_stopped (by rw [hself, hq]), hself, hground.running, hground.chCfg]
      exact ((settledAt_stopped hq).mp (h c)).imp_right fun ⟨_, hunused⟩ => ⟨by rw [hq]; rfl, hunused⟩
    | damper st y =>
      obtain ⟨hrun, hkind, -, htravel⟩ := (settledAt_damper hq).mp (h c)
      rw [settledAt_damper (by rw [hself, hq]), hself, hground.running, hground.chCfg]
      refine ⟨hrun, hkind, by rw [hq]; rfl, .inr ⟨.inr rfl, fun hst => ?_⟩⟩
      subst hst
      exact htravel.elim (fun hlaw => hlaw.1) fun htold => htold.2 rfl
    | fan st y z =>
      obtain ⟨hrun, hkind, -, htimed, hplaced, -⟩ := (settledAt_fan hq).mp (h c)
      rw [settledAt_fan (by rw [hself, hq]), hself, hground.running, hground.chCfg]
      exact ⟨hrun, hkind, by rw [hq]; rfl, htimed, hpos.placed hplaced, .inl (.inr rfl)⟩
  · exact ((h d).mono id .inl).congr hground (by rw [hch, if_neg hd]) fun _ _ _ _ => hpos.placed

theorem foldl_replaceTarget_settled (l : List ChannelNo) : ∀ (s : State) (p : ChannelNo → Prop), Settled i p s →
    SameGround s (l.foldl (fun s c => replaceTarget c (newTarget s c) s) s)
      ∧ Settled i (fun d => p d ∨ d ∈ l) (l.foldl (fun s c => replaceTarget c (newTarget s c) s) s) := by
  induction l with
  | nil => exact fun s p h => ⟨.refl s, h.mono (fun _ => id) fun _ => .inl⟩
  | cons c l ih =>
    intro s p h
    obtain ⟨hground, hsettled⟩ := h.replaceTarget c (newTarget s c)
    obtain ⟨hground', hsettled'⟩ := ih _ _ hsettled
    refine ⟨hground.trans hground', hsettled'.mono (fun _ => id) fun d hd => ?_⟩
    rw [List.mem_cons]
    exact or_assoc.mp hd

/-! ### The start tests (R72, R75, R78) -/

/-- Every channel has its law. -/
def Lawful (s : State) : Prop := Settled (fun _ => False) (fun _ => False) s

theorem Settles.lawful (h : Settles (fun _ => False) (fun _ => False) c s t) : Lawful t :=
  h.settled.mono (fun _ hd => hd.1) fun _ hd => hd.1

theorem Lawful.kept (h : Lawful s) (k : SameGround s t) (hchans : t.chans = s.chans) : Lawful t :=
  Settled.kept h k fun c => ch_congr hchans c

theorem SameGround.symm (h : SameGround s t) : SameGround t s := ⟨h.config.symm, h.running.symm, h.reset.symm⟩

theorem seq_of_waits (h : waitsForSlot s c = true) : ∃ x y, (s.ch c).seq = .fan .awaitingSlot x y := by
  unfold waitsForSlot at h
  split at h
  · next x y hq => exact ⟨x, y, hq⟩
  · cases h

/-- A fan that waits for its slot has target RUN, so it may start (R67, R78). -/
theorem Lawful.starts (h : Lawful s) (hc : waitsForSlot s c = true) : Lawful (enterStarting c s) := by
  obtain ⟨x, y, hq⟩ := seq_of_waits hc
  obtain ⟨hrun, hkind, -, -, -, hmeant⟩ := (settledAt_fan hq).mp (h c)
  exact (Settled.enterStarting h (by rw [hq]; rfl) hrun hkind (hmeant.resolve_left id)).lawful

theorem Lawful.startTests (h : Lawful s) : Lawful (startTests s) := by
  have hbefore : (claimTest (withdrawTest s)).lessSequencing = s.lessSequencing :=
    (claimTest_lessSequencing _).trans (withdrawTest_lessSequencing s)
  have hlaw : Lawful (claimTest (withdrawTest s)) :=
    h.kept (.of_lessSequencing hbefore) ((claimTest_chans _).trans (withdrawTest_chans s))
  unfold Machine.startTests
  generalize claimTest (withdrawTest s) = v at hlaw
  rcases isolatedTest_cases v with e | ⟨c, hc, -, -, -, -, -, hchans, -⟩
  · rwa [e]
  · refine (hlaw.starts (lowestWaiting_spec hc).1).kept ?_ hchans
    exact (SameGround.of_lessSequencing (enterStarting_lessSequencing v c)).symm.trans
      (.of_lessSequencing (isolatedTest_lessSequencing v))

/-! ### One recompute (R29, R30, R40) -/

theorem noticed_lawful (changed : List ChannelNo) (b : Bool) (old new : ZoneRole)
    (h : Settled (fun _ => False) (fun d => False ∨ d ∈ changed) s) : Lawful (noticed changed b old new s) := by
  have hrole : SameGround s (if b then containRole old new (statusNotice s) else s)
      ∧ (if b then containRole old new (statusNotice s) else s).chans = s.chans := by
    cases b with
    | false => exact ⟨.refl s, rfl⟩
    | true =>
      obtain ⟨hctl, -, -, hchans, -, -, -, -, hpanel, -⟩ := lessReports_eq (statusNotice_lessReports s)
      obtain ⟨-, hchans', -⟩ := containRole_keeps (s := statusNotice s) old new
      obtain ⟨hctl', -, -, -, -, hpanel', -⟩ := lessRoles_eq (containRole_lessRoles (s := statusNotice s) old new)
      exact ⟨.of_ctl (hctl'.trans hctl) (by rw [if_pos rfl, hpanel', hpanel]), hchans'.trans hchans⟩
  unfold noticed
  generalize (if b then containRole old new (statusNotice s) else s) = v at hrole
  obtain ⟨hground, hchans⟩ := hrole
  have hv : Settled (fun _ => False) (fun d => False ∨ d ∈ changed) v := h.kept hground fun c => ch_congr hchans c
  have hdampers := foldl_settles (f := fun d => (v.chCfg d).kind.isFan = true) (g := fun s c => damperTarget c s)
    (fun w c => damperTarget_lessSequencing w c)
    (fun w i' p' hw hi _ hs c => hs.damperTarget (hi c) fun hfan => by
      rwa [← (SameGround.of_lessSequencing hw).chCfg]) changed hv
  have hrest : (changed.foldl (fun s c => damperTarget c s) v).lessSequencing = v.lessSequencing :=
    foldl_keeps v State.lessSequencing _ (fun s c => damperTarget_lessSequencing s c) changed
  generalize changed.foldl (fun s c => damperTarget c s) v = w at hdampers hrest
  have hfans := foldl_settles (f := fun _ => False) (g := fun s c => fanNotice (decide (c ∈ changed)) b c s)
    (fun x c => fanNotice_lessSequencing x _ _ c)
    (fun x i' p' hx hi hp hs c => hs.fanNotice (fun hc => (hi c hc).1) (fun hc => by
      obtain ⟨hmem, hfan⟩ := hp c hc
      replace hmem := hmem.resolve_left id
      refine ⟨decide_eq_true hmem, ?_⟩
      rw [(SameGround.of_lessSequencing (hx.trans hrest)).chCfg]
      exact hfan hmem) b) allChannels hdampers
  exact hfans.mono (fun d hd => hd.2 (mem_allChannels d)) fun d hd => hd.2 (mem_allChannels d)

theorem Lawful.recompute (h : Lawful s) : Lawful (recompute s) := by
  cases ha : s.ctl.mode.applies with
  | false => rwa [recompute_idle s ha]
  | true =>
    have hderived : Lawful (derived s) := h.kept (.of_ctl rfl rfl) rfl
    rw [recompute_eq ha]
    exact (noticed_lawful _ _ _ _ (foldl_replaceTarget_settled _ _ _ hderived).2).startTests

end Sys2Proof.Machine
end

section
/-! The commands of the channels, pressure and supply, of the panel and of accepted frames on the state tables (R51 to R56,
R76 to R83, R101, R103): the third layer under O7. -/

namespace Sys2Proof.Machine

variable {s t u : State} {c d e : ChannelNo}

/-! ### Work that moves no channel -/

theorem Lawful.aside (h : Lawful s) (k : Aside s t) : Lawful t := h.kept (.of_ctl k.ctl k.reset) k.chans

theorem Lawful.recomputed (h : Lawful s) (k : Aside s t) : Lawful (Machine.recompute t) := (h.aside k).recompute

theorem Lawful.withRole (h : Lawful s) (x : Resolver) : Lawful (s.withRole x) := h.kept (.of_ctl rfl rfl) rfl

theorem Lawful.withMeas (h : Lawful s) (x : Measurement) : Lawful (s.withMeas x) := h.kept (.of_ctl rfl rfl) rfl

theorem storeRegister_lawful (h : Lawful s) (new : IncidentRegister) : Lawful (storeRegister new s) := by
  obtain ⟨hctl, -, -, hchans, -, -, -, -, hpanel, -⟩ := lessReports_eq (storeRegister_lessReports s new)
  exact h.kept (.of_ctl hctl (by rw [hpanel]; rfl)) hchans

theorem Lawful.registerEvent (h : Lawful s) (new : IncidentRegister) : Lawful (registerEvent new s) := by
  have hstored := storeRegister_lawful h new
  unfold Machine.registerEvent
  exact holds_ite (P := Lawful) hstored hstored.recompute

theorem Lawful.declarationCheck (h : Lawful s) : Lawful (declarationCheck s) := h.aside (declarationCheck_aside s)

/-! ### Fans (R79 to R83) -/

/-- A fan that is on goes on in another state with its output as that has it. -/
theorem Lawful.setFan {st st' : FanState} {x y : Option Nat} (h : Lawful s) (hq : (s.ch c).seq = .fan st x y)
    (htimed : FanTimed (s.chCfg c) st' none none) (hplaced : FanPlaced s c st')
    (hmeant : FanMeant (s.ch c).target st → FanMeant (s.ch c).target st') : Lawful (setSeq c (fanIn st') s) := by
  obtain ⟨hrun, hkind, -, -, -, hold⟩ := (settledAt_fan hq).mp (h c)
  exact (Settled.setFan_settles h (by rw [hq]; rfl) hrun hkind htimed hplaced (hmeant (hold.resolve_left id))).lawful

theorem Lawful.provingEvent (h : Lawful s) (proven : Bool) (c : ChannelNo) : Lawful (provingEvent proven c s) := by
  unfold Machine.provingEvent
  split
  · next hq => exact h.setFan hq ⟨rfl, rfl⟩ trivial id
  · next hq => exact h.setFan hq ⟨rfl, rfl⟩ trivial id
  · next hq => exact h.setFan hq ⟨rfl, rfl⟩ trivial id
  · next hq => exact holds_ite (P := Lawful) (h.setFan hq ⟨rfl, rfl⟩ trivial id) (h.setFan hq ⟨rfl, rfl⟩ trivial id)
  · exact h

theorem Lawful.provingExpiry (h : Lawful s) (c : ChannelNo) : Lawful (provingExpiry c s) := by
  unfold Machine.provingExpiry
  split
  · next hq =>
    exact holds_ite (P := Lawful) h
      (holds_ite (P := Lawful) (h.setFan hq ⟨rfl, rfl⟩ trivial id) (h.setFan hq ⟨rfl, rfl⟩ trivial id))
  · exact h

theorem Lawful.runDownExpiry (h : Lawful s) (c : ChannelNo) : Lawful (runDownExpiry c s) := by
  unfold Machine.runDownExpiry
  split
  · next hq =>
    obtain ⟨hrun, hkind, -⟩ := (settledAt_fan hq).mp (h c)
    exact (Settled.enterStopped h (by rw [hq]; rfl) hrun hkind).lawful
  · exact h

/-- Own claim starts its fan where that still waits (R77). -/
theorem Lawful.ownClaim (h : Lawful s) : Lawful (ownClaim s) := by
  have htaken (x : StartLogic) : Lawful (s.withStarts x) := h.kept (.of_ctl rfl rfl) rfl
  unfold Machine.ownClaim
  split
  · next d _ n _ =>
    dsimp only
    split
    · next hc => exact (htaken _).starts hc.1
    · exact htaken _
  · exact h

/-! ### Dampers and curtains (R51 to R56) -/

theorem Lawful.setTravel {st st' : TravelState} {x y : Option Nat} (h : Lawful s) (hq : (s.ch c).seq = .damper st x)
    (hlaw : TravelLaw s c st' y) : Lawful (Machine.setTravel c (.damper st' y) s) := by
  obtain ⟨hrun, hkind, -⟩ := (settledAt_damper hq).mp (h c)
  exact (Settled.setTravel h (by rw [hq]; rfl) hrun hkind hlaw).mono (fun _ hd => hd.1) fun _ hd => hd.1

/-- A travel timer that runs is that of OPENING or CLOSING, and the own limit has not made (R46, R56). -/
theorem TravelLaw.own_of_runs {st : TravelState} {n : Nat} (h : TravelLaw s c st (some n)) :
    s.inReset = false → (s.ch c).ownLimit = false := by
  cases st with
  | atOpen | atClosed => obtain ⟨-, hx, -⟩ := h; cases hx
  | jammed | limitConflict => obtain ⟨hx, -⟩ := h; cases hx
  | opening =>
    obtain ⟨htarget, -, -, hlimit⟩ := h
    simpa [Channel.ownLimit, htarget] using hlimit
  | closing =>
    obtain ⟨htarget, -, -, hlimit⟩ := h
    simpa [Channel.ownLimit, htarget] using hlimit

theorem Lawful.travelExpiry (h : Lawful s) (c : ChannelNo) : Lawful (travelExpiry c s) := by
  unfold Machine.travelExpiry
  split
  · next hq =>
    obtain ⟨-, -, -, htravel⟩ := (settledAt_damper hq).mp (h c)
    exact holds_ite (P := Lawful) h (h.setTravel hq ⟨rfl, (htravel.resolve_right fun k => k.1).own_of_runs⟩)
  · exact h

/-! ### The limits (R51 to R54, R60) -/

/-- The own limit made, and not both, go with the AT state of the target (R46). -/
theorem atTarget_law (hown : (s.ch c).ownLimit = true)
    (hboth : ¬((s.ch c).openLimit = true ∧ (s.ch c).closedLimit = true)) : TravelLaw s c (atTarget (s.ch c).target) none := by
  unfold Channel.ownLimit at hown
  cases htarget : (s.ch c).target with
  | on =>
    rw [htarget] at hown
    exact ⟨htarget, rfl, fun _ => ⟨hown, Bool.eq_false_iff.mpr fun hclosed => hboth ⟨hown, hclosed⟩⟩⟩
  | off =>
    rw [htarget] at hown
    exact ⟨htarget, rfl, fun _ => ⟨hown, Bool.eq_false_iff.mpr fun hopen => hboth ⟨hopen, hown⟩⟩⟩

/-- The own limit not made goes with the drive towards the target (R46). -/
theorem moving_law {x : Option Nat} (hown : (s.ch c).ownLimit = false) (hruns : x.isSome = true)
    (hmost : AtMost (travelTime s c) x) : TravelLaw s c (moving (s.ch c).target) x := by
  unfold Channel.ownLimit at hown
  cases htarget : (s.ch c).target with
  | on | off =>
    rw [htarget] at hown
    exact ⟨htarget, hruns, hmost, fun _ => hown⟩

theorem limitNext_law {q : TravelState × Option Nat} {st : TravelState} (h : limitNext s c st = some q) :
    TravelLaw s c q.1 q.2 := by
  unfold limitNext at h
  split at h
  · next hboth =>
    cases h
    exact ⟨rfl, fun _ => hboth⟩
  · next hboth =>
    split at h
    · next hown =>
      split at h
      · cases h
      · cases h
        exact atTarget_law hown hboth
    · next hown =>
      split at h
      · cases h
        exact moving_law (Bool.eq_false_iff.mpr hown) rfl (atMost_some.mpr le_rfl)
      · cases h

/-- A state that the tables of limit events leave as it is goes with the new limits. -/
theorem TravelLaw.of_limitNext_none {st : TravelState} {x : Option Nat} (h : TravelLaw s c st x)
    (hconfig : t.ctl.config = s.ctl.config) (htarget : (t.ch c).target = (s.ch c).target)
    (hnext : limitNext t c st = none) : TravelLaw t c st x := by
  unfold limitNext at hnext
  split at hnext
  · cases hnext
  · next hboth =>
    split at hnext
    · next hown =>
      have hlaw := atTarget_law hown hboth
      split at hnext
      · next hst =>
        rcases hst with rfl | rfl
        all_goals
          obtain ⟨hmeant, rfl, -⟩ := h
          rw [htarget, hmeant] at hlaw
          exact hlaw
      · cases hnext
    · next hown =>
      replace hown := Bool.eq_false_iff.mpr hown
      split at hnext
      · cases hnext
      · next hst =>
        cases st with
        | atOpen => exact absurd (.inl rfl) hst
        | atClosed => exact absurd (.inr (.inl rfl)) hst
        | limitConflict => exact absurd (.inr (.inr rfl)) hst
        | jammed => exact ⟨h.1, fun _ => hown⟩
        | opening | closing =>
          obtain ⟨hmeant, hruns, hmost, -⟩ := h
          have hlaw := moving_law hown hruns (by unfold travelTime at hmost ⊢; rwa [chCfg_congr hconfig])
          rw [htarget, hmeant] at hlaw
          exact hlaw

/-- In reset the state stands against any limits (R60). -/
theorem TravelLaw.in_reset {st : TravelState} {x : Option Nat} (h : TravelLaw s c st x)
    (hconfig : t.ctl.config = s.ctl.config) (htarget : (t.ch c).target = (s.ch c).target) (hreset : t.inReset = true) :
    TravelLaw t c st x := by
  have hbound (k : AtMost (travelTime s c) x) : AtMost (travelTime t c) x := by
    unfold travelTime at k ⊢
    rwa [chCfg_congr hconfig]
  have hno {P : Prop} : t.inReset = false → P := fun e => absurd (hreset.symm.trans e) nofun
  cases st with
  | atOpen | atClosed =>
    obtain ⟨hmeant, hx, -⟩ := h
    exact ⟨htarget.trans hmeant, hx, hno⟩
  | opening | closing =>
    obtain ⟨hmeant, hx, htimer, -⟩ := h
    exact ⟨htarget.trans hmeant, hx, hbound htimer, hno⟩
  | jammed | limitConflict => exact ⟨h.1, hno⟩

/-- A new level leaves the channel's law, but for the limits of a damper or curtain, of which it is still to be told. -/
theorem Lawful.storeInput (h : Lawful s) (c : ChannelNo) (i : Input) (made : Bool) :
    SameGround s (Machine.storeInput c i made s)
      ∧ Settled (fun _ => False) (fun d => d = c ∧ (s.ch c).seq.travelState ≠ none ∧ s.inReset = false)
        (Machine.storeInput c i made s) := by
  have hground : SameGround s (Machine.storeInput c i made s) := .of_ctl rfl rfl
  have hpos : SamePositions s (Machine.storeInput c i made s) := ⟨rfl, fun d => by rw [storeInput_seq]⟩
  refine ⟨hground, fun d => ?_⟩
  by_cases hd : c = d
  · subst hd
    have hself := (storeInput_ch c c i made s).trans (if_pos rfl)
    have hseq := storeInput_seq c c i made s
    have htarget : ((Machine.storeInput c i made s).ch c).target = (s.ch c).target := by rw [hself]; cases i <;> rfl
    have hout : ((Machine.storeInput c i made s).ch c).output = (s.ch c).output := by rw [hself]; cases i <;> rfl
    cases hq : (s.ch c).seq with
    | stopped =>
      rw [settledAt_stopped (hseq.trans hq), hout, hground.running, hground.chCfg]
      exact (settledAt_stopped hq).mp (h c)
    | fan st x y =>
      obtain ⟨hrun, hkind, hon, htimed, hplaced, hmeant⟩ := (settledAt_fan hq).mp (h c)
      rw [settledAt_fan (hseq.trans hq), hout, htarget, hground.running, hground.chCfg]
      exact ⟨hrun, hkind, hon, htimed, hpos.placed hplaced, .inr (hmeant.resolve_left id)⟩
    | damper st x =>
      obtain ⟨hrun, hkind, hon, htravel⟩ := (settledAt_damper hq).mp (h c)
      replace htravel := htravel.resolve_right fun k => k.1
      rw [settledAt_damper (hseq.trans hq), hout, htarget, hground.running, hground.chCfg]
      refine ⟨hrun, hkind, hon, ?_⟩
      cases hr : s.inReset with
      | true => exact .inl (htravel.in_reset hground.config htarget (hground.reset.trans hr))
      | false => exact .inr ⟨⟨rfl, nofun, rfl⟩, fun hst => by subst hst; exact htravel.1⟩
  · refine ((h d).mono id False.elim).congr hground ?_ fun _ _ _ _ => hpos.placed
    rw [storeInput_ch, if_neg hd]

/-- The limits of a damper or curtain once its sequencer is told of them. -/
theorem Lawful.limitEvent {st : TravelState} {x : Option Nat} (h : Lawful s) (i : Input) (made : Bool)
    (hq : (s.ch c).seq = .damper st x) : Lawful (Machine.limitEvent c (Machine.storeInput c i made s)) := by
  obtain ⟨hground, hstored⟩ := h.storeInput c i made
  obtain ⟨hrun, hkind, hon, htravel⟩ := (settledAt_damper hq).mp (h c)
  have hseq := (storeInput_seq c c i made s).trans hq
  have htarget : ((Machine.storeInput c i made s).ch c).target = (s.ch c).target := by
    rw [storeInput_ch, if_pos rfl]
    cases i <;> rfl
  rw [limitEvent_eq hseq]
  cases hnext : limitNext (Machine.storeInput c i made s) c st with
  | some q =>
    exact (hstored.setTravel (by rw [hseq]; rfl) (hground.running.trans hrun) (by rw [hground.chCfg, hkind])
      (limitNext_law hnext)).mono (fun _ hd => hd.1) fun _ hd => hd.2 hd.1.1
  | none =>
    have hlaw := (htravel.resolve_right fun k => k.1).of_limitNext_none hground.config htarget hnext
    obtain ⟨hrun', hkind', hon', -⟩ := (settledAt_damper hseq).mp (hstored c)
    have hself : SettledAt (False ∧ c ≠ c) ((c = c ∧ (s.ch c).seq.travelState ≠ none ∧ s.inReset = false) ∧ c ≠ c) _ c :=
      (settledAt_damper hseq).mpr ⟨hrun', hkind', hon', .inl hlaw⟩
    exact (hstored.already hself).settled.mono (fun _ hd => hd.1) fun _ hd => hd.2 hd.1.1

/-- A changed level, stored and passed on outside reset (R51, R60, R63). -/
theorem Lawful.inputChange (h : Lawful s) (c : ChannelNo) (i j : Input) (made : Bool) :
    Lawful ((Machine.storeInput c i made s).outside (inputEvent c j made)) := by
  obtain ⟨hground, hstored⟩ := h.storeInput c i made
  have hseq := storeInput_seq c c i made s
  have htold (hno : ¬((s.ch c).seq.travelState ≠ none ∧ s.inReset = false)) : Lawful (Machine.storeInput c i made s) :=
    hstored.mono (fun _ => id) fun _ hd => hno hd.2
  unfold State.outside
  rw [hground.reset]
  cases hr : s.inReset with
  | true => exact htold fun k => absurd (hr.symm.trans k.2) nofun
  | false =>
    rw [if_neg nofun]
    unfold inputEvent
    rw [hseq]
    cases hq : (s.ch c).seq with
    | stopped =>
      exact htold fun k => k.1 (by rw [hq]; rfl)
    | damper st x => exact (h.limitEvent i made hq).startTests
    | fan st x y =>
      have hlaw := htold fun k => k.1 (by rw [hq]; rfl)
      exact holds_ite (P := Lawful) (hlaw.provingEvent made c) hlaw

end Sys2Proof.Machine
end

section
/-! The commands that leave the mode as it is, on the state tables (R29, R57, R76, R94, R101, R103, R113, R128, R146): the
fourth layer under O7. -/

namespace Sys2Proof.Machine

variable {s t u : State} {c d : ChannelNo} {i p : ChannelNo → Prop}

/-! ### Work that moves no channel -/

/-- The channels are as they were, on the same ground. -/
structure Unmoved (s t : State) : Prop extends SameGround s t where
  chans : t.chans = s.chans

namespace Unmoved

theorem refl (s : State) : Unmoved s s := ⟨.refl s, rfl⟩

theorem trans (h : Unmoved s t) (k : Unmoved t u) : Unmoved s u :=
  ⟨h.toSameGround.trans k.toSameGround, k.chans.trans h.chans⟩

theorem ite {q : Prop} [Decidable q] (h : Unmoved s t) (k : Unmoved s u) : Unmoved s (if q then t else u) := by
  split
  · exact h
  · exact k

theorem same (hctl : t.ctl = s.ctl) (hchans : t.chans = s.chans) (hreset : t.panel.reset = s.panel.reset) : Unmoved s t :=
  ⟨.of_ctl hctl hreset, hchans⟩

theorem of_aside (h : Aside s t) : Unmoved s t := same h.ctl h.chans h.reset

theorem of_lessReports (h : t.lessReports = s.lessReports) : Unmoved s t := .of_aside (.of_lessReports h)

end Unmoved

theorem Settled.unmoved (h : Settled i p s) (k : Unmoved s t) : Settled i p t :=
  h.kept k.toSameGround fun c => ch_congr k.chans c

theorem Lawful.unmoved (h : Lawful s) (k : Unmoved s t) : Lawful t := Settled.unmoved h k

theorem setContain_unmoved (st : ContainState) (g : Option Nat) (s : State) : Unmoved s (setContain st g s) :=
  .trans (t := s.withContain { state := st, grace := g }) (.same rfl rfl rfl) (.of_lessReports (setContain_lessReports s st g))

theorem containComparator_unmoved (s : State) : Unmoved s (containComparator s) := by
  unfold containComparator
  cases s.contain.state with
  | pending | notAchieved => exact .ite (setContain_unmoved _ _ s) (.refl s)
  | achieved => exact .ite (.refl s) (setContain_unmoved _ _ s)
  | notApplicable | unsupervised => exact .refl s

theorem graceExpiry_unmoved (s : State) : Unmoved s (graceExpiry s) := by
  unfold graceExpiry
  split
  · exact .ite (setContain_unmoved _ _ s) (.refl s)
  · exact .refl s

theorem setPeer_unmoved (z : Nat) (x : Peer) (s : State) : Unmoved s (s.setPeer z x) := by
  unfold State.setPeer
  split
  · exact .same rfl rfl rfl
  · exact .refl s

theorem storeRegister_unmoved (new : IncidentRegister) (s : State) : Unmoved s (storeRegister new s) :=
  .trans (t := s.withReg new) (.same rfl rfl rfl) (.of_lessReports (storeRegister_lessReports s new))

theorem storeStatus_unmoved (z : Nat) (r : StatusRecord) (s : State) : Unmoved s (storeStatus z r s) :=
  .trans (t := if z = 0 ∨ z = s.station then s else s.setPeer z (heardPeer s.silence r (s.peer z)))
    (.ite (.refl s) (setPeer_unmoved _ _ s)) (.of_lessReports (storeStatus_lessReports s z r))

theorem completeListening_unmoved (s : State) : Unmoved s (completeListening s) :=
  .trans (t := s.withPeers { s.peers with listened := true }) (.same rfl rfl rfl)
    (.of_lessReports (completeListening_lessReports s))

/-! ### Pressure and supply (R57, R84, R101, R103) -/

theorem Lawful.passComparator (h : Lawful s) (n : PressureNo) (proven : Bool) : Lawful (passComparator n proven s) := by
  have hfans (l : List ChannelNo) : Lawful (l.foldl
      (fun s c => if (s.chCfg c).proving = some n then Machine.provingEvent proven c s else s) s) :=
    foldl_preserves s Lawful (fun s c => if (s.chCfg c).proving = some n then Machine.provingEvent proven c s else s)
      (fun u c k => holds_ite (P := Lawful) (Lawful.provingEvent k proven c) k) l h
  unfold Machine.passComparator
  cases (s.prCfg n).role with
  | proving => exact hfans allChannels
  | boundary => exact h.unmoved (containComparator_unmoved s)
  | unused => exact h

theorem Lawful.pairEvent (h : Lawful s) (n : PressureNo) (a b : Code) : Lawful (pairEvent n a b s) := by
  have hstored (x : PressureState) : Lawful (s.setPressure n x) := h.unmoved (.same rfl rfl rfl)
  have hfault (q : Prop) [Decidable q] (x : PressureState) (v : Bool) :
      Lawful (if q then s.setPressure n x else followLatch (sensorFault n) v (s.setPressure n x)) :=
    holds_ite (P := Lawful) (hstored x) ((hstored x).unmoved (.of_lessReports (followLatch_lessReports _ _ v)))
  exact holds_ite (P := Lawful) (hfault _ _ _) ((hfault _ _ _).passComparator _ _)

theorem Lawful.supplyEvent (h : Lawful s) (v : Nat) : Lawful (supplyEvent v s) := by
  have hmoved (x : Supply) : Unmoved s (followSupply x (s.withMeas { s.meas with supply := x })) :=
    .trans (t := s.withMeas { s.meas with supply := x }) (.same rfl rfl rfl) (.of_lessReports (followSupply_lessReports _ x))
  exact holds_ite (P := Lawful) h (h.unmoved (hmoved _)).startTests

/-! ### Frames, panel and peers (R29, R76, R130, R146) -/

theorem Lawful.applyOverride (h : Lawful s) (w : Word) : Lawful (applyOverride w s) := by
  have hmoved : Lawful (s.withRole { s.role with override := overrideMode w }) := h.withRole _
  unfold Machine.applyOverride
  exact holds_ite (P := Lawful) (hmoved.unmoved (.of_lessReports (statusNotice_lessReports _))).recompute h

theorem Lawful.applyDeclare (h : Lawful s) (own : Bool) (z : Station) (ws : List Word) :
    Lawful (applyDeclare own z ws s) := by
  unfold Machine.applyDeclare
  cases own with
  | true => exact Lawful.registerEvent (s := s.withReg (ownDeclared s.reg)) (h.unmoved (.same rfl rfl rfl)) _
  | false => exact h.registerEvent _

theorem Lawful.applyStatus (h : Lawful s) (own : Bool) (z : Station) (w1 w2 w3 : Word) :
    Lawful (applyStatus own z w1 w2 w3 s) := by
  have hstored : Lawful (statusStored own z w1 s) := by
    unfold statusStored
    cases own with
    | true => exact h.aside (ownStatusAccepted_aside s)
    | false => exact holds_whenApplied (P := Lawful) h (h.unmoved (storeStatus_unmoved _ _ s))
  have hviewed : Lawful (statusViewed own z w1 w2 w3 s) :=
    holds_whenApplied (P := Lawful) hstored
      (holds_ite (P := Lawful) hstored (hstored.unmoved (storeRegister_unmoved _ _)))
  rw [applyStatus_eq]
  exact holds_ite (P := Lawful) hviewed.recompute hviewed

theorem Lawful.peerClaim (h : Lawful s) (n : Nat) : Lawful (peerClaim n s) :=
  h.aside ((Aside.withStarts s _).trans (withdrawClaim_aside _))

theorem Lawful.silenceExpiry (h : Lawful s) (z : Nat) : Lawful (silenceExpiry z s) := by
  have hsilent : Lawful (s.setPeer z (silentPeer (s.peer z))) := h.unmoved (setPeer_unmoved z _ s)
  exact holds_ite (P := Lawful)
    (holds_ite (P := Lawful) (hsilent.unmoved (.of_lessReports (raise_lessReports _ _))).recompute hsilent) h

theorem Lawful.stopSending (h : Lawful s) (bit : Nat) : Lawful (stopSending bit s) := by
  unfold Machine.stopSending
  split
  · exact h
  · exact (h.aside (endAttempt_aside _ _ s)).startTests

end Sys2Proof.Machine
end

section
/-! The entries to the modes, the starts of the sequencers and the resets on the state tables (R48, R60, R64, R87, R156,
R163 to R174): the fifth layer under O7. -/

namespace Sys2Proof.Machine

variable {s t u : State} {c d : ChannelNo} {i p : ChannelNo → Prop} {idle told : Prop}

/-! ### A node at rest (R48, R64) -/

/-- Every sequencer is stopped and every output de-energized. -/
def Resting (s : State) : Prop := ∀ c : ChannelNo, (s.ch c).seq = .stopped ∧ (s.ch c).output = false

theorem Resting.chans (h : Resting s) (hchans : t.chans = s.chans) : Resting t := fun c => by
  rw [ch_congr hchans]
  exact h c

theorem Resting.unmoved (h : Resting s) (k : Unmoved s t) : Resting t := h.chans k.chans

theorem Resting.aside (h : Resting s) (k : Aside s t) : Resting t := h.chans k.chans

theorem Resting.lawful (h : Resting s) (hrun : s.running = false) : Lawful s := fun c => by
  obtain ⟨hseq, hout⟩ := h c
  exact (settledAt_stopped hseq).mpr (.inr ⟨hout, fun k => absurd (k.symm.trans hrun) nofun⟩)

theorem Lawful.resting (h : Lawful s) (hrun : s.running = false) : Resting s := fun c => by
  have hno {q : Prop} (k : s.running = true ∧ q) : False := nomatch (k.1.symm.trans hrun : true = false)
  cases hq : (s.ch c).seq with
  | stopped =>
    obtain ⟨hout, -⟩ := ((settledAt_stopped hq).mp (h c)).resolve_left id
    exact ⟨rfl, hout⟩
  | damper => exact (hno ((settledAt_damper hq).mp (h c))).elim
  | fan => exact (hno ((settledAt_fan hq).mp (h c))).elim

/-- Before the sequencers start every channel of a kind other than UNUSED is still to be started. -/
theorem Resting.settled (h : Resting s) : Settled (fun c => (s.chCfg c).kind ≠ .unused) (fun _ => False) s := fun c => by
  obtain ⟨hseq, hout⟩ := h c
  refine (settledAt_stopped hseq).mpr ?_
  by_cases hk : (s.chCfg c).kind = .unused
  · exact .inr ⟨hout, fun _ => hk⟩
  · exact .inl hk

theorem Resting.startTests (h : Resting s) : Resting (startTests s) := fun c => by
  rw [startTests_ch_of_not_waiting (waitsForSlot_of_no_fan (by rw [(h c).1]; rfl))]
  exact h c

theorem Resting.noticed (h : Resting s) (changed : List ChannelNo) (b : Bool) (old new : ZoneRole) :
    Resting (noticed changed b old new s) := by
  have hrole : Resting (if b then containRole old new (statusNotice s) else s) := by
    cases b with
    | false => exact h
    | true =>
      obtain ⟨-, -, -, hchans, -⟩ := lessReports_eq (statusNotice_lessReports s)
      obtain ⟨-, hchans', -⟩ := containRole_keeps (s := statusNotice s) old new
      exact h.chans (hchans'.trans hchans)
  have hdamper (v : State) (hv : Resting v) (c : ChannelNo) : Resting (damperTarget c v) := by
    have hidle : damperTarget c v = v := by simp [damperTarget, (hv c).1]
    rwa [hidle]
  have hfan (x y : Bool) (v : State) (hv : Resting v) (c : ChannelNo) : Resting (fanNotice x y c v) := by
    have hidle : fanNotice x y c v = v := by simp [fanNotice, fanTarget, fanRole, (hv c).1]
    rwa [hidle]
  exact foldl_preserves _ Resting _ (fun v c hv => hfan _ _ v hv c) _
    (foldl_preserves _ Resting _ (fun v c hv => hdamper v hv c) _ hrole)

/-- A recompute gives targets to stopped sequencers, and starts none (R40, R48). -/
theorem Resting.recompute (h : Resting s) : Resting (recompute s) := by
  have hreplace (v : State) (hv : Resting v) (c : ChannelNo) : Resting (replaceTarget c (newTarget v c) v) := fun d => by
    have hch : (replaceTarget c (newTarget v c) v).ch d = if c = d
        then { v.ch c with target := newTarget v c, output := outputOf (newTarget v c) (v.ch c).seq } else v.ch d :=
      State.ch_setCh ..
    rw [hch]
    split
    · exact ⟨(hv c).1, by rw [(hv c).1]; rfl⟩
    · exact hv d
  cases ha : s.ctl.mode.applies with
  | false => rwa [recompute_idle s ha]
  | true =>
    rw [recompute_eq ha]
    have hderived : Resting (derived s) := h
    exact ((foldl_preserves _ Resting _ (fun v c hv => hreplace v hv c) _ hderived).noticed _ _ _ _).startTests

/-! ### The sequencers start (R48, R49, R64, R67, R87) -/

theorem SettledAt.no_fan (h : SettledAt idle told s c) (hkind : (s.chCfg c).kind.isFan = false) : (s.ch c).seq.fanState = none := by
  cases hq : (s.ch c).seq with
  | stopped | damper => rfl
  | fan st x y =>
    obtain ⟨-, hfan, -⟩ := (settledAt_fan hq).mp h
    rw [hkind] at hfan
    cases hfan

theorem SettledAt.no_travel (h : SettledAt idle told s c) (hkind : (s.chCfg c).kind.isFan = true) :
    (s.ch c).seq.travelState = none := by
  cases hq : (s.ch c).seq with
  | stopped | fan => rfl
  | damper st x =>
    obtain ⟨-, hdamper, -⟩ := (settledAt_damper hq).mp h
    rw [isFan_of_isDamper hdamper] at hkind
    cases hkind

theorem Settled.startDamper (h : Settled i p s) (hrun : s.running = true) (c : ChannelNo) {f : ChannelNo → Prop}
    (hf : (s.chCfg c).kind.isDamper = false → f c) : SettlesBut f i p c s (startDamper c s) := by
  unfold Machine.startDamper
  cases hkind : (s.chCfg c).kind.isDamper with
  | false => exact h.left (hf hkind)
  | true => exact .of_settles (h.deriveTravel ((h c).no_fan (isFan_of_isDamper hkind)) hrun hkind)

theorem Settled.startFan (h : Settled i p s) (hrun : s.running = true) (c : ChannelNo) {f : ChannelNo → Prop}
    (hf : (s.chCfg c).kind.isFan = false → f c) : SettlesBut f i p c s (startFan c s) := by
  unfold Machine.startFan
  cases hkind : (s.chCfg c).kind.isFan with
  | false => exact h.left (hf hkind)
  | true => exact .of_settles (h.enterStopped ((h c).no_travel hkind) hrun hkind)

/-- A fan that was on has target RUN, so it resumes in RUNNING or STARTING (R87). -/
theorem Settled.resumeFan (h : Settled i p s) (hrun : s.running = true) (before : Sequencer) (c : ChannelNo)
    (hon : ∀ st x y, before = .fan st x y → st.outputOn = true → (s.ch c).target = .on) {f : ChannelNo → Prop}
    (hf : (s.chCfg c).kind.isFan = false → f c) : SettlesBut f i p c s (resumeFan before c s) := by
  unfold Machine.resumeFan
  cases hkind : (s.chCfg c).kind.isFan with
  | false => exact h.left (hf hkind)
  | true =>
    have hno := (h c).no_travel hkind
    have hstopped := SettlesBut.of_settles (f := f) (h.enterStopped hno hrun hkind)
    cases before with
    | stopped | damper => exact hstopped
    | fan st x y =>
      cases st with
      | starting | running | proveFail | runLost =>
        exact .of_settles (h.enterStarting hno hrun hkind (hon _ _ _ rfl rfl))
      | stopping => exact .of_settles (h.enterStopping hno hrun hkind)
      | stopped | awaitingInterlock | blocked | awaitingSlot | failedOff => exact hstopped

theorem kind_of_no_travel_no_fan {k : ChannelKind} (h : k.isDamper = false) (h' : k.isFan = false) : k = .unused := by
  cases k with
  | unused => rfl
  | damper | curtain => cases h
  | extractFan | supplyFan => cases h'

/-- Dampers and curtains start, then each fan by its own start, and every channel has its law. -/
theorem Settled.started {g : State → ChannelNo → State} (h : Settled (fun c => (s.chCfg c).kind ≠ .unused) (fun _ => False) s)
    (hrun : s.running = true) (hrest : ∀ v c, (g v c).lessSequencing = v.lessSequencing)
    (hg : ∀ v i' p', v.lessSequencing = s.lessSequencing → Settled i' p' v → ∀ c,
      SettlesBut (fun d => (s.chCfg d).kind.isFan = false) i' p' c v (g v c)) :
    Lawful (allChannels.foldl g (allChannels.foldl (fun s c => Machine.startDamper c s) s)) := by
  have hdampers := foldl_settles (f := fun d => (s.chCfg d).kind.isDamper = false) (g := fun s c => Machine.startDamper c s)
    (fun v c => startDamper_lessSequencing v c)
    (fun v i' p' hv _ _ hs c => by
      have hground := SameGround.of_lessSequencing hv
      exact hs.startDamper (hground.running.trans hrun) c fun hk => by rwa [hground.chCfg] at hk) allChannels h
  have hstarted := foldl_startDamper_lessSequencing allChannels s
  have hfans := foldl_settles hrest
    (fun v i' p' hv _ _ hs c => hg v i' p' (hv.trans hstarted) hs c) allChannels hdampers
  refine hfans.mono (fun d hd => ?_) fun d hd => hd.1.1
  obtain ⟨⟨hused, hnodamper⟩, hnofan⟩ := hd
  exact hused (kind_of_no_travel_no_fan (hnodamper (mem_allChannels d)) (hnofan (mem_allChannels d)))

theorem Resting.startSequencers (h : Resting s) (hrun : s.running = true) : Lawful (startSequencers s) :=
  h.settled.started hrun (fun v c => startFan_lessSequencing v c) fun v i' p' hv hs c => by
    have hground := SameGround.of_lessSequencing hv
    exact hs.startFan (hground.running.trans hrun) c fun hk => by rwa [hground.chCfg] at hk

/-! ### ACTIVE and LISTEN (R169, R170) -/

theorem running_of_sequencing (hseq : s.sequencing = true) (hfive : s.panel.reset.fiveSecs = false) : s.running = true := by
  unfold State.running
  rw [hseq, hfive]
  rfl

theorem running_of_stopped (hseq : s.sequencing = false) : s.running = false := by
  unfold State.running
  rw [hseq]
  rfl

theorem graceStart_unmoved (s : State) : Unmoved s (graceStart s) := .ite (.same rfl rfl rfl) (.refl s)

theorem Resting.enterActive (h : Resting s) (hfive : s.panel.reset.fiveSecs = false) : Lawful (enterActive s) := by
  have hresting : Resting (Machine.recompute (activated s)) := Resting.recompute (s := activated s) h
  obtain ⟨hctl, -, -, -, -, hpanel, -⟩ := lessRoles_eq (recompute_lessRoles (activated s))
  have hrun : (Machine.recompute (activated s)).running = true := by
    refine running_of_sequencing ?_ (by rw [hpanel]; exact hfive)
    unfold State.sequencing
    rw [hctl]
    rfl
  rw [enterActive_eq]
  exact (((hresting.startSequencers hrun).unmoved (graceStart_unmoved _)).unmoved (completeListening_unmoved _)).startTests

theorem Resting.endListenOnAlarm (h : Resting s) (hm : s.ctl.mode = .listen) (hfive : s.panel.reset.fiveSecs = false) :
    Lawful (endListenOnAlarm s) := by
  have hidle : s.sequencing = false := by unfold State.sequencing; rw [hm]
  exact holds_ite (P := Lawful) (h.enterActive hfive) (h.lawful (running_of_stopped hidle))

/-- A recompute at an entry to LISTEN, and its end on ALARM (R169). -/
theorem Resting.listened (h : Resting s) (hm : s.ctl.mode = .listen) (hfive : s.panel.reset.fiveSecs = false) :
    Lawful (Machine.endListenOnAlarm (Machine.recompute (declarationCheck s))) := by
  have haside := declarationCheck_aside s
  obtain ⟨hctl, -, -, -, -, hpanel, -⟩ := lessRoles_eq (recompute_lessRoles (declarationCheck s))
  exact (h.aside haside).recompute.endListenOnAlarm (by rw [hctl, haside.ctl, hm]) (by rw [hpanel, haside.reset, hfive])

/-- A change of mode moves no channel, nor the RESET line. -/
theorem beginListen_kept (s : State) : (beginListen s).chans = s.chans ∧ (beginListen s).panel.reset = s.panel.reset := by
  have haside := startStagger_aside (setMode .listen
    (s.withCtl { s.ctl with listenTimer := some listenTime, quietTimer := none, origin := none }))
  exact ⟨haside.chans, haside.reset⟩

theorem Resting.enterListen (h : Resting s) (hfive : s.panel.reset.fiveSecs = false) : Lawful (enterListen s) := by
  obtain ⟨hchans, hreset⟩ := beginListen_kept s
  have hbegun : Resting (setScan (scanFrom (beginListen s) 0) (beginListen s)) := h.chans hchans
  exact hbegun.listened (beginListen_mode s) (by rw [← hfive, ← hreset]; rfl)

theorem Resting.reenterListen (h : Resting s) (hfive : s.panel.reset.fiveSecs = false) : Lawful (reenterListen s) := by
  obtain ⟨hchans, hreset⟩ := beginListen_kept s
  have haside := replaceDeclare_aside (beginListen s)
  exact ((h.chans hchans).aside haside).listened (by rw [haside.ctl, beginListen_mode]) (by rw [haside.reset, hreset, hfive])

/-! ### MUTE (R171) -/

/-- A change of mode that leaves configuration and sequencers as they are. -/
theorem setMode_unmoved (m : Mode) (x : ModeCtl) (hconfig : x.config = s.ctl.config)
    (hrun : (s.withCtl { x with mode := m }).sequencing = s.sequencing) : Unmoved s (setMode m (s.withCtl x)) := by
  have hset : SameGround s (s.withCtl { x with mode := m }) := by
    refine ⟨hconfig, ?_, rfl⟩
    unfold State.running
    rw [hrun]
    rfl
  exact ⟨hset.trans (.of_ctl rfl rfl), rfl⟩

theorem Lawful.leaveMute (h : Lawful s) (hm : s.ctl.mode = .mute) (horigin : s.ctl.origin.isSome = true)
    (hfive : s.panel.reset.fiveSecs = false) : Lawful (leaveMute s) := by
  have hended : Aside s (endCond (plainCond .stationConflict) s) := .of_lessReports (endCond_lessReports s _)
  have hsequencing : (endCond (plainCond .stationConflict) s).sequencing = (s.ctl.origin == some .active) := by
    unfold State.sequencing
    rw [hended.ctl, hm]
  unfold Machine.leaveMute
  cases ho : s.ctl.origin with
  | none => rw [ho] at horigin; cases horigin
  | some o =>
    cases o with
    | listen =>
      have hidle : (endCond (plainCond .stationConflict) s).sequencing = false := by rw [hsequencing, ho]; rfl
      exact ((h.aside hended).resting (running_of_stopped hidle)).reenterListen (by rw [hended.reset, hfive])
    | active =>
      have hrun : (endCond (plainCond .stationConflict) s).sequencing = true := by rw [hsequencing, ho]; rfl
      have hactive := (h.aside hended).unmoved (setMode_unmoved .active
        { (endCond (plainCond .stationConflict) s).ctl with quietTimer := none, origin := none } rfl hrun.symm)
      exact (((hactive.aside (startStagger_aside _)).recomputed (replaceDeclare_aside _)).unmoved
        (completeListening_unmoved _)).startTests

theorem Lawful.enterMute (h : Lawful s) (o : Origin) (hrun : (o == .active) = s.sequencing) : Lawful (enterMute o s) := by
  have hset : Unmoved s (setMode .mute (s.withCtl
      { s.ctl with listenTimer := none, quietTimer := some quietTime, origin := some o })) := by
    refine setMode_unmoved .mute _ rfl ?_
    rw [← hrun]
    cases o <;> rfl
  have hentered : Unmoved s (muteEntered o s) := hset.trans (.same rfl rfl rfl)
  rw [enterMute_eq]
  exact ((h.unmoved hentered).unmoved (.of_lessReports (muteReported_lessReports o s))).recompute.startTests

theorem Lawful.evidence (h : Lawful s) : Lawful (evidence s) := by
  unfold Machine.evidence
  cases hm : s.ctl.mode with
  | listen => exact h.enterMute .listen (by unfold State.sequencing; rw [hm]; rfl)
  | active => exact h.enterMute .active (by unfold State.sequencing; rw [hm]; rfl)
  | mute => exact h.kept ⟨rfl, rfl, rfl⟩ rfl
  | start | config | lockout => exact h

/-! ### START, CONFIG and LOCKOUT (R164, R165, R172) -/

theorem sequencing_lockout (s : State) : (enterLockout s).sequencing = false := by
  have haside : Aside (setMode .lockout s) (enterLockout s) :=
    .trans (.of_lessReports (raise_lessReports _ _)) (startStagger_aside _)
  unfold State.sequencing
  rw [haside.ctl]
  rfl

theorem Resting.enterLockout (h : Resting s) : Lawful (enterLockout s) := by
  have haside : Aside (setMode .lockout s) (Machine.enterLockout s) :=
    .trans (.of_lessReports (raise_lessReports _ _)) (startStagger_aside _)
  exact (h.chans haside.chans).lawful (running_of_stopped (sequencing_lockout s))

theorem Resting.sampleStraps (h : Resting s) (x : StrapPins) : Lawful (sampleStraps x s) := by
  unfold Machine.sampleStraps
  refine holds_ite (P := Lawful) (Resting.enterLockout h) (Resting.lawful h ?_)
  exact running_of_stopped rfl

theorem Lawful.configRead (h : Lawful s) (b : ConfigBytes) (hm : s.ctl.mode = .config)
    (hfive : s.panel.reset.fiveSecs = false) : Lawful (configRead b s) := by
  have hresting := h.resting (running_of_stopped (by unfold State.sequencing; rw [hm]))
  unfold Machine.configRead
  exact holds_ite (P := Lawful) (Resting.enterListen (s := s.withCtl { s.ctl with config := some (decodeConfig s.station b) })
    hresting hfive) hresting.enterLockout

/-! ### Resets (R60, R87, R156, R173, R174) -/

theorem coldReset_lawful (x : StrapPins) (s : State) : Lawful (coldReset x s) := by
  have hresting : Resting (coldState x s) := fun c => by
    have hch : (coldState x s).ch c = { Channel.reset with inA := (s.ch c).inA.cold, inB := (s.ch c).inB.cold } :=
      mapVec_getElem ..
    rw [hch]
    exact ⟨rfl, rfl⟩
  exact hresting.sampleStraps x

/-- The hold of 5 s stops every sequencer and de-energizes every output (R156). -/
theorem resetHold5s_lawful (s : State) (x : ResetLine) (hx : x.fiveSecs = true) :
    Lawful ((allOutputsOff s).withPanel { s.panel with reset := x }) := by
  have hresting : Resting ((allOutputsOff s).withPanel { s.panel with reset := x }) := fun c => by
    have hch : ((allOutputsOff s).withPanel { s.panel with reset := x }).ch c = { s.ch c with seq := .stopped, output := false } :=
      ch_mapVec (fun x => { x with seq := .stopped, output := false }) s c
    rw [hch]
    exact ⟨rfl, rfl⟩
  refine hresting.lawful ?_
  unfold State.running
  change (_ && !x.fiveSecs) = false
  rw [hx, Bool.not_true, Bool.and_false]

end Sys2Proof.Machine
end

section
/-! O7: every command and every millisecond keep the state tables of the sequencers (R46 to R48, R60, R64, R65, R70, R87). -/

namespace Sys2Proof.Machine

variable {s t u : State} {c d : ChannelNo} {idle told : Prop}

/-! ### Time (R57, R84) -/

/-- A timer that runs on, or stands still, as the other does. -/
structure Counted (x y : Option Nat) : Prop where
  runs : y.isSome = x.isSome
  most : ∀ n, AtMost n x → AtMost n y

theorem Counted.refl (x : Option Nat) : Counted x x := ⟨rfl, fun _ => id⟩

theorem Counted.countDown (n : Nat) (x : Option Nat) : Counted x (countDown n x) :=
  ⟨countDown_isSome n x, fun _ => atMost_countDown n⟩

theorem Counted.stopped {x y : Option Nat} (h : Counted x y) (hx : x = none) : y = none := by
  have hruns := h.runs
  rw [hx] at hruns
  exact Option.not_isSome_iff_eq_none.mp (by rw [hruns]; exact Bool.false_ne_true)

theorem TravelLaw.counted {st : TravelState} {x y : Option Nat} (h : TravelLaw s c st x) (hy : Counted x y)
    (hconfig : t.ctl.config = s.ctl.config) (hreset : t.inReset = s.inReset) (htarget : (t.ch c).target = (s.ch c).target)
    (hA : (t.ch c).inA.level = (s.ch c).inA.level) (hB : (t.ch c).inB.level = (s.ch c).inB.level) : TravelLaw t c st y := by
  unfold TravelLaw travelTime Channel.ownLimit Channel.openLimit Channel.closedLimit at h ⊢
  dsimp only at h ⊢
  rw [hreset, chCfg_congr hconfig, htarget, hA, hB]
  cases st with
  | atOpen | atClosed =>
    obtain ⟨hmeant, hx, hlimits⟩ := h
    exact ⟨hmeant, hy.stopped hx, hlimits⟩
  | opening | closing =>
    obtain ⟨hmeant, hx, hmost, hlimit⟩ := h
    exact ⟨hmeant, hy.runs.trans hx, hy.most _ hmost, hlimit⟩
  | jammed | limitConflict =>
    obtain ⟨hx, hlimits⟩ := h
    exact ⟨hy.stopped hx, hlimits⟩

theorem FanTimed.counted {k : ChannelConfig} {st : FanState} {x y x' y' : Option Nat} (h : FanTimed k st x y)
    (hx : Counted x x') (hy : Counted y y') : FanTimed k st x' y' := by
  unfold FanTimed at h ⊢
  cases st with
  | starting =>
    obtain ⟨⟨hruns, hmost⟩, hstopped⟩ := h
    exact ⟨⟨hx.runs.trans hruns, hx.most _ hmost⟩, hy.stopped hstopped⟩
  | stopping =>
    obtain ⟨hstopped, hruns, hmost⟩ := h
    exact ⟨hx.stopped hstopped, hy.runs.trans hruns, hy.most _ hmost⟩
  | stopped | awaitingInterlock | blocked | awaitingSlot | running | proveFail | runLost | failedOff =>
    obtain ⟨hx', hy'⟩ := h
    exact ⟨hx.stopped hx', hy.stopped hy'⟩

/-- A sequencer of the same state, its timers run on or not. -/
inductive SeqCounted : Sequencer → Sequencer → Prop
  | stopped : SeqCounted .stopped .stopped
  | damper {x y : Option Nat} (st : TravelState) (h : Counted x y) : SeqCounted (.damper st x) (.damper st y)
  | fan {x y x' y' : Option Nat} (st : FanState) (h : Counted x x') (k : Counted y y') :
    SeqCounted (.fan st x y) (.fan st x' y')

theorem SeqCounted.refl (q : Sequencer) : SeqCounted q q := by
  cases q with
  | stopped => exact .stopped
  | damper st x => exact .damper st (.refl x)
  | fan st x y => exact .fan st (.refl x) (.refl y)

theorem SeqCounted.tickSeq (k : ChannelKind) (supply : Supply) (q : Sequencer) : SeqCounted q (tickSeq k supply q) := by
  cases q with
  | stopped => exact .stopped
  | damper st x => exact .damper st (.countDown _ x)
  | fan st x y =>
    refine .fan st ?_ (.countDown 1 y)
    split
    · exact .refl x
    · exact .countDown 1 x

theorem SeqCounted.travelState {q r : Sequencer} (h : SeqCounted q r) : r.travelState = q.travelState := by
  cases h <;> rfl

/-- Channels whose timers and deglitch intervals alone have run on, on the same ground. -/
theorem Lawful.counted (h : Lawful s) (k : SameGround s t) (hseq : ∀ c : ChannelNo, SeqCounted (s.ch c).seq (t.ch c).seq)
    (hkept : ∀ c : ChannelNo, (t.ch c).target = (s.ch c).target ∧ (t.ch c).output = (s.ch c).output
      ∧ (t.ch c).inA.level = (s.ch c).inA.level ∧ (t.ch c).inB.level = (s.ch c).inB.level) : Lawful t := fun c => by
  have hpos : SamePositions s t := ⟨k.config, fun d => (hseq d).travelState⟩
  obtain ⟨htarget, hout, hA, hB⟩ := hkept c
  have hcounted := hseq c
  have hlaw := h c
  generalize hr : (t.ch c).seq = r at hcounted
  generalize hq : (s.ch c).seq = q at hcounted
  cases hcounted with
  | stopped =>
    rw [settledAt_stopped hr, hout, k.running, k.chCfg]
    exact (settledAt_stopped hq).mp hlaw
  | damper st hx =>
    obtain ⟨hrun, hkind, hon, htravel⟩ := (settledAt_damper hq).mp hlaw
    rw [settledAt_damper hr, hout, htarget, k.running, k.chCfg]
    exact ⟨hrun, hkind, hon, .inl ((htravel.resolve_right fun x => x.1).counted hx k.config k.reset htarget hA hB)⟩
  | fan st hx hy =>
    obtain ⟨hrun, hkind, hon, htimed, hplaced, hmeant⟩ := (settledAt_fan hq).mp hlaw
    rw [settledAt_fan hr, hout, htarget, k.running, k.chCfg]
    exact ⟨hrun, hkind, hon, htimed.counted hx hy, hpos.placed hplaced, hmeant⟩

/-- Time moves timers and deglitch intervals alone (R45, R57, R84). -/
theorem passMs_ground (s : State) : SameGround s (passMs s) := by
  have hctl : (passMs s).ctl.config = s.ctl.config ∧ (passMs s).sequencing = s.sequencing := by
    unfold State.sequencing
    cases hr : s.inReset with
    | true => rw [passMs_inReset hr]; exact ⟨rfl, rfl⟩
    | false => rw [passMs_outside hr]; exact ⟨rfl, rfl⟩
  refine ⟨hctl.1, ?_, passMs_held s⟩
  unfold State.running
  rw [hctl.2, (passMs_roleKept s).five]

theorem Lawful.passMs (h : Lawful s) : Lawful (passMs s) := by
  refine h.counted (passMs_ground s) (fun c => ?_) fun c => ?_
  · rw [passMs_ch]
    cases s.inReset with
    | true => exact .refl _
    | false => exact .tickSeq _ _ _
  · rw [passMs_ch]
    exact ⟨rfl, rfl, rfl, rfl⟩

/-! ### The node in reset, and its release (R60, R87, R156, R173) -/

/-- A node taken into reset: no limit is acted on from here (R60). -/
theorem Lawful.held (h : Lawful s) (hchans : t.chans = s.chans) (hconfig : t.ctl.config = s.ctl.config)
    (hrun : t.running = s.running) (hreset : t.inReset = true) : Lawful t := fun c => by
  have hch := ch_congr hchans c
  have hpos : SamePositions s t := ⟨hconfig, fun d => by rw [ch_congr hchans d]⟩
  have hcfg := chCfg_congr hconfig c
  cases hq : (s.ch c).seq with
  | stopped =>
    rw [settledAt_stopped (by rw [hch, hq]), hch, hrun, hcfg]
    exact (settledAt_stopped hq).mp (h c)
  | damper st x =>
    obtain ⟨hrun', hkind, hon, htravel⟩ := (settledAt_damper hq).mp (h c)
    rw [settledAt_damper (by rw [hch, hq]), hch, hrun, hcfg]
    exact ⟨hrun', hkind, hon, .inl ((htravel.resolve_right fun k => k.1).in_reset hconfig (by rw [hch]) hreset)⟩
  | fan st x y =>
    obtain ⟨hrun', hkind, hon, htimed, hplaced, hmeant⟩ := (settledAt_fan hq).mp (h c)
    rw [settledAt_fan (by rw [hch, hq]), hch, hrun, hcfg]
    exact ⟨hrun', hkind, hon, htimed, hpos.placed hplaced, hmeant⟩

/-- A fan that is on has target RUN (R65). -/
theorem FanMeant.on {x : Target} {st : FanState} (h : FanMeant x st) (hon : st.outputOn = true) : x = .on := by
  cases st with
  | starting | running | proveFail | runLost => exact h
  | stopped | awaitingInterlock | blocked | awaitingSlot | stopping | failedOff => cases hon

/-- An UNUSED channel is de-energized (R48, R64). -/
theorem SettledAt.off_of_unused (h : SettledAt idle told s c) (hidle : ¬idle) (hkind : (s.chCfg c).kind = .unused) :
    (s.ch c).output = false := by
  cases hq : (s.ch c).seq with
  | stopped => exact (((settledAt_stopped hq).mp h).resolve_left hidle).1
  | damper =>
    obtain ⟨-, hdamper, -⟩ := (settledAt_damper hq).mp h
    rw [hkind] at hdamper
    cases hdamper
  | fan =>
    obtain ⟨-, hfan, -⟩ := (settledAt_fan hq).mp h
    rw [hkind] at hfan
    cases hfan

/-- The release into ACTIVE: dampers and curtains by the entry derivation, fans from the states they held (R60, R87). -/
theorem Lawful.resumeActive (h : Lawful s) (hstation : s.station ≠ 0) (hresolved : Resolved s) :
    Lawful (resumeActive (releaseReset s)) := by
  have hreleased := releasedActive_released s
  have hchans : (resumedActive s).chans = (releasedActive s).chans :=
    resumeBlocks_chans (by rw [hreleased.station]; exact hstation) (.inr rfl) (hreleased.resolved hresolved)
  have hch (c : ChannelNo) : (resumedActive s).ch c = { s.ch c with seq := .stopped } := by
    rw [ch_congr hchans c, releasedActive_ch]
  obtain ⟨hctl, -, -, hreset, -⟩ := shell_eq (resumeBlocks_shell (releasedActive s))
  have hcfg (c : ChannelNo) : (resumedActive s).chCfg c = s.chCfg c := chCfg_congr (by rw [resumedActive, hctl]; rfl) c
  have hrun : (resumedActive s).running = true := by
    refine running_of_sequencing ?_ (by rw [resumedActive, hreset]; rfl)
    unfold State.sequencing
    rw [resumedActive, hctl]
    rfl
  have hhalted : Settled (fun c => ((resumedActive s).chCfg c).kind ≠ .unused) (fun _ => False) (resumedActive s) := fun c => by
    rw [settledAt_stopped (by rw [hch]), hch, hcfg]
    by_cases hk : (s.chCfg c).kind = .unused
    · exact .inr ⟨(h c).off_of_unused id hk, fun _ => hk⟩
    · exact .inl (show ((resumedActive s).chCfg c).kind ≠ .unused by rw [hcfg]; exact hk)
  have hstarted : Lawful (resumeSequencers s.chans (resumedActive s)) := by
    refine hhalted.started hrun (fun v c => resumeFan_lessSequencing v _ c) fun v i' p' hv hs c => ?_
    have hground := SameGround.of_lessSequencing hv
    refine hs.resumeFan (hground.running.trans hrun) _ c (fun st x y hbefore hon => ?_) fun hk => by rwa [hground.chCfg] at hk
    obtain ⟨-, -, -, -, -, hmeant⟩ := (settledAt_fan hbefore).mp (h c)
    rw [(lessSequencing_eq_ch hv c).1, hch]
    exact (hmeant.resolve_left id).on hon
  rw [resumeActive_released]
  exact (hstarted.unmoved (completeListening_unmoved _)).startTests

theorem resumeListen_lawful (hstation : s.station ≠ 0) (hresolved : Resolved s) : Lawful (resumeListen (releaseReset s)) := by
  have hreleased := releasedListen_released s
  have hchans : (resumeBlocks (releasedListen s)).chans = (releasedListen s).chans :=
    resumeBlocks_chans (by rw [hreleased.station]; exact hstation) (.inl rfl) (hreleased.resolved hresolved)
  obtain ⟨hctl, -, -, hreset, -⟩ := shell_eq (resumeBlocks_shell (releasedListen s))
  have hresting : Resting (resumeBlocks (releasedListen s)) := fun c => by
    rw [ch_congr hchans c, releasedListen_ch]
    exact ⟨rfl, rfl⟩
  rw [resumeListen_released]
  exact hresting.endListenOnAlarm (by rw [hctl]; rfl) (by rw [hreset]; rfl)

theorem Lawful.warmReset (h : Lawful s) (hmode : ModeLaw s) (hrole : RoleLaw s)
    (hfive : s.panel.reset.fiveSecs = false) : Lawful (warmReset s) := by
  have hstation (ha : s.ctl.mode.applies = true) : s.station ≠ 0 := by
    obtain ⟨-, -, -, -, -, -, -, hown, -⟩ := hmode
    have := hown (.inr ha)
    omega
  have hresolved (ha : s.ctl.mode.applies = true) : Resolved s := resolved_of_roleLaw hrole ha hfive
  have hreleased (hs : s.sequencing = false) : Resting (releaseReset s) := h.resting (running_of_stopped hs)
  have hidle (hs : s.sequencing = false) : (releaseReset s).running = false := running_of_stopped hs
  cases hm : s.ctl.mode with
  | start =>
    rw [warmReset_of_start hm]
    exact (hreleased (by unfold State.sequencing; rw [hm])).sampleStraps _
  | config =>
    have hs : s.sequencing = false := by unfold State.sequencing; rw [hm]
    rw [warmReset_of_config hm]
    exact (hreleased hs).lawful (hidle hs)
  | listen =>
    have ha : s.ctl.mode.applies = true := by rw [hm]; rfl
    rw [warmReset_of_listen hm]
    exact resumeListen_lawful (hstation ha) (hresolved ha)
  | active =>
    have ha : s.ctl.mode.applies = true := by rw [hm]; rfl
    rw [warmReset_of_active (.inl hm)]
    exact h.resumeActive (hstation ha) (hresolved ha)
  | mute =>
    have ha : s.ctl.mode.applies = true := by rw [hm]; rfl
    rw [warmReset_of_active (.inr hm)]
    exact h.resumeActive (hstation ha) (hresolved ha)
  | lockout =>
    have hs : s.sequencing = false := by unfold State.sequencing; rw [hm]
    rw [warmReset_of_lockout hm]
    exact (((hreleased hs).lawful (hidle hs)).unmoved (.of_lessReports (raise_lessReports _ _))).aside (startStagger_aside _)

/-! ### Every command -/

theorem Lawful.alarmEvent (h : Lawful s) (active : Bool) (hfive : s.panel.reset.fiveSecs = false) :
    Lawful (alarmEvent active s) := by
  have hnotice : Aside s (statusNotice s) := .of_lessReports (statusNotice_lessReports s)
  have hchecked := hnotice.trans (declarationCheck_aside _)
  unfold Machine.alarmEvent
  dsimp only
  split
  · split
    · next hm =>
      have hidle : (Machine.declarationCheck (statusNotice s)).sequencing = false := by unfold State.sequencing; rw [hm]
      exact ((h.aside hchecked).resting (running_of_stopped hidle)).enterActive (by rw [hchecked.reset, hfive])
    · exact h.aside hchecked
  · exact h.aside hnotice

theorem Lawful.acceptFrame {own : Bool} {f : Frame} {blocks : State → State} (h : Lawful s)
    (hb : ∀ u, Lawful u → Lawful (blocks u)) : Lawful (acceptFrame own f blocks s) := by
  cases hh : s.hears with
  | false =>
    unfold Machine.acceptFrame
    rwa [State.accepts_eq, if_neg (by simp [hh])]
  | true =>
    have hblocks := hb _ (h.aside (frameIn_aside own s))
    rw [acceptFrame_eq own f blocks hh]
    have hconflict : Lawful (detectConflict own f (blocks (frameIn own s))) :=
      holds_ite (P := Lawful) hblocks.evidence hblocks
    exact hconflict.startTests.aside (settleRaises_aside _ _)

/-- The work of a node outside reset keeps the law where it keeps it short of 5 s. -/
theorem Lawful.outside {f : State → State} (h : Lawful s) (hf : s.inReset = false → Lawful (f s)) :
    Lawful (s.outside f) := by
  cases hr : s.inReset with
  | true => rwa [outside_of_inReset hr]
  | false =>
    rw [outside_of_not_inReset hr]
    exact hf hr

theorem Lawful.resetHeld (h : Lawful s) (hfive : s.panel.reset.fiveSecs = false) (x : ResetLine) (hx : x.held = true)
    (hx' : x.fiveSecs = false) : Lawful ((resetHeld s).withPanel { s.panel with reset := x }) := by
  refine h.held rfl rfl ?_ hx
  unfold State.running
  rw [hfive]
  change (_ && !x.fiveSecs) = _
  rw [hx']
  rfl

theorem exec_lawful {i : Instr} (hmode : ModeLaw s) (hrole : RoleLaw s) (h : Lawful s) (e : exec i s = .next t) : Lawful t := by
  have hfive := fiveSecs_of_awake hmode
  cases i with
  | powerUp p => cases e; exact coldReset_lawful p s
  | coldReset p => cases e; exact coldReset_lawful p s
  | resetHeld => cases e; exact h.outside fun hr => h.resetHeld (hfive hr) _ rfl rfl
  | resetHold5s => cases e; exact holds_ite (P := Lawful) (resetHold5s_lawful s _ rfl) h
  | warmReset =>
    cases e
    split
    · next hheld => exact (h.warmReset hmode hrole hheld.2).aside (settleRaises_aside _ _)
    · exact h
  | configReadDone b =>
    cases e
    refine h.outside fun hr => ?_
    split
    · next hm => exact (h.configRead b hm (hfive hr)).aside (settleRaises_aside _ _)
    · exact h
  | listenTimerExpiry =>
    cases e
    refine h.outside fun hr => ?_
    split
    · next hm =>
      have hidle : s.sequencing = false := by unfold State.sequencing; rw [hm.1]
      exact ((h.resting (running_of_stopped hidle)).enterActive (hfive hr)).aside (settleRaises_aside _ _)
    · exact h
  | muteQuietTimerExpiry =>
    cases e
    obtain ⟨-, -, -, -, horigin, -⟩ := hmode
    refine h.outside fun hr => ?_
    split
    · next hm => exact (h.leaveMute hm.1 (horigin.mpr hm.1) (hfive hr)).aside (settleRaises_aside _ _)
    · exact h
  | lineIdle levels => cases e; exact h.outside fun _ => holds_ite (P := Lawful) (h.aside (.withLink s _)) h
  | attemptStart =>
    cases e
    refine h.outside fun _ => holds_ite (P := Lawful) ?_ h
    split
    · exact h.aside (sendKind_aside _ s)
    · exact h
  | arbitrationLost bit => cases e; exact h.outside fun _ => h.stopSending bit
  | duplicateKeyStop bit =>
    cases e; exact h.outside fun _ => holds_ite (P := Lawful) (h.stopSending bit).evidence h
  | failedAttempt =>
    cases e; exact h.outside fun _ => holds_ite (P := Lawful) (h.aside (failed_aside s)).startTests h
  | retryWaitEnd b => cases e; exact h.outside fun _ => holds_ite (P := Lawful) (h.aside (.withLink s _)) h
  | clearAccepted z w =>
    cases e
    exact h.acceptFrame fun u hu => holds_whenApplied (P := Lawful) hu (hu.registerEvent _).declarationCheck
  | overrideAccepted z w => cases e; exact h.acceptFrame fun u hu => holds_whenApplied (P := Lawful) hu (hu.applyOverride w)
  | fireDeclareAccepted z ws =>
    cases e; exact h.acceptFrame fun u hu => holds_whenApplied (P := Lawful) hu (hu.applyDeclare _ z ws)
  | startClaimAccepted urgent z w =>
    cases e
    refine h.acceptFrame fun u hu => ?_
    split
    · exact hu.ownClaim
    · exact holds_whenApplied (P := Lawful) hu (hu.peerClaim _)
  | statusAccepted z w1 w2 w3 w4 => cases e; exact h.acceptFrame fun u hu => hu.applyStatus _ z w1 w2 w3
  | otherFrameAccepted cls z ws => cases e; exact h.acceptFrame fun u hu => hu
  | isolatedDeclarationTimerExpiry => cases e; exact h.outside fun _ => holds_ite (P := Lawful) (h.registerEvent _) h
  | alarmChange active =>
    cases e
    refine holds_ite (P := Lawful) h (Lawful.aside ?_ (settleRaises_aside _ _))
    have htaken : Lawful (s.withPanel { s.panel with alarm := takeLevel active }) := h.aside (.withPanel rfl)
    exact htaken.outside fun hr => htaken.alarmEvent active (hfive hr)
  | panelResetPulse =>
    cases e
    have htaken : Lawful (s.withPanel { s.panel with panelReset := takePulse s.panel.panelReset }) :=
      h.aside (.withPanel rfl)
    exact holds_ite (P := Lawful) h
      (htaken.outside fun _ => holds_ite (P := Lawful) (htaken.aside (.withLink _ _)) htaken)
  | ackPulse b =>
    cases e
    have htaken : Lawful (s.withPanel { s.panel with ack := takePulse s.panel.ack }) := h.aside (.withPanel rfl)
    exact holds_ite (P := Lawful) h (htaken.outside fun _ => htaken.unmoved (.of_lessReports (acknowledge_lessReports _ b)))
  | statusPeriodTimerExpiry =>
    cases e
    exact h.outside fun _ => holds_ite (P := Lawful)
      (h.aside ((Aside.withStatus s _).trans (.of_lessReports (queueStatus_lessReports _)))) h
  | spacingTimerExpiry z => cases e; exact h.outside fun _ => h.unmoved (setPeer_unmoved _ _ s)
  | silenceTimerExpiry z => cases e; exact h.outside fun _ => (h.silenceExpiry z.toNat).aside (settleRaises_aside _ _)
  | holdOffExpiry =>
    cases e; exact h.outside fun _ => holds_ite (P := Lawful) (h.aside (.withStarts s _)).startTests h
  | provingTimerExpiry c => cases e; exact h.outside fun _ => h.provingExpiry c
  | runDownTimerExpiry c => cases e; exact h.outside fun _ => (h.runDownExpiry c).startTests
  | travelTimerExpiry c => cases e; exact h.outside fun _ => (h.travelExpiry c).startTests
  | provingSwitchChange c made => cases e; exact holds_ite (P := Lawful) h (h.inputChange c .a .a made)
  | limitChange c i made => cases e; exact holds_ite (P := Lawful) h (h.inputChange c i i made)
  | graceTimerExpiry => cases e; exact h.outside fun _ => h.unmoved (graceExpiry_unmoved s)
  | conversionADone a =>
    cases e
    refine h.outside fun _ => ?_
    split
    · exact h.withMeas _
    · exact h
  | pairComplete b =>
    cases e
    refine h.outside fun _ => ?_
    split
    · next p a _ =>
      have hscan : Lawful (setScan (scanFrom s (p.val + 1)) s) := h.withMeas _
      exact holds_ite (P := Lawful) ((hscan.pairEvent p a b).aside (settleRaises_aside _ _)) (hscan.pairEvent p a b)
    · exact h
  | supplySample k =>
    cases e
    refine h.outside fun _ => ?_
    split
    · exact Lawful.supplyEvent (s := setScan (scanFrom s 0) s) (h.withMeas _) _
    · exact h
  | pulseLineReturnInactive line => cases e; cases line <;> exact h.aside (.withPanel rfl)

end Sys2Proof.Machine

open Sys2Proof Sys2Proof.Machine in
/-- Settles O7: each event settles the channel it moves and tells the fans that name it, a recompute leaves no channel untold
of its target, the entries to ACTIVE settle every channel, and what else happens moves none. -/
theorem stepKeepsChannelsLaw : Obligations.StepKeepsChannelsLaw := by
  intro s t hmode hrole h e
  have hs : Lawful s := channelsLaw_iff.mp h
  refine channelsLaw_iff.mpr ?_
  rcases step_cases e with ⟨i, rest, hi⟩ | rfl
  · exact exec_lawful (s := s.withPending rest) hmode hrole (hs.kept (.of_ctl rfl rfl) rfl) hi
  · exact hs.passMs
end
